-- ==== Sys2Proof/Word.lean ====
section
/-!
DEFINITION. Word.lean: the word types, the two pockets, and pairs of one value per pocket.
Counts, credits, seconds and instants are Nat and temperature codes are Int, because the manual does
whole-number arithmetic on them (00 section 7); bytes and 16-bit halves are what stands on the wires.
-/

namespace Sys2Proof

/-- A byte of a frame, of a record or of the journal memory (12). -/
abbrev Byte := BitVec 8

/-- A 16-bit little-endian field as a frame carries it (12). -/
abbrev Half := BitVec 16

/-- The two pockets: pocket U, index 0, and pocket L, index 1 (00 section 5). -/
inductive PocketId where
  | U
  | L
  deriving DecidableEq, Repr

/-- The other pocket. -/
def PocketId.other : PocketId → PocketId
  | .U => .L
  | .L => .U

/-- One value for each pocket. -/
structure Pair (α : Type) where
  u : α
  l : α
  deriving DecidableEq, Repr

/-- The value of one pocket. -/
def Pair.get {α : Type} (x : Pair α) : PocketId → α
  | .U => x.u
  | .L => x.l

/-- Replace the value of one pocket. -/
def Pair.set {α : Type} (x : Pair α) (p : PocketId) (v : α) : Pair α :=
  match p with
  | .U => { x with u := v }
  | .L => { x with l := v }

/-- The same value for both pockets. -/
def Pair.both {α : Type} (v : α) : Pair α := ⟨v, v⟩

@[simp] theorem Pair.get_set_self {α : Type} (x : Pair α) (p : PocketId) (v : α) :
    (x.set p v).get p = v := by cases p <;> rfl

@[simp] theorem Pair.get_set_other {α : Type} (x : Pair α) {p q : PocketId} (v : α) (h : q ≠ p) :
    (x.set p v).get q = x.get q := by cases p <;> cases q <;> first | rfl | exact absurd rfl h

@[simp] theorem Pair.get_both {α : Type} (v : α) (p : PocketId) : (Pair.both v).get p = v := by
  cases p <;> rfl

@[simp] theorem PocketId.other_ne (p : PocketId) : p.other ≠ p := by cases p <;> decide

end Sys2Proof
end

