-- ==== Sys2Proof/Syntax.lean ====
section
/-!
DEFINITION. Syntax.lean: the commands, one constructor for each row of the table of operations and
events. Every command carries dt, the microseconds since the command before it (log 4). A request row
is a clean whole frame of that request with its tag and its arguments at their widths on the wire
(12.2, log 8). A row that the surroundings raise carries what the block can then read from them.
-/

namespace Sys2Proof

/-- The four contact inputs of a pocket (02 table of 2.2). -/
inductive ContactInput where
  | door
  | airflow
  | hilimit
  | heatFb
  deriving DecidableEq, Repr

/-- One character on RXD as the receiver samples it (R158): three samples in each of its eleven bit
times. Bit 0 is the start bit, bits 1 to 8 the byte (least significant first), bit 9 the mark and
bit 10 the stop bit. -/
structure LineChar where
  first : BitVec 11
  second : BitVec 11
  third : BitVec 11
  deriving DecidableEq, Repr

/-- The commands. -/
inductive Instr where
  -- requests (10.6)
  | status (dt : Nat) (tag : Byte)
  | pocket (dt : Nat) (tag pocket : Byte)
  | startCycle (dt : Nat) (tag pocket : Byte) (t : Half) (stage : Byte) (c thetaX w : Half)
      (b : Byte) (rt : Half) (reverse autoResume : Byte)
  | extend (dt : Nat) (tag pocket : Byte) (amount : Half)
  | setStage (dt : Nat) (tag pocket stage : Byte)
  | endHeat (dt : Nat) (tag pocket : Byte)
  | stop (dt : Nat) (tag pocket : Byte)
  | continueCycle (dt : Nat) (tag pocket : Byte)
  | plan (dt : Nat) (tag pocket : Byte)
  | confirm (dt : Nat) (tag pocket : Byte)
  | decline (dt : Nat) (tag pocket : Byte)
  | clearPocket (dt : Nat) (tag selector : Byte)
  | clearPart (dt : Nat) (tag : Byte)
  | events (dt : Nat) (tag : Byte)
  | configRead (dt : Nat) (tag group field : Byte)
  | configWrite (dt : Nat) (tag group field : Byte) (value : Half)
  | configStore (dt : Nat) (tag : Byte)
  | journalRead (dt : Nat) (tag pocket slot : Byte)
  -- the serial line (10.1 to 10.3)
  | frameReceived (dt : Nat) (chars : List LineChar)
  | frameGapTimeout (dt : Nat)
  | lineBreak (dt : Nat)
  | lineBreakEnd (dt : Nat)
  | replyDelivered (dt : Nat)
  -- the mains (05); vline is the largest peak code of VLINE since the last command of this kind
  | zeroCrossing (dt : Nat) (vline : Byte)
  | silenceTimerExpiry (dt : Nat)
  -- the supply (06); acked is the number of data bytes acknowledged in a write attempt on the bus
  | vhuReachesWake (dt : Nat) (vhu : Byte)
  | vhuReachesArm (dt : Nat) (vhu : Byte)
  | armTimerExpiry (dt : Nat)
  | vhuBelowWriteFloor (dt : Nat) (vhu : Byte)
  | vhuBelowDark (dt : Nat) (vhu : Byte) (acked : Nat)
  | rstAssert (dt : Nat) (acked : Nat)
  | rstRelease (dt : Nat)
  | backupClockSecond (dt : Nat)
  | doorWatchFilterExpiry (dt : Nat) (p : PocketId)
  -- sensing (02); a level is true in the input's active sense, or high for TACH
  | rawContactChange (dt : Nat) (p : PocketId) (input : ContactInput) (level : Bool)
  | contactFilterExpiry (dt : Nat) (p : PocketId) (input : ContactInput)
  | settlingTimerExpiry (dt : Nat) (p : PocketId) (input : ContactInput)
  | tachEdge (dt : Nat) (p : PocketId) (level : Bool)
  | tachPulseAccepted (dt : Nat) (p : PocketId)
  | turningWindowExpiry (dt : Nat) (p : PocketId)
  | temperatureConversion (dt : Nat) (p : PocketId) (code : BitVec 10)
  -- the pockets' timers (01, 03, 04)
  | pocketTimerExpiry (dt : Nat) (p : PocketId)
  | periodicTimerExpiry (dt : Nat) (p : PocketId)
  | startProofTimerExpiry (dt : Nat) (p : PocketId)
  | airflowGraceExpiry (dt : Nat) (p : PocketId)
  | purgeTimerExpiry (dt : Nat) (p : PocketId)
  | heatGraceExpiry (dt : Nat) (p : PocketId)
  | ignitionTrialExpiry (dt : Nat) (p : PocketId)
  | heatStartHoldEnd (dt : Nat)
  | motorStartHoldEnd (dt : Nat)
  | restTimerExpiry (dt : Nat) (p : PocketId)
  | burstProofTimerExpiry (dt : Nat) (p : PocketId)
  -- the journal (07, 08)
  | checkpointWriteStart (dt : Nat)
  | checkpointWriteComplete (dt : Nat)
  | configStoreStart (dt : Nat)
  | configStoreComplete (dt : Nat)
  | journalReadStart (dt : Nat)
  | journalReadComplete (dt : Nat)
  | attemptNoAck (dt : Nat) (acked : Nat)
  | retryWaitExpiry (dt : Nat)
  | busTimeout (dt : Nat) (acked : Nat)
  | recoveryEnd (dt : Nat)
  | configurationReadComplete (dt : Nat)
  | slotReadComplete (dt : Nat)
  | backupSupplyFailure (dt : Nat)
  | overlongFrameLength (dt : Nat) (kind tag length : LineChar)
  deriving DecidableEq, Repr

end Sys2Proof
end

