-- ==== Sys2Proof/Decode.lean ====
section
/-!
DEFINITION. Decode.lean: the commands that a word spells. The table of operations and events gives bits
to no row, so no word spells a command.
-/

namespace Sys2Proof

/-- The command that the bits w spell among the rows to which the table gives bits: none has any. -/
def decodeTableWord (_nbits _w : Nat) : Option Instr := none

end Sys2Proof
end

