-- ==== Sys2Proof/Config.lean ====
section
/-!
DEFINITION. Config.lean: what a part holds before anything is stored in it (the defaults of 11.1), the
constant lengths of the manual, and the one value the manual leaves open.
The working copy is held in the manual's own form: four groups of fields, each field at its field id.
-/

namespace Sys2Proof

/-- The working copy of the configuration (R171): the part group, one pocket installation group for
each pocket, and the plan group. A group is its fields' values in the order of their field ids. -/
structure WorkingCopy where
  part : List Int
  inst : Pair (List Int)
  plan : List Int
  deriving DecidableEq, Repr

namespace Config

/-- Default part group: ids 0 to 12, then the breakpoint codes (13 to 21) and temperatures (22 to 30)
of the default table (11.1). -/
def partDefaults : List Int :=
  [200, 3, 8, 20, 160, 100, 120, 80, 60, 30, 0, 2, 2]
    ++ [40, 120, 220, 340, 480, 620, 760, 880, 980]
    ++ [400, 300, 220, 160, 110, 70, 30, 0, -40]

/-- Default pocket installation group, ids 0 to 17 (11.1). -/
def instDefaults : List Int :=
  [0, 30, 10, 3, 15, 5, 15, 1, 50, 200, 10, 50, 2, 1200, 190, 1, 14400, 0]

/-- Default plan group: ids 0 to 5, then the decay table F[0] to F[15] (11.1). -/
def planDefaults : List Int :=
  [50, 300, 40, 7200, 3600, 120]
    ++ [256, 226, 200, 172, 150, 128, 112, 98, 86, 76, 67, 59, 52, 46, 41, 36]

/-- Every field at its default. -/
def defaults : WorkingCopy :=
  { part := partDefaults, inst := Pair.both instDefaults, plan := planDefaults }

/-- What a byte of the journal memory reads as before anything is written there
(DESIGN CHOICE, log 3: the manual gives no contents for a new memory). -/
def freshByte : Byte := 0xFF#8

/-- FREE VALUE (log 30): the two θ bytes of a POCKET reply composed while θ is not yet valid (R170,
12.4 give the bytes a place and no value). Applied to the counter State.free, so that each use may
give another value. -/
opaque thetaNotValid : Nat → Half

end Config

/-- The default wake threshold, the code at which the part leaves DARK (R99). -/
def Config.darkWakeCode : Nat := 100

end Sys2Proof
end

