-- ==== Sys2Proof/Machine/State.lean ====
section
/-!
DEFINITION. Machine/State.lean: everything the manual says the part holds, block by block (00 section 3),
and the machine right after reset. Instants are microseconds of State.time (log 4); a timer is its
expiry instant, or none while it is stopped.
-/

namespace Sys2Proof.Machine

/-! ### Line Monitor (05, 5.1) -/

/-- Line states. -/
inductive LineState where
  | qualifying
  | normal
  | rideThrough
  | lowLine
  | lost
  deriving DecidableEq, Repr

/-- The supply frequency found at qualification (R88). -/
inductive Frequency where
  | unknown
  | hz50
  | hz60
  deriving DecidableEq, Repr

/-- The class of a half-cycle (R86). -/
inductive HalfCycle where
  | good
  | low
  | missing
  deriving DecidableEq, Repr

/-- State of the Line Monitor (table of 5.1). -/
structure LineMonitor where
  line : LineState
  goodRun : Nat
  lowCount : Nat
  missingCount : Nat
  intervalSum : Nat
  freq : Frequency
  lastCrossing : Option Nat
  silence : Nat
  /-- A MISSING half-cycle was counted by the silence timer since the last accepted crossing (R86). -/
  missed : Bool
  peak : Byte
  deriving DecidableEq, Repr

/-- The wake values of the Line Monitor at instant now (R83, R85). -/
def LineMonitor.wake (now : Nat) : LineMonitor :=
  { line := .qualifying, goodRun := 0, lowCount := 0, missingCount := 0, intervalSum := 0,
    freq := .unknown, lastCrossing := none, silence := now + 14000, missed := false, peak := 0#8 }

/-! ### Supply Supervisor (06) -/

/-- Stages of WAKE (R97). -/
inductive WakeStage where
  | qualify
  | load
  | arm
  deriving DecidableEq, Repr

/-- Power states, with the stage while in WAKE (R97). -/
inductive Power where
  | reset
  | dark
  | wake (stage : WakeStage)
  | run
  | holdUp
  deriving DecidableEq, Repr

/-- Causes of JOURNAL_FAULT (R126). -/
inductive JournalCause where
  | noAck
  | timeout
  | exhausted
  | unreadable
  deriving DecidableEq, Repr

/-- Places of JOURNAL_FAULT (R126). -/
inductive JournalPlace where
  | ring (p : PocketId)
  | configBlock
  | serviceRead
  deriving DecidableEq, Repr

/-- State of the Supply Supervisor (R97, R98, R112). -/
structure Supply where
  power : Power
  armTimer : Option Nat
  returnMark : Bool
  storeWeak : Bool
  backupLost : Bool
  configDefaulted : Bool
  journalFault : Option (JournalCause × JournalPlace)
  /-- The last sampled VHU code. -/
  vhu : Byte
  /-- Whether the last sample compared with the wake threshold was at or above it (R98); so below. -/
  atWake : Bool
  atFloor : Bool
  atDark : Bool
  deriving DecidableEq, Repr

/-! ### Backup Domain (06, 6.6) -/

/-- The door watch of one pocket (R110). -/
structure DoorWatch where
  armed : Bool
  count : Nat
  /-- The watch's filtered level, true for closed. -/
  closed : Bool
  cand : Option Nat
  settling : Option Nat
  deriving DecidableEq, Repr

/-- The door watch a cold start leaves (R100, R110): count 0, armed, settling from now. Its level
before it settles is open (DESIGN CHOICE, log 18; no rule reads it before it settles). -/
def DoorWatch.cold (now : Nat) : DoorWatch :=
  { armed := true, count := 0, closed := false, cand := none, settling := some now }

/-- State of the Backup Domain (6.6). -/
structure Backup where
  clock : Nat
  epoch : Nat
  valid : Bool
  watch : Pair DoorWatch
  deriving DecidableEq, Repr

/-- A stamp: a backup clock value and an epoch (00 section 5). -/
structure Stamp where
  clock : Nat
  epoch : Nat
  deriving DecidableEq, Repr

/-! ### Input Conditioner (02) -/

/-- One contact input: the filtered level (true for the active sense), the instant settling began
while it settles (R33), and the instant the candidate was first held while there is one (R32). -/
structure Contact where
  level : Bool
  settling : Option Nat
  cand : Option Nat
  deriving DecidableEq, Repr

/-- A contact at a wake (R33). -/
def Contact.wake (now : Nat) : Contact := { level := false, settling := some now, cand := none }

/-- A raw TACH pulse in progress (R35). -/
structure TachPulse where
  since : Nat
  accepted : Bool
  deriving DecidableEq, Repr

/-- What the Input Conditioner holds for one pocket (table of 2.1). -/
structure Sensing where
  door : Contact
  airflow : Contact
  hilimit : Contact
  heatFb : Contact
  tachPulse : Option TachPulse
  /-- The accepted instant the turning window runs from, or none when it is expired (R36). -/
  lastPulse : Option Nat
  residue : Nat
  revs : BitVec 16
  /-- The sample set, oldest first (R39). -/
  samples : List Int
  used : Nat
  theta : Option Int
  goodRun : Nat
  nextConversion : Nat
  deriving DecidableEq, Repr

/-- The wake values of the Input Conditioner for one pocket (R31, R38). -/
def Sensing.wake (now : Nat) : Sensing :=
  { door := Contact.wake now, airflow := Contact.wake now, hilimit := Contact.wake now,
    heatFb := Contact.wake now, tachPulse := none, lastPulse := none, residue := 0, revs := 0#16,
    samples := [], used := 0, theta := none, goodRun := 0, nextConversion := now + 250000 }

/-! ### Pocket Sequencer (01, 03, 04) -/

/-- The fifteen phases (R1). -/
inductive Phase where
  | idle
  | startWait
  | spinup
  | purge
  | ignition
  | heat
  | heatWait
  | cool
  | acRest
  | acBurst
  | done
  | paused
  | held
  | faultHold
  | recovering
  deriving DecidableEq, Repr

/-- Targets (R5). -/
inductive Target where
  | heat
  | cool
  | antiCrease
  deriving DecidableEq, Repr

/-- Cool exits (R17). -/
inductive CoolExit where
  | antiCrease
  | done
  | faultHold
  deriving DecidableEq, Repr

/-- Heat end causes (R4, R14). -/
inductive HeatCause where
  | none
  | target
  | appEnd
  | stop
  | guard
  | vent
  | limit
  | ignition
  | sensor
  deriving DecidableEq, Repr

/-- Stages of heat (R26). -/
inductive HeatStage where
  | full
  | reduced
  deriving DecidableEq, Repr

/-- Heat kinds (R6). -/
inductive HeatKind where
  | gas
  | electric
  deriving DecidableEq, Repr

/-- Actions of a guard (R81). -/
inductive GuardAction where
  | report
  | endHeat
  | hold
  deriving DecidableEq, Repr

/-- The two guards (R81). -/
inductive Guard where
  | tempHigh
  | runLong
  deriving DecidableEq, Repr

/-- The five cycle-bound copies (R6). -/
structure Copies where
  heatKind : HeatKind
  purge : Nat
  trial : Nat
  tries : Nat
  cmax : Nat
  deriving DecidableEq, Repr

/-- The run record (R4), but for the live phase and the sticky faults, which stand beside it. -/
structure RunRecord where
  target : Target
  coolExit : CoolExit
  cause : HeatCause
  d : Nat
  t : Nat
  stage : HeatStage
  autoResume : Bool
  reverse : Bool
  h : Nat
  c : Nat
  coolTarget : Nat
  thetaX : Int
  thetaRef : Int
  tref : Stamp
  window : Nat
  acStart : Stamp
  burst : Nat
  rest : Nat
  tries : Nat
  trips : Nat
  copies : Copies
  deriving DecidableEq, Repr

/-- The cleared run record (R4), with the current epoch and the given cycle-bound copies (R6). -/
def RunRecord.cleared (epoch : Nat) (copies : Copies) : RunRecord :=
  { target := .heat, coolExit := .done, cause := .none, d := 0, t := 240, stage := .full,
    autoResume := false, reverse := false, h := 0, c := 0, coolTarget := 0, thetaX := 0,
    thetaRef := 0, tref := ⟨0, epoch⟩, window := 0, acStart := ⟨0, epoch⟩, burst := 1, rest := 30,
    tries := 0, trips := 0, copies := copies }

/-- The names of the six sticky pocket faults (R30). -/
inductive PocketFault where
  | ignitionLockout
  | drumStall
  | ventBlocked
  | highLimit
  | guardHold
  | sensor
  deriving DecidableEq, Repr

/-- The set of sticky pocket faults (R30). -/
structure FaultSet where
  ignitionLockout : Bool
  drumStall : Bool
  ventBlocked : Bool
  highLimit : Bool
  guardHold : Bool
  sensor : Bool
  deriving DecidableEq, Repr

/-- No fault set. -/
def FaultSet.empty : FaultSet := ⟨false, false, false, false, false, false⟩

/-- The timers of a pocket, each an expiry instant or stopped: pocket timer (R2), periodic (R21),
purge (R65), ignition trial (R69), start proof (R50), airflow grace (R51), heat grace (R66, R77),
rest (R57), burst proof (R58). -/
structure PocketTimers where
  second : Option Nat
  periodic : Option Nat
  purge : Option Nat
  trial : Option Nat
  startProof : Option Nat
  airflowGrace : Option Nat
  heatGrace : Option Nat
  rest : Option Nat
  burstProof : Option Nat
  deriving DecidableEq, Repr

/-- Every timer stopped. -/
def PocketTimers.stopped : PocketTimers :=
  ⟨none, none, none, none, none, none, none, none, none⟩

/-- The record kinds (R116). -/
inductive RecordKind where
  | start
  | periodic
  | phase
  | loss
  | resume
  deriving DecidableEq, Repr

/-- The recorded phases (R19). -/
inductive RecordedPhase where
  | heat
  | cool
  | antiCrease
  | paused
  | held
  | fault
  | done
  | idle
  deriving DecidableEq, Repr

/-- What the scan hands the planner beside the run record (R138): no record in a writable ring, a ring
that could not be read, or the kind, recorded phase and fault summary of the recovered record. -/
inductive Recovered where
  | none
  | unreadable
  | record (kind : RecordKind) (phase : RecordedPhase) (faults : FaultSet)
  deriving DecidableEq, Repr

/-- A Pocket Sequencer. -/
structure Pocket where
  phase : Phase
  run : RunRecord
  faults : FaultSet
  motorRun : Bool
  motorRev : Bool
  timers : PocketTimers
  /-- θref and tref are frozen (R18, R138). -/
  frozen : Bool
  /-- Rotation is proven in this SPINUP (R51, R54). -/
  proven : Bool
  /-- The first burst pulse of this AC_BURST is seen (R58). -/
  firstPulse : Bool
  /-- The window reached mark (R58, R59). -/
  windowReached : Bool
  /-- The last burst ran in reverse (R44). -/
  lastBurstReverse : Bool
  tempHighTripped : Bool
  runLongTripped : Bool
  recovered : Recovered
  deriving DecidableEq, Repr

/-- A pocket at a wake (R1, R44, R81). -/
def Pocket.wake (epoch : Nat) (copies : Copies) : Pocket :=
  { phase := .recovering, run := RunRecord.cleared epoch copies, faults := FaultSet.empty,
    motorRun := false, motorRev := false, timers := PocketTimers.stopped, frozen := false,
    proven := false, firstPulse := false, windowReached := false, lastBurstReverse := false,
    tempHighTripped := false, runLongTripped := false, recovered := .none }

/-! ### Start Slot Arbiter (03) -/

/-- Kinds of start request (3.2). -/
inductive StartKind where
  | motorStart
  | heatStart
  deriving DecidableEq, Repr

/-- A start request (R45). -/
structure StartRequest where
  pocket : PocketId
  kind : StartKind
  deriving DecidableEq, Repr

/-- A granted request: the instant of its grant and, where its hold is timed, the end of it (R47). -/
structure Grant where
  request : StartRequest
  since : Nat
  holdEnd : Option Nat
  deriving DecidableEq, Repr

/-- State of the arbiter (R45). -/
structure Arbiter where
  slot : Option Grant
  queue : List StartRequest
  deriving DecidableEq, Repr

/-- Slot free, queue empty (R49). -/
def Arbiter.idle : Arbiter := ⟨none, []⟩

/-! ### Journal Controller (07, 08) -/

/-- Condition of a ring (R114). -/
inductive RingCondition where
  | notBuilt
  | writable
  | exhausted
  | unreadable
  deriving DecidableEq, Repr

/-- A ring state (R114). The newest slot and newest sequence are present together. -/
structure RingState where
  newest : Option (Fin 124 × Nat)
  nextSlot : Fin 124
  nextSeq : Nat
  condition : RingCondition
  deriving DecidableEq, Repr

/-- A ring state at a wake (R114). -/
def RingState.notBuilt : RingState := ⟨none, 0, 1, .notBuilt⟩

/-- What an entry of the write queue asks for (R116, R118). -/
inductive WriteKind where
  | checkpoint (p : PocketId) (kind : RecordKind)
  | store
  | read (p : PocketId) (slot : Fin 124)
  deriving DecidableEq, Repr

/-- An entry of the write queue: its requester and kind, and its age (R118). -/
structure WriteRequest where
  what : WriteKind
  age : Nat
  deriving DecidableEq, Repr

/-- What the bus engine is serving (R123, R133). A checkpoint write carries its slot, sequence and
image (R120); a configuration store its block (R130). -/
inductive Job where
  | checkpoint (p : PocketId) (slot : Fin 124) (seq : Nat) (image : List Byte)
  | store (block : List Byte)
  | read (p : PocketId) (slot : Fin 124)
  | configRead
  | slotRead (p : PocketId) (slot : Fin 124)
  deriving DecidableEq, Repr

/-- Engine states while a request is served (table of 7.5). -/
inductive EnginePhase where
  | transfer
  | retryWait (until_ : Nat)
  | recovery
  deriving DecidableEq, Repr

/-- The bus engine (7.5): FREE, or serving a job with its attempt count. -/
inductive Engine where
  | free
  | busy (job : Job) (attempt : Nat) (phase : EnginePhase)
  deriving DecidableEq, Repr

/-- The best slot of a ring in the scan: its index, sequence and bytes (R133, R135). -/
structure BestSlot where
  slot : Fin 124
  seq : Nat
  bytes : List Byte
  deriving DecidableEq, Repr

/-- The scan record of a ring (R133). -/
structure ScanRing where
  unreadable : Bool
  best : Option BestSlot
  deriving DecidableEq, Repr

/-- The scan record: both rings, and the epochs of the valid records read so far. The largest epoch of
R133 is the largest of them; R139 also asks which values no valid record carries. -/
structure Scan where
  rings : Pair ScanRing
  epochs : List Nat
  deriving DecidableEq, Repr

/-- State of the Journal Controller. -/
structure JournalController where
  rings : Pair RingState
  queue : List WriteRequest
  engine : Engine
  scan : Option Scan
  deriving DecidableEq, Repr

/-- The Journal Controller at a wake (R129). -/
def JournalController.wake : JournalController :=
  ⟨Pair.both RingState.notBuilt, [], .free, none⟩

/-! ### Resume Planner (09) -/

/-- Plan kinds (9.1). -/
inductive PlanKind where
  | resumeHeat
  | holdHeat
  | resumeCool
  | skipToAntiCrease
  | resumeAntiCrease
  | finish
  | stayPaused
  | stayHeld
  | stayFault
  | stayDone
  | stayIdle
  deriving DecidableEq, Repr

/-- The set of hold reasons (R148). -/
structure HoldReasons where
  unknownOutage : Bool
  longOutage : Bool
  doorInDark : Bool
  staleRecord : Bool
  autoOff : Bool
  deriving DecidableEq, Repr

/-- The figures of stages 1 to 4 (R145 to R147); e is none when E is UNKNOWN. -/
structure Figures where
  e : Option Nat
  f : Nat
  thetaN : Int
  delta : Nat
  r : Nat
  dPrime : Nat
  remaining : Nat
  seconds : Nat
  deriving DecidableEq, Repr

/-- A plan record (9.1) whose state is PENDING or APPLIED; the state NONE is the absence of one. -/
structure PlanRecord where
  applied : Bool
  kind : PlanKind
  dest : Phase
  destTarget : Target
  reasons : HoldReasons
  figures : Figures
  cPrime : Nat
  window : Nat
  doorCount : Nat
  deriving DecidableEq, Repr

/-! ### Message Link (10) -/

/-- The receiver (R159). In RECEIVING: the bytes taken so far and whether a character had an error. -/
inductive Receiver where
  | idle
  | receiving (bytes : List Byte) (error : Bool)
  | skipping
  | lineBreak
  deriving DecidableEq, Repr

/-- A frame in the transmitter (R163). -/
structure TxFrame where
  reject : Bool
  bytes : List Byte
  deriving DecidableEq, Repr

/-- What the composed reply of an outstanding EVENTS reported (R168): the count, the lost flag, and
whether an event has been discarded since. -/
structure EventsReply where
  count : Nat
  lost : Bool
  discarded : Bool
  deriving DecidableEq, Repr

/-- The outstanding request (R162). -/
structure Outstanding where
  kind : Byte
  tag : Byte
  events : Option EventsReply
  deriving DecidableEq, Repr

/-- Event kinds, in the order of the table of R168. -/
inductive EventKind where
  | lineNormal
  | lineRide
  | lineLow
  | lineLost
  | storeWeak
  | phaseChanged
  | coolTimeout
  | heatEnded
  | heatEstablished
  | ignitionFailed
  | pocketFault
  | guardTripped
  | inputChanged
  | sensorFault
  | sensorOk
  | journalRetry
  | journalFault
  | backupLost
  | planReady
  deriving DecidableEq, Repr

/-- An event entry (R166). -/
structure EventEntry where
  kind : EventKind
  pocket : Option PocketId
  time : Half
  arg : Half
  deriving DecidableEq, Repr

/-- State of the Message Link. -/
structure Link where
  rx : Receiver
  tx : List TxFrame
  outstanding : Option Outstanding
  orphan : Bool
  events : List EventEntry
  lost : Bool
  deriving DecidableEq, Repr

/-- The Message Link at a wake (R164). -/
def Link.wake : Link := ⟨.idle, [], none, false, [], false⟩

/-! ### Pins -/

/-- Raw levels of a pocket's contacts, each true for the active sense (2.2). -/
structure RawContacts where
  door : Bool
  airflow : Bool
  hilimit : Bool
  heatFb : Bool
  deriving DecidableEq, Repr

/-- The levels on the input pins that the block reads (12.7). -/
structure Pins where
  contacts : Pair RawContacts
  tach : Pair Bool
  rst : Bool
  deriving DecidableEq, Repr

/-! ### The part -/

/-- The whole state of the part, with the queue of commands that wait. -/
structure State where
  /-- The instant of the latest command, in microseconds (log 4). -/
  time : Nat
  /-- The model's own counter of uses of the free value (log 30). -/
  free : Nat
  /-- The commands that wait, first in first out. -/
  pending : List Instr
  pins : Pins
  cfg : WorkingCopy
  lm : LineMonitor
  ss : Supply
  bd : Backup
  ic : Pair Sensing
  psq : Pair Pocket
  ssa : Arbiter
  jc : JournalController
  rp : Pair (Option PlanRecord)
  ml : Link
  /-- The journal memory (R113), canonical: addresses rise, no entry reads as an unlisted byte does. -/
  journal : List Host.Cell
  /-- A configuration store was cut, or an attempt of it failed, after some of its bytes were acknowledged,
  and no store has completed since: the block's record check fails (R127, R176; log 34). It is the
  memory's, so it outlives DARK. -/
  storeCut : Bool
  deriving DecidableEq, Repr

/-- The manual gives no event that stops the part: every rule leads to a next state, and the faults it
names are bits of state (R30, R112). So there is no fault reason; none is raised (log 32, safe). -/
inductive Fault where
  deriving DecidableEq, Repr

/-- Reasons to refuse a command. -/
inductive Refusal where
  /-- Raised by an arm of exec that has no meaning yet, under the row's name. Safe. -/
  | notModelled (mnemonic : String)
  deriving DecidableEq, Repr

/-- The copies that the default working copy gives a pocket (R6, 11.1). -/
def Copies.default : Copies := ⟨.gas, 30, 10, 3, 1200⟩

/-- The machine right after reset: the wake of a cold start of a new part, at stage QUALIFY (R100;
log 1). Every block holds the wake value its own rule gives (R1, R31, R49, R83, R100, R114, R129, R143,
R164); the pins and VHU are those of log 2. -/
def State.reset : State :=
  { time := 0
    free := 0
    pending := []
    pins := { contacts := Pair.both ⟨false, false, false, false⟩, tach := Pair.both false, rst := false }
    cfg := Config.defaults
    lm := LineMonitor.wake 0
    ss := { power := .wake .qualify, armTimer := none, returnMark := false, storeWeak := false,
            backupLost := false, configDefaulted := false, journalFault := none, vhu := 100#8,
            atWake := true, atFloor := true, atDark := true }
    bd := { clock := 0, epoch := 0, valid := true, watch := Pair.both (DoorWatch.cold 0) }
    ic := Pair.both (Sensing.wake 0)
    psq := Pair.both (Pocket.wake 0 Copies.default)
    ssa := Arbiter.idle
    jc := JournalController.wake
    rp := Pair.both none
    ml := Link.wake
    journal := []
    storeCut := false }

end Sys2Proof.Machine
end

