-- ==== Sys2Proof/Machine/Flags.lean ====
section
/-!
DEFINITION. Machine/Flags.lean: the code of every enumeration and the bit of every member of a set
(12.2, 12.3), with the decoders of those that are read back from records and requests.
-/

namespace Sys2Proof.Machine

/-! ### Codes of 12.3 -/

/-- Live phase codes. -/
def Phase.code : Phase → Byte
  | .idle => 0#8
  | .startWait => 1#8
  | .spinup => 2#8
  | .purge => 3#8
  | .ignition => 4#8
  | .heat => 5#8
  | .heatWait => 6#8
  | .cool => 7#8
  | .acRest => 8#8
  | .acBurst => 9#8
  | .done => 10#8
  | .paused => 11#8
  | .held => 12#8
  | .faultHold => 13#8
  | .recovering => 14#8

/-- Recorded phase codes. -/
def RecordedPhase.code : RecordedPhase → Byte
  | .heat => 1#8
  | .cool => 2#8
  | .antiCrease => 3#8
  | .paused => 4#8
  | .held => 5#8
  | .fault => 6#8
  | .done => 7#8
  | .idle => 8#8

def RecordedPhase.ofCode (b : Byte) : Option RecordedPhase :=
  match b.toNat with
  | 1 => some .heat
  | 2 => some .cool
  | 3 => some .antiCrease
  | 4 => some .paused
  | 5 => some .held
  | 6 => some .fault
  | 7 => some .done
  | 8 => some .idle
  | _ => none

/-- Record kind codes. -/
def RecordKind.code : RecordKind → Byte
  | .start => 1#8
  | .periodic => 2#8
  | .phase => 3#8
  | .loss => 4#8
  | .resume => 5#8

def RecordKind.ofCode (b : Byte) : Option RecordKind :=
  match b.toNat with
  | 1 => some .start
  | 2 => some .periodic
  | 3 => some .phase
  | 4 => some .loss
  | 5 => some .resume
  | _ => none

/-- Target codes. -/
def Target.code : Target → Byte
  | .heat => 1#8
  | .cool => 2#8
  | .antiCrease => 3#8

def Target.ofCode (b : Byte) : Option Target :=
  match b.toNat with
  | 1 => some .heat
  | 2 => some .cool
  | 3 => some .antiCrease
  | _ => none

/-- Cool exit codes. -/
def CoolExit.code : CoolExit → Byte
  | .antiCrease => 1#8
  | .done => 2#8
  | .faultHold => 3#8

def CoolExit.ofCode (b : Byte) : Option CoolExit :=
  match b.toNat with
  | 1 => some .antiCrease
  | 2 => some .done
  | 3 => some .faultHold
  | _ => none

/-- Heat end cause codes. -/
def HeatCause.code : HeatCause → Byte
  | .none => 0#8
  | .target => 1#8
  | .appEnd => 2#8
  | .stop => 3#8
  | .guard => 4#8
  | .vent => 5#8
  | .limit => 6#8
  | .ignition => 7#8
  | .sensor => 8#8

def HeatCause.ofCode (b : Byte) : Option HeatCause :=
  match b.toNat with
  | 0 => some .none
  | 1 => some .target
  | 2 => some .appEnd
  | 3 => some .stop
  | 4 => some .guard
  | 5 => some .vent
  | 6 => some .limit
  | 7 => some .ignition
  | 8 => some .sensor
  | _ => Option.none

/-- Heat kind codes. -/
def HeatKind.code : HeatKind → Byte
  | .gas => 0#8
  | .electric => 1#8

def HeatKind.ofCode (b : Byte) : Option HeatKind :=
  match b.toNat with
  | 0 => some .gas
  | 1 => some .electric
  | _ => none

/-- Guard action codes. -/
def GuardAction.code : GuardAction → Byte
  | .report => 0#8
  | .endHeat => 1#8
  | .hold => 2#8

/-- Guard codes of an event argument (12.2). -/
def Guard.code : Guard → Byte
  | .tempHigh => 0#8
  | .runLong => 1#8

/-- Power state codes; RESET serves no request and has no code of its own (12.3). -/
def Power.code : Power → Byte
  | .reset => 0#8
  | .dark => 1#8
  | .wake _ => 2#8
  | .run => 3#8
  | .holdUp => 4#8

/-- Stage codes; none outside WAKE. -/
def Power.stageCode : Power → Byte
  | .wake .qualify => 1#8
  | .wake .load => 2#8
  | .wake .arm => 3#8
  | .reset | .dark | .run | .holdUp => 0#8

/-- Line state codes. -/
def LineState.code : LineState → Byte
  | .qualifying => 0#8
  | .normal => 1#8
  | .rideThrough => 2#8
  | .lowLine => 3#8
  | .lost => 4#8

/-- Nominal frequency codes. -/
def Frequency.code : Frequency → Byte
  | .unknown => 0#8
  | .hz50 => 1#8
  | .hz60 => 2#8

/-- JOURNAL_FAULT cause codes, also the cause of a JOURNAL_RETRY. -/
def JournalCause.code : JournalCause → Byte
  | .noAck => 1#8
  | .timeout => 2#8
  | .exhausted => 3#8
  | .unreadable => 4#8

/-- JOURNAL_FAULT place codes. -/
def JournalPlace.code : JournalPlace → Byte
  | .ring .U => 0#8
  | .ring .L => 1#8
  | .configBlock => 2#8
  | .serviceRead => 3#8

/-- Ring condition codes. -/
def RingCondition.code : RingCondition → Byte
  | .notBuilt => 0#8
  | .writable => 1#8
  | .exhausted => 2#8
  | .unreadable => 3#8

/-- Plan kind codes: 1 to 11 in the order of 9.1. -/
def PlanKind.code : PlanKind → Byte
  | .resumeHeat => 1#8
  | .holdHeat => 2#8
  | .resumeCool => 3#8
  | .skipToAntiCrease => 4#8
  | .resumeAntiCrease => 5#8
  | .finish => 6#8
  | .stayPaused => 7#8
  | .stayHeld => 8#8
  | .stayFault => 9#8
  | .stayDone => 10#8
  | .stayIdle => 11#8

/-- Event kind codes: 0x01 onward in the order of R168 (12.2). -/
def EventKind.code : EventKind → Byte
  | .lineNormal => 0x01#8
  | .lineRide => 0x02#8
  | .lineLow => 0x03#8
  | .lineLost => 0x04#8
  | .storeWeak => 0x05#8
  | .phaseChanged => 0x06#8
  | .coolTimeout => 0x07#8
  | .heatEnded => 0x08#8
  | .heatEstablished => 0x09#8
  | .ignitionFailed => 0x0A#8
  | .pocketFault => 0x0B#8
  | .guardTripped => 0x0C#8
  | .inputChanged => 0x0D#8
  | .sensorFault => 0x0E#8
  | .sensorOk => 0x0F#8
  | .journalRetry => 0x10#8
  | .journalFault => 0x11#8
  | .backupLost => 0x12#8
  | .planReady => 0x13#8

/-- The bit of an event's class in the event class mask: LINE 0, PHASE 1, HEAT 2, GUARD 3, INPUT 4,
JOURNAL 5, PLAN 6 (12.3, classes of R168). -/
def EventKind.classBit : EventKind → Nat
  | .lineNormal | .lineRide | .lineLow | .lineLost | .storeWeak => 0
  | .phaseChanged | .coolTimeout => 1
  | .heatEnded | .heatEstablished | .ignitionFailed => 2
  | .pocketFault | .guardTripped => 3
  | .inputChanged | .sensorFault | .sensorOk => 4
  | .journalRetry | .journalFault | .backupLost => 5
  | .planReady => 6

/-- Input codes of an INPUT_CHANGED argument (12.2); HEAT_FB posts none (R34). -/
def inputCode : ContactInput → Byte
  | .door => 0#8
  | .airflow => 1#8
  | .hilimit => 2#8
  | .heatFb => 3#8

/-- Pocket index as a byte (00 section 5). -/
def pocketByte : PocketId → Byte
  | .U => 0#8
  | .L => 1#8

/-- The pocket a pocket byte names. -/
def pocketOfByte (b : Byte) : Option PocketId :=
  match b.toNat with
  | 0 => some .U
  | 1 => some .L
  | _ => none

/-- Pocket byte of an event entry: 0xFF for none (12.2). -/
def eventPocketByte : Option PocketId → Byte
  | none => 0xFF#8
  | some p => pocketByte p

/-! ### Bits and sets -/

/-- One bit of a byte: 1 at position n when b holds. -/
def bitIf (b : Bool) (n : Nat) : Byte := if b then 1#8 <<< n else 0#8

/-- A yes or no byte. -/
def boolByte (b : Bool) : Byte := bitIf b 0

/-- Whether a fault is in a set. -/
def FaultSet.has (f : FaultSet) : PocketFault → Bool
  | .ignitionLockout => f.ignitionLockout
  | .drumStall => f.drumStall
  | .ventBlocked => f.ventBlocked
  | .highLimit => f.highLimit
  | .guardHold => f.guardHold
  | .sensor => f.sensor

/-- A set with one fault set. -/
def FaultSet.insert (f : FaultSet) : PocketFault → FaultSet
  | .ignitionLockout => { f with ignitionLockout := true }
  | .drumStall => { f with drumStall := true }
  | .ventBlocked => { f with ventBlocked := true }
  | .highLimit => { f with highLimit := true }
  | .guardHold => { f with guardHold := true }
  | .sensor => { f with sensor := true }

/-- The bit of a pocket fault (12.3). -/
def PocketFault.bit : PocketFault → Nat
  | .ignitionLockout => 0
  | .drumStall => 1
  | .ventBlocked => 2
  | .highLimit => 3
  | .guardHold => 4
  | .sensor => 5

/-- A fault argument: the mask of the fault's bit (12.2). -/
def PocketFault.mask (f : PocketFault) : Half := 1#16 <<< f.bit

/-- The pocket faults as a byte (12.3). -/
def FaultSet.byte (f : FaultSet) : Byte :=
  bitIf f.ignitionLockout 0 ||| bitIf f.drumStall 1 ||| bitIf f.ventBlocked 2
    ||| bitIf f.highLimit 3 ||| bitIf f.guardHold 4 ||| bitIf f.sensor 5

/-- The pocket faults a fault summary byte names. -/
def FaultSet.ofByte (b : Byte) : FaultSet :=
  ⟨b.getLsbD 0, b.getLsbD 1, b.getLsbD 2, b.getLsbD 3, b.getLsbD 4, b.getLsbD 5⟩

/-- The part faults as a byte (12.3). -/
def Supply.faultByte (s : Supply) : Byte :=
  bitIf s.storeWeak 0 ||| bitIf s.backupLost 1 ||| bitIf s.configDefaulted 2
    ||| bitIf s.journalFault.isSome 3

/-- No hold reason. -/
def HoldReasons.none : HoldReasons := ⟨false, false, false, false, false⟩

/-- Whether any reason is present (R148). -/
def HoldReasons.any (r : HoldReasons) : Bool :=
  r.unknownOutage || r.longOutage || r.doorInDark || r.staleRecord || r.autoOff

/-- The hold reasons as a byte (12.3). -/
def HoldReasons.byte (r : HoldReasons) : Byte :=
  bitIf r.unknownOutage 0 ||| bitIf r.longOutage 1 ||| bitIf r.doorInDark 2
    ||| bitIf r.staleRecord 3 ||| bitIf r.autoOff 4

/-- The stage bit (12.2): 1 for REDUCED. -/
def HeatStage.reduced? : HeatStage → Bool
  | .full => false
  | .reduced => true

/-- The stage a bit names. -/
def HeatStage.ofBool (b : Bool) : HeatStage := if b then .reduced else .full

/-- A two-part event argument: the first part in the high byte (12.2). -/
def pairArg (hi lo : Byte) : Half := hi ++ lo

/-- A number as a 16-bit argument or field. -/
def half (n : Nat) : Half := BitVec.ofNat 16 n

/-! ### Sets of phases -/

/-- The running phases (R2). -/
def Phase.running : Phase → Bool
  | .startWait | .spinup | .purge | .ignition | .heat | .heatWait | .cool | .acRest | .acBurst => true
  | .idle | .done | .paused | .held | .faultHold | .recovering => false

/-- The phases whose entry drops the motor and gives up every start request (R3). -/
def Phase.dropsMotor : Phase → Bool
  | .idle | .startWait | .acRest | .done | .paused | .held | .faultHold => true
  | .spinup | .purge | .ignition | .heat | .heatWait | .cool | .acBurst | .recovering => false

/-- The heat phases, PURGE to HEAT_WAIT, in which an ending of heat enters COOL at once (R14) and a
high-limit trip is counted (R78). -/
def Phase.heating : Phase → Bool
  | .purge | .ignition | .heat | .heatWait => true
  | .idle | .startWait | .spinup | .cool | .acRest | .acBurst | .done | .paused | .held | .faultHold
  | .recovering => false

/-- The phases a door opening pauses (R23). -/
def Phase.pausable : Phase → Bool
  | .spinup | .purge | .ignition | .heat | .heatWait | .cool => true
  | .idle | .startWait | .acRest | .acBurst | .done | .paused | .held | .faultHold | .recovering => false

/-- The recorded phase of a live phase (R19). The fold has no entry for RECOVERING, in which no
snapshot is taken (R1). -/
def Phase.recorded (ph : Phase) (target : Target) : RecordedPhase :=
  match ph with
  | .startWait | .spinup | .purge | .ignition | .heat | .heatWait =>
    match target with
    | .heat => .heat
    | .cool => .cool
    | .antiCrease => .antiCrease
  | .cool => .cool
  | .acRest | .acBurst => .antiCrease
  | .paused => .paused
  | .held => .held
  | .faultHold => .fault
  | .done => .done
  | .idle | .recovering => .idle

end Sys2Proof.Machine
end

