-- ==== Sys2Proof/Machine/Operands.lean ====
section
/-!
DEFINITION. Machine/Operands.lean: how operands stand on the wires: little-endian fields, the two check
computations (R177), characters (R158), request frames and their arguments (12.2), replies (R179), and
the clamping of numeric arguments (R7).
-/

namespace Sys2Proof.Machine

/-! ### Little-endian fields (00 section 7) -/

/-- Two bytes, least significant first. -/
def le16 (v : Half) : List Byte := [v.extractLsb' 0 8, v.extractLsb' 8 8]

/-- An unsigned number in two bytes. -/
def le16Nat (n : Nat) : List Byte := le16 (BitVec.ofNat 16 n)

/-- A signed number in two bytes, two's complement. -/
def le16Int (i : Int) : List Byte := le16 (BitVec.ofInt 16 i)

/-- An unsigned number in four bytes. -/
def le32Nat (n : Nat) : List Byte :=
  let v := BitVec.ofNat 32 n
  [v.extractLsb' 0 8, v.extractLsb' 8 8, v.extractLsb' 16 8, v.extractLsb' 24 8]

/-- A number in one byte. -/
def byteNat (n : Nat) : Byte := BitVec.ofNat 8 n

/-- The byte at an offset of a record. -/
def byteAt (bs : List Byte) (i : Nat) : Byte := bs.getD i 0#8

/-- The unsigned two-byte field at an offset. -/
def u16At (bs : List Byte) (i : Nat) : Nat := (byteAt bs i).toNat + 256 * (byteAt bs (i + 1)).toNat

/-- The unsigned four-byte field at an offset. -/
def u32At (bs : List Byte) (i : Nat) : Nat := u16At bs i + 65536 * u16At bs (i + 2)

/-- The number a 16-bit field means as a signed field. -/
def signed16 (n : Nat) : Int := if n < 32768 then (n : Int) else (n : Int) - 65536

/-- The signed two-byte field at an offset. -/
def s16At (bs : List Byte) (i : Nat) : Int := signed16 (u16At bs i)

/-! ### Checks (R177) -/

/-- One shift of the 16-bit record check register. -/
def crc16Shift (r : BitVec 16) : BitVec 16 := if r.msb then (r <<< 1) ^^^ 0x1021#16 else r <<< 1

/-- One byte into the record check register. -/
def crc16Byte (r : BitVec 16) (b : Byte) : BitVec 16 :=
  Nat.repeat crc16Shift 8 (r ^^^ (b ++ 0#8))

/-- The record check of a run of bytes. -/
def crc16 (bs : List Byte) : BitVec 16 := bs.foldl crc16Byte 0xFFFF#16

/-- One shift of the 8-bit frame check register. -/
def crc8Shift (r : Byte) : Byte := if r.msb then (r <<< 1) ^^^ 0x07#8 else r <<< 1

/-- One byte into the frame check register. -/
def crc8Byte (r b : Byte) : Byte := Nat.repeat crc8Shift 8 (r ^^^ b)

/-- The frame check of a run of bytes. -/
def crc8 (bs : List Byte) : Byte := bs.foldl crc8Byte 0#8

/-! ### Characters (R158) -/

end Sys2Proof.Machine

namespace Sys2Proof

/-- The majority of the three samples of each bit. -/
def LineChar.bits (c : LineChar) : BitVec 11 :=
  (c.first &&& c.second) ||| (c.first &&& c.third) ||| (c.second &&& c.third)

/-- The byte of a character. -/
def LineChar.byte (c : LineChar) : Byte := c.bits.extractLsb' 1 8

/-- The mark of a character, its ninth data bit. -/
def LineChar.mark (c : LineChar) : Bool := c.bits.getLsbD 9

/-- Noise error: the three samples of some bit disagree, the start bit included. -/
def LineChar.noise (c : LineChar) : Bool := c.first != c.second || c.second != c.third

/-- Framing error: the stop bit reads low by majority. -/
def LineChar.framing (c : LineChar) : Bool := !c.bits.getLsbD 10

/-- Either error indication. -/
def LineChar.error (c : LineChar) : Bool := c.noise || c.framing

/-- The character a clean line carries for a byte and a mark. -/
def LineChar.clean (b : Byte) (mark : Bool) : LineChar :=
  let bits : BitVec 11 := 1#1 ++ BitVec.ofBool mark ++ b ++ 0#1
  ⟨bits, bits, bits⟩

end Sys2Proof

namespace Sys2Proof.Machine

/-- The characters that carry the bytes of a frame: the mark set on the first and clear on all the
others (R158, 12.2). -/
def frameChars : List Byte → List LineChar
  | [] => []
  | b :: bs => LineChar.clean b true :: bs.map (fun x => LineChar.clean x false)

/-- The characters the transmitter sends for a frame (R158, R163). -/
def TxFrame.chars (f : TxFrame) : List LineChar := frameChars f.bytes

/-- The characters of a clean frame: kind with the mark set, tag, length, payload and check (12.2). -/
def cleanFrame (kind tag : Byte) (payload : List Byte) : List LineChar :=
  let body := [kind, tag, byteNat payload.length] ++ payload
  frameChars (body ++ [crc8 body])

/-! ### Requests (10.6, 12.2) -/

/-- A taken request with its arguments as the frame carries them. -/
inductive Request where
  | status
  | pocket (pocket : Byte)
  | startCycle (pocket : Byte) (t : Half) (stage : Byte) (c thetaX w : Half) (b : Byte) (rt : Half)
      (reverse autoResume : Byte)
  | extend (pocket : Byte) (amount : Half)
  | setStage (pocket stage : Byte)
  | endHeat (pocket : Byte)
  | stop (pocket : Byte)
  | continueCycle (pocket : Byte)
  | plan (pocket : Byte)
  | confirm (pocket : Byte)
  | decline (pocket : Byte)
  | clear (selector : Byte)
  | events
  | configRead (group field : Byte)
  | configWrite (group field : Byte) (value : Half)
  | configStore
  | journalRead (pocket slot : Byte)
  deriving DecidableEq, Repr

/-- The kind byte of a request (12.2). -/
def Request.kind : Request → Byte
  | .status => 0x01#8
  | .pocket _ => 0x02#8
  | .startCycle _ _ _ _ _ _ _ _ _ _ => 0x03#8
  | .extend _ _ => 0x04#8
  | .setStage _ _ => 0x05#8
  | .endHeat _ => 0x06#8
  | .stop _ => 0x07#8
  | .continueCycle _ => 0x08#8
  | .plan _ => 0x09#8
  | .confirm _ => 0x0A#8
  | .decline _ => 0x0B#8
  | .clear _ => 0x0C#8
  | .events => 0x0D#8
  | .configRead _ _ => 0x0E#8
  | .configWrite _ _ _ => 0x0F#8
  | .configStore => 0x10#8
  | .journalRead _ _ => 0x11#8

/-- The payload of a request frame (12.2). -/
def Request.payload : Request → List Byte
  | .status | .events | .configStore => []
  | .pocket p | .endHeat p | .stop p | .continueCycle p | .plan p | .confirm p | .decline p => [p]
  | .startCycle p t stage c thetaX w b rt rev auto =>
    [p] ++ le16 t ++ [stage] ++ le16 c ++ le16 thetaX ++ le16 w ++ [b] ++ le16 rt ++ [rev, auto]
  | .extend p amount => [p] ++ le16 amount
  | .setStage p stage => [p, stage]
  | .clear sel => [sel]
  | .configRead g f => [g, f]
  | .configWrite g f v => [g, f] ++ le16 v
  | .journalRead p slot => [p, slot]

/-- Whether a kind byte names a request of the catalogue (R160, test KIND). -/
def knownKind (kind : Byte) : Bool := 0x01 ≤ kind.toNat && kind.toNat ≤ 0x11

/-- Two bytes of a payload as a 16-bit field. -/
def halfOf (lo hi : Byte) : Half := hi ++ lo

/-- The request a kind and a payload make, or none where the payload's length is not the kind's
(R165). -/
def Request.parse (kind : Byte) (payload : List Byte) : Option Request :=
  match kind.toNat, payload with
  | 0x01, [] => some .status
  | 0x02, [p] => some (.pocket p)
  | 0x03, [p, t0, t1, stage, c0, c1, x0, x1, w0, w1, b, r0, r1, rev, auto] =>
    some (.startCycle p (halfOf t0 t1) stage (halfOf c0 c1) (halfOf x0 x1) (halfOf w0 w1) b
      (halfOf r0 r1) rev auto)
  | 0x04, [p, a0, a1] => some (.extend p (halfOf a0 a1))
  | 0x05, [p, stage] => some (.setStage p stage)
  | 0x06, [p] => some (.endHeat p)
  | 0x07, [p] => some (.stop p)
  | 0x08, [p] => some (.continueCycle p)
  | 0x09, [p] => some (.plan p)
  | 0x0A, [p] => some (.confirm p)
  | 0x0B, [p] => some (.decline p)
  | 0x0C, [sel] => some (.clear sel)
  | 0x0D, [] => some .events
  | 0x0E, [g, f] => some (.configRead g f)
  | 0x0F, [g, f, v0, v1] => some (.configWrite g f (halfOf v0 v1))
  | 0x10, [] => some .configStore
  | 0x11, [p, slot] => some (.journalRead p slot)
  | _, _ => none

/-! ### Replies (R163, R179) -/

/-- Reply status codes (12.2). -/
inductive Status where
  | ok
  | clamped
  | busy
  | wrongPhase
  | notReady
  | badArg
  | aborted
  | storeFailed
  | reject
  deriving DecidableEq, Repr

def Status.code : Status → Byte
  | .ok => 0#8
  | .clamped => 1#8
  | .busy => 2#8
  | .wrongPhase => 3#8
  | .notReady => 4#8
  | .badArg => 5#8
  | .aborted => 6#8
  | .storeFailed => 7#8
  | .reject => 8#8

/-- REJECT causes (12.2). -/
inductive RejectCause where
  | line
  | check
  | length
  | kind
  | busy
  deriving DecidableEq, Repr

def RejectCause.code : RejectCause → Byte
  | .line => 1#8
  | .check => 2#8
  | .length => 3#8
  | .kind => 4#8
  | .busy => 5#8

/-- A reply: its status and what follows the status in the payload. -/
structure Reply where
  status : Status
  data : List Byte
  deriving DecidableEq, Repr

/-- OK with nothing further. -/
def Reply.ok : Reply := ⟨.ok, []⟩

/-- A status alone (R179). -/
def Reply.bare (st : Status) : Reply := ⟨st, []⟩

/-- OK, or CLAMPED where a numeric value was changed (R7). -/
def Reply.done (clamped : Bool) (data : List Byte) : Reply :=
  ⟨if clamped then .clamped else .ok, data⟩

/-- The bytes of a reply frame (R163, 12.2): kind plus 0x80, tag, length, status and data, check. -/
def replyFrame (kind tag : Byte) (r : Reply) : List Byte :=
  let payload := r.status.code :: r.data
  let body := [kind + 0x80#8, tag, byteNat payload.length] ++ payload
  body ++ [crc8 body]

/-- The bytes of a REJECT frame (R163): the kind is 0xFF where the frame's kind is 0x80 or above. -/
def rejectFrame (kind tag : Byte) (cause : RejectCause) : List Byte :=
  let body := [if kind.toNat < 0x80 then kind + 0x80#8 else 0xFF#8, tag, 2#8,
    Status.reject.code, cause.code]
  body ++ [crc8 body]

/-! ### Clamping (R7) -/

/-- A number brought into a range. -/
def clampNat (lo hi n : Nat) : Nat := max lo (min hi n)

/-- A whole number brought into a range. -/
def clampInt (lo hi i : Int) : Int := max lo (min hi i)

/-- The numeric arguments of START_CYCLE (R8). -/
structure CycleArgs where
  t : Nat
  c : Nat
  thetaX : Int
  w : Nat
  b : Nat
  rt : Nat
  deriving DecidableEq, Repr

/-- Each argument in its range (R8). -/
def CycleArgs.clamp (a : CycleArgs) : CycleArgs :=
  { t := clampNat 240 57600 a.t
    c := clampNat 0 3600 a.c
    thetaX := clampInt (-40) 400 a.thetaX
    w := clampNat 0 10800 a.w
    b := clampNat 1 40 a.b
    rt := clampNat 30 600 a.rt }

/-- A yes or no argument; none for an undefined value (R7, test 4). -/
def boolArg (b : Byte) : Option Bool :=
  match b.toNat with
  | 0 => some false
  | 1 => some true
  | _ => none

/-- A stage argument. -/
def stageArg (b : Byte) : Option HeatStage := (boolArg b).map HeatStage.ofBool

end Sys2Proof.Machine
end

