-- ==== Sys2Proof/Machine/Fields.lean ====
section
/-!
DEFINITION. Machine/Fields.lean: the fields of the configuration (11): what each reader reads, the range
of each field, writing one field (R173, R174), and the stored block (R175, R180).
-/

namespace Sys2Proof

open Sys2Proof.Machine

namespace WorkingCopy

/-! ### Readers of the part group (11.1) -/

/-- A field of the part group as a whole number. -/
def partField (c : WorkingCopy) (id : Nat) : Int := c.part.getD id 0

/-- A field of the part group that is not negative. -/
def partNat (c : WorkingCopy) (id : Nat) : Nat := (c.partField id).toNat

def q (c : WorkingCopy) : Nat := c.partNat 0
def nRt (c : WorkingCopy) : Nat := c.partNat 1
def nLow (c : WorkingCopy) : Nat := c.partNat 2
def nRec (c : WorkingCopy) : Nat := c.partNat 3
def lowThreshold (c : WorkingCopy) : Nat := c.partNat 4
def wakeCode (c : WorkingCopy) : Nat := c.partNat 5
def armCode (c : WorkingCopy) : Nat := c.partNat 6
def writeFloor (c : WorkingCopy) : Nat := c.partNat 7
def darkCode (c : WorkingCopy) : Nat := c.partNat 8
def period (c : WorkingCopy) : Nat := c.partNat 9
def classMask (c : WorkingCopy) : Nat := c.partNat 10
def hm (c : WorkingCopy) : Nat := c.partNat 11
def he (c : WorkingCopy) : Nat := c.partNat 12

/-- Breakpoint converter codes c_0 to c_8. -/
def breakCodes (c : WorkingCopy) : List Int := (c.part.drop 13).take 9

/-- Breakpoint temperature codes θ_0 to θ_8. -/
def breakTemps (c : WorkingCopy) : List Int := (c.part.drop 22).take 9

/-! ### Readers of a pocket installation group -/

/-- A field of a pocket's installation group. -/
def instField (c : WorkingCopy) (p : PocketId) (id : Nat) : Int := (c.inst.get p).getD id 0

/-- A field of a pocket's installation group that is not negative. -/
def instNat (c : WorkingCopy) (p : PocketId) (id : Nat) : Nat := (c.instField p id).toNat

/-- Heat kind by its code (12.3). -/
def heatKind (c : WorkingCopy) (p : PocketId) : HeatKind :=
  if c.instField p 0 = 1 then .electric else .gas

def airflowGrace (c : WorkingCopy) (p : PocketId) : Nat := c.instNat p 4
def startProof (c : WorkingCopy) (p : PocketId) : Nat := c.instNat p 5

/-- Turning window in tenths of a second. -/
def turningWindow (c : WorkingCopy) (p : PocketId) : Nat := c.instNat p 6

def ppr (c : WorkingCopy) (p : PocketId) : Nat := c.instNat p 7

/-- Filter time of a contact input in milliseconds. -/
def filter (c : WorkingCopy) (p : PocketId) : ContactInput → Nat
  | .door => c.instNat p 8
  | .airflow => c.instNat p 9
  | .hilimit => c.instNat p 10
  | .heatFb => c.instNat p 11

/-- TACH filter time in milliseconds. -/
def tachFilter (c : WorkingCopy) (p : PocketId) : Nat := c.instNat p 12

/-- The five cycle-bound copies as the installation group holds them (R6). -/
def copies (c : WorkingCopy) (p : PocketId) : Copies :=
  { heatKind := c.heatKind p, purge := c.instNat p 1, trial := c.instNat p 2,
    tries := c.instNat p 3, cmax := c.instNat p 13 }

def tempHighLimit (c : WorkingCopy) (p : PocketId) : Int := c.instField p 14
def runLongLimit (c : WorkingCopy) (p : PocketId) : Nat := c.instNat p 16

/-- Guard action by its code (12.3). -/
def actionOf (i : Int) : GuardAction :=
  if i = 2 then .hold else if i = 1 then .endHeat else .report

/-- The action of a guard (R81). -/
def guardAction (c : WorkingCopy) (p : PocketId) : Guard → GuardAction
  | .tempHigh => actionOf (c.instField p 15)
  | .runLong => actionOf (c.instField p 17)

/-! ### Readers of the plan group -/

/-- A field of the plan group. -/
def planField (c : WorkingCopy) (id : Nat) : Int := c.plan.getD id 0

def thetaA (c : WorkingCopy) : Int := c.planField 0
def decayStep (c : WorkingCopy) : Nat := (c.planField 1).toNat
def reheatK (c : WorkingCopy) : Nat := (c.planField 2).toNat
def rmax (c : WorkingCopy) : Nat := (c.planField 3).toNat
def omax (c : WorkingCopy) : Nat := (c.planField 4).toNat
def cmin (c : WorkingCopy) : Nat := (c.planField 5).toNat

/-- Decay table entry F[i]. -/
def decay (c : WorkingCopy) (i : Nat) : Nat := (c.planField (6 + i)).toNat

end WorkingCopy

end Sys2Proof

namespace Sys2Proof.Machine

/-! ### Ranges (11.1) -/

/-- The range of a field: a number, a temperature code (carried signed, 12.2), a list of choices, an
enumeration of n members, or the event class mask. -/
inductive FieldRange where
  | number (lo hi : Int)
  | temperature (lo hi : Int)
  | choice (cs : List Int)
  | member (n : Int)
  | classes
  deriving DecidableEq, Repr

/-- Part group, ids 0 to 30. -/
def partRanges : List FieldRange :=
  [.choice [50, 100, 200, 400], .number 1 8, .number 1 32, .number 1 64, .number 0 255,
   .number 80 200, .number 80 250, .number 50 200, .number 40 150, .number 10 300, .classes,
   .number 1 5, .number 1 5]
    ++ List.replicate 9 (.number 0 1023) ++ List.replicate 9 (.temperature (-40) 400)

/-- Pocket installation group, ids 0 to 17. -/
def instRanges : List FieldRange :=
  [.member 2, .number 0 120, .number 4 15, .number 1 3, .number 5 60, .number 2 10, .number 5 30,
   .number 1 8, .choice [2, 10, 50, 200], .choice [2, 10, 50, 200], .choice [2, 10, 50, 200],
   .choice [2, 10, 50, 200], .choice [1, 2, 5, 10], .number 300 3600, .temperature 0 400,
   .member 3, .number 60 65535, .member 3]

/-- Plan group, ids 0 to 21. -/
def planRanges : List FieldRange :=
  [.temperature (-40) 100, .number 60 1800, .number 0 255, .number 0 57600, .number 0 14400,
   .number 0 600]
    ++ List.replicate 16 (.number 0 256)

/-- Whether a value lies in a range. -/
def FieldRange.ok (r : FieldRange) (v : Int) : Bool :=
  match r with
  | .number lo hi | .temperature lo hi => lo ≤ v && v ≤ hi
  | .choice cs => cs.contains v
  | .member n => 0 ≤ v && v < n
  | .classes => 0 ≤ v && v < 128

/-- The choice a value takes (R173): the smallest choice not below it, or the largest. -/
def clampChoice (cs : List Int) (v : Int) : Int :=
  match cs with
  | [] => v
  | [c] => c
  | c :: rest => if v ≤ c then c else clampChoice rest v

/-- The value a written value takes (R173, tests 2 and 3); none is BAD_ARG. -/
def FieldRange.accept (r : FieldRange) (v : Int) : Option Int :=
  match r with
  | .number lo hi | .temperature lo hi => some (clampInt lo hi v)
  | .choice cs => some (clampChoice cs v)
  | .member _ | .classes => if r.ok v then some v else none

/-- The value a field of a stored block takes (R175): clamped, its default for an undefined member,
the defined classes of a mask. -/
def FieldRange.correct (r : FieldRange) (dflt v : Int) : Int :=
  match r with
  | .number lo hi | .temperature lo hi => clampInt lo hi v
  | .choice cs => clampChoice cs v
  | .member _ => if r.ok v then v else dflt
  | .classes => v % 128

/-- What 16 bits mean as a value of a field (12.2). -/
def FieldRange.decode (r : FieldRange) (v : Half) : Int :=
  match r with
  | .temperature _ _ => v.toInt
  | .number _ _ | .choice _ | .member _ | .classes => (v.toNat : Int)

/-- A value of a field in 16 bits (12.2). -/
def fieldHalf (i : Int) : Half := BitVec.ofInt 16 i

/-- The ranges of a group by its id (11.1); none for an unknown group. -/
def groupRanges (g : Nat) : Option (List FieldRange) :=
  match g with
  | 1 => some partRanges
  | 2 => some instRanges
  | 3 => some instRanges
  | 4 => some planRanges
  | _ => none

/-- The range of a field by group and field id; none where either is unknown. -/
def fieldRange (g f : Nat) : Option FieldRange := (groupRanges g).bind (fun rs => rs[f]?)

end Sys2Proof.Machine

namespace Sys2Proof.WorkingCopy

open Sys2Proof.Machine

/-- The fields of a group. -/
def group (c : WorkingCopy) (g : Nat) : List Int :=
  match g with
  | 1 => c.part
  | 2 => c.inst.u
  | 3 => c.inst.l
  | 4 => c.plan
  | _ => []

/-- Replace the fields of a group. -/
def setGroup (c : WorkingCopy) (g : Nat) (vs : List Int) : WorkingCopy :=
  match g with
  | 1 => { c with part := vs }
  | 2 => { c with inst := c.inst.set .U vs }
  | 3 => { c with inst := c.inst.set .L vs }
  | 4 => { c with plan := vs }
  | _ => c

/-- One field. -/
def field (c : WorkingCopy) (g f : Nat) : Int := (c.group g).getD f 0

/-- Replace one field. -/
def setField (c : WorkingCopy) (g f : Nat) (v : Int) : WorkingCopy :=
  c.setGroup g ((c.group g).set f v)

end Sys2Proof.WorkingCopy

namespace Sys2Proof.Machine

/-! ### Normalisation (R174) and the threshold order (R98) -/

/-- Each entry greater than the entry before it is lowered to that entry's value. -/
def lowerAfter (prev : Int) : List Int → List Int
  | [] => []
  | x :: xs => let y := if x > prev then prev else x; y :: lowerAfter y xs

/-- The decay table made non-increasing. -/
def normaliseDecay : List Int → List Int
  | [] => []
  | x :: xs => x :: lowerAfter x xs

/-- The upward pass over the breakpoint codes after an entry: each code not greater than the code
before it becomes that code plus one, at most 1023. -/
def raiseAfter (prev : Int) : List Int → List Int
  | [] => []
  | x :: xs => let y := if x ≤ prev then min 1023 (prev + 1) else x; y :: raiseAfter y xs

/-- The upward pass. -/
def upwardPass : List Int → List Int
  | [] => []
  | x :: xs => x :: raiseAfter x xs

/-- The downward pass: each code not less than the code after it becomes that code minus one. -/
def downwardPass : List Int → List Int
  | [] => []
  | x :: xs =>
    match downwardPass xs with
    | [] => [x]
    | y :: ys => (if x ≥ y then y - 1 else x) :: y :: ys

/-- The breakpoint codes made strictly ascending. -/
def normaliseCodes (cs : List Int) : List Int := downwardPass (upwardPass cs)

end Sys2Proof.Machine

namespace Sys2Proof.WorkingCopy

open Sys2Proof.Machine

/-- Normalise the decay table, F[0] to F[15] at ids 6 to 21 of the plan group. -/
def withDecay (c : WorkingCopy) : WorkingCopy :=
  { c with plan := c.plan.take 6 ++ normaliseDecay (c.plan.drop 6) }

/-- Normalise the breakpoint codes, ids 13 to 21 of the part group. -/
def withCodes (c : WorkingCopy) : WorkingCopy :=
  { c with part := c.part.take 13 ++ normaliseCodes c.breakCodes ++ c.part.drop 22 }

/-- Put the VHU thresholds in the order dark < write floor ≤ wake ≤ arm, keeping dark (R98). -/
def withThresholds (c : WorkingCopy) : WorkingCopy :=
  let floor := max (c.partField 7) (c.partField 8 + 1)
  let wake := max (c.partField 5) floor
  let arm := max (c.partField 6) wake
  { c with part := ((c.part.set 7 floor).set 5 wake).set 6 arm }

/-- The order-keeping work that follows a write of one field (R173). -/
def settle (c : WorkingCopy) (g f : Nat) : WorkingCopy :=
  if g = 4 ∧ 6 ≤ f then c.withDecay
  else if g = 1 ∧ 13 ≤ f then c.withCodes
  else if g = 1 ∧ 5 ≤ f ∧ f ≤ 8 then c.withThresholds
  else c

/-- CONFIG_WRITE on the working copy (R173): none is BAD_ARG; otherwise the new copy and whether the
reply is CLAMPED. -/
def write (c : WorkingCopy) (g f : Nat) (v : Half) : Option (WorkingCopy × Bool) :=
  match fieldRange g f with
  | none => none
  | some r =>
    match r.accept (r.decode v) with
    | none => none
    | some taken =>
      let c1 := c.setField g f taken
      let c2 := c1.settle g f
      some (c2, taken != r.decode v || c2 != c1)

end Sys2Proof.WorkingCopy

namespace Sys2Proof.Machine

/-! ### The stored block (R175, R180) -/

/-- The fields of a group in 16 bits each. -/
def encodeFields (vs : List Int) : List Byte := vs.flatMap (fun v => le16 (fieldHalf v))

/-- The first 180 bytes of a block: marker, length and fields (R180). -/
def blockBody (c : WorkingCopy) : List Byte :=
  [0xA7#8, 178#8] ++ encodeFields c.part ++ encodeFields c.inst.u ++ encodeFields c.inst.l
    ++ encodeFields c.plan

/-- The 512 bytes a CONFIG_STORE composes (R130, R180). -/
def composeBlock (c : WorkingCopy) : List Byte :=
  blockBody c ++ le16 (crc16 (blockBody c)) ++ List.replicate 330 0#8

/-- Decode the fields of a group whose first field stands at an offset. -/
def decodeFields (bs : List Byte) (offset : Nat) : List FieldRange → List Int
  | [] => []
  | r :: rs => r.decode (BitVec.ofNat 16 (u16At bs offset)) :: decodeFields bs (offset + 2) rs

/-- The fields a block holds, as they stand (R180). -/
def blockFields (bs : List Byte) : WorkingCopy :=
  { part := decodeFields bs 2 partRanges
    inst := ⟨decodeFields bs 64 instRanges, decodeFields bs 100 instRanges⟩
    plan := decodeFields bs 136 planRanges }

/-- Correct each field of a group that lies outside its range (R175). -/
def correctFields : List FieldRange → List Int → List Int → List Int
  | r :: rs, d :: ds, v :: vs => r.correct d v :: correctFields rs ds vs
  | _, _, _ => []

/-- A block's fields with every correction, the normalisations and the threshold order (R175). -/
def correctCopy (c : WorkingCopy) : WorkingCopy :=
  ({ part := correctFields partRanges Config.partDefaults c.part
     inst := ⟨correctFields instRanges Config.instDefaults c.inst.u,
              correctFields instRanges Config.instDefaults c.inst.l⟩
     plan := correctFields planRanges Config.planDefaults c.plan : WorkingCopy}).withDecay.withCodes.withThresholds

/-- The working copy a block of 512 bytes gives, and whether CONFIG_DEFAULTED is raised (R175). -/
def loadBlock (bs : List Byte) : WorkingCopy × Bool :=
  if byteAt bs 0 ≠ 0xA7#8 then (Config.defaults, false)
  else if byteAt bs 1 ≠ 178#8 then (Config.defaults, true)
  else if (crc16 (bs.take 180)).toNat ≠ u16At bs 180 then (Config.defaults, true)
  else
    let raw := blockFields bs
    let fixed := correctCopy raw
    (fixed, fixed != raw)

/-- The same, told whether a store of the block was cut after some of its bytes were acknowledged: the
record check of such a block fails (R127, R176), also where the bytes that stand would pass it (the
model's choice between R176 and R180, log 34). -/
def loadStored (cut : Bool) (bs : List Byte) : WorkingCopy × Bool :=
  if cut && byteAt bs 0 == 0xA7#8 then (Config.defaults, true) else loadBlock bs

end Sys2Proof.Machine
end

