-- ==== Sys2Proof/Machine/Formats.lean ====
section
/-!
DEFINITION. Machine/Formats.lean: the checkpoint record (12.5): its 64 bytes, and the test of a slot's
contents (R117).
-/

namespace Sys2Proof.Machine

/-- The fields of a checkpoint record (12.5). The run record's stamps are carried by their clock values
and their foreign flags (R120). -/
structure CheckpointRecord where
  pocket : PocketId
  seq : Nat
  kind : RecordKind
  phase : RecordedPhase
  run : RunRecord
  faults : FaultSet
  clock : Nat
  epoch : Nat
  trefForeign : Bool
  acForeign : Bool
  deriving DecidableEq, Repr

/-- The flags byte (12.5, byte 11). -/
def CheckpointRecord.flags (r : CheckpointRecord) : Byte :=
  bitIf r.run.stage.reduced? 0 ||| bitIf r.run.autoResume 1 ||| bitIf r.run.reverse 2
    ||| bitIf r.trefForeign 3 ||| bitIf r.acForeign 4

/-- Bytes 0 to 61 of a record. -/
def CheckpointRecord.body (r : CheckpointRecord) : List Byte :=
  [0xC5#8, pocketByte r.pocket] ++ le32Nat r.seq
    ++ [r.kind.code, r.phase.code, r.run.target.code, r.run.coolExit.code, r.run.cause.code, r.flags]
    ++ le16Nat r.epoch ++ le32Nat r.clock
    ++ le16Nat r.run.d ++ le16Nat r.run.t ++ le16Nat r.run.h ++ le16Nat r.run.c
    ++ le16Nat r.run.coolTarget ++ le16Int r.run.thetaX ++ le16Int r.run.thetaRef
    ++ le32Nat r.run.tref.clock ++ le16Nat r.run.window ++ le32Nat r.run.acStart.clock
    ++ [byteNat r.run.burst, byteNat r.run.tries] ++ le16Nat r.run.rest
    ++ [byteNat r.run.trips, r.faults.byte] ++ le16Nat r.run.copies.cmax
    ++ [r.run.copies.heatKind.code, byteNat r.run.copies.purge, byteNat r.run.copies.trial,
        byteNat r.run.copies.tries]
    ++ List.replicate 8 0#8

/-- The 64 bytes of a record, closed by its record check. -/
def CheckpointRecord.encode (r : CheckpointRecord) : List Byte := r.body ++ le16 (crc16 r.body)

/-- The fields a slot's bytes hold, or none where an enumeration holds no defined value or a flag bit
that 12.5 gives as zero is 1 (R117, test 5; R178). The stamps take the record's epoch, or epoch 0
where their foreign flag is set (R138). -/
def CheckpointRecord.parse (bs : List Byte) : Option CheckpointRecord := do
  let pocket ← pocketOfByte (byteAt bs 1)
  let kind ← RecordKind.ofCode (byteAt bs 6)
  let phase ← RecordedPhase.ofCode (byteAt bs 7)
  let target ← Target.ofCode (byteAt bs 8)
  let coolExit ← CoolExit.ofCode (byteAt bs 9)
  let cause ← HeatCause.ofCode (byteAt bs 10)
  let flags := byteAt bs 11
  let heatKind ← HeatKind.ofCode (byteAt bs 50)
  if flags.toNat < 32 ∧ (byteAt bs 47).toNat < 64 then
    let epoch := u16At bs 12
    some
      { pocket := pocket, seq := u32At bs 2, kind := kind, phase := phase
        run :=
          { target := target, coolExit := coolExit, cause := cause
            d := u16At bs 18, t := u16At bs 20
            stage := HeatStage.ofBool (flags.getLsbD 0)
            autoResume := flags.getLsbD 1, reverse := flags.getLsbD 2
            h := u16At bs 22, c := u16At bs 24, coolTarget := u16At bs 26
            thetaX := s16At bs 28, thetaRef := s16At bs 30
            tref := ⟨u32At bs 32, if flags.getLsbD 3 then 0 else epoch⟩
            window := u16At bs 36
            acStart := ⟨u32At bs 38, if flags.getLsbD 4 then 0 else epoch⟩
            burst := (byteAt bs 42).toNat, rest := u16At bs 44
            tries := (byteAt bs 43).toNat, trips := (byteAt bs 46).toNat
            copies :=
              { heatKind := heatKind, purge := (byteAt bs 51).toNat, trial := (byteAt bs 52).toNat
                tries := (byteAt bs 53).toNat, cmax := u16At bs 48 } }
        faults := FaultSet.ofByte (byteAt bs 47)
        clock := u32At bs 14, epoch := epoch
        trefForeign := flags.getLsbD 3, acForeign := flags.getLsbD 4 }
  else none

/-- The range tests on the numeric fields of a run record (R117, test 6). -/
def RunRecord.inRange (r : RunRecord) : Bool :=
  240 ≤ r.t && r.t ≤ 57600 && r.d ≤ r.t && r.coolTarget ≤ 3600
    && (-40 : Int) ≤ r.thetaX && r.thetaX ≤ 400 && (-40 : Int) ≤ r.thetaRef && r.thetaRef ≤ 400
    && r.window ≤ 10800 && 1 ≤ r.burst && r.burst ≤ 40 && 30 ≤ r.rest && r.rest ≤ 600
    && r.tries ≤ 3 && r.trips ≤ 3
    && 300 ≤ r.copies.cmax && r.copies.cmax ≤ 3600 && r.copies.purge ≤ 120
    && 4 ≤ r.copies.trial && r.copies.trial ≤ 15 && 1 ≤ r.copies.tries && r.copies.tries ≤ 3
    && r.tries ≤ r.copies.tries
    && (r.target != .heat || (r.tries < r.copies.tries && r.trips < 3))

/-- The defects of a slot (R117). -/
inductive Defect where
  | badMark
  | badPocket
  | badCheck
  | badField
  deriving DecidableEq, Repr

/-- Validity codes of a JOURNAL_READ reply (R179); none is VALID. -/
def validityCode : Option Defect → Nat
  | none => 0
  | some .badMark => 1
  | some .badPocket => 2
  | some .badCheck => 3
  | some .badField => 4

/-- The test of a slot's bytes as a record of a pocket's ring (R117): the record, or the defect that
the first failing test names. The bytes alone decide, also of a slot that a cut write left with the bytes
of its older record: it stays valid (the model's choice between R113, R117 and R121, log 43). -/
def readRecord (p : PocketId) (bs : List Byte) : Except Defect CheckpointRecord :=
  if byteAt bs 0 ≠ 0xC5#8 then .error .badMark
  else if byteAt bs 1 ≠ pocketByte p then .error .badPocket
  else if (crc16 (bs.take 62)).toNat ≠ u16At bs 62 then .error .badCheck
  else
    match CheckpointRecord.parse bs with
    | none => .error .badField
    | some r =>
      if 1 ≤ r.seq ∧ 1 ≤ r.epoch ∧ r.run.inRange then .ok r else .error .badField

/-- The defect of a slot's bytes; none where they are a valid record. -/
def slotDefect (p : PocketId) (bs : List Byte) : Option Defect :=
  match readRecord p bs with
  | .ok _ => none
  | .error d => some d

end Sys2Proof.Machine
end

