-- ==== Sys2Proof/Machine/Ops.lean ====
section
/-!
DEFINITION. Machine/Ops.lean: the named operations of the blocks: the journal memory's bytes, posting an
event, composing a reply, posting start requests and journal requests, the backup clock's stamps, the
conditions a pocket reads, and a change of phase. Each State operation is one record update of the
blocks it touches.
-/

namespace Sys2Proof.Machine

/-! ### The journal memory (R113) -/

/-- The byte at an address. -/
def Memory.read : List Host.Cell → Nat → Byte
  | [], _ => Config.freshByte
  | (a', b) :: rest, a => if a' = a then b else Memory.read rest a

/-- Store a byte, keeping the canonical form. -/
def Memory.write : List Host.Cell → Nat → Byte → List Host.Cell
  | [], a, b => if b = Config.freshByte then [] else [(a, b)]
  | (a', b') :: rest, a, b =>
    if a < a' then (if b = Config.freshByte then (a', b') :: rest else (a, b) :: (a', b') :: rest)
    else if a = a' then (if b = Config.freshByte then rest else (a, b) :: rest)
    else (a', b') :: Memory.write rest a b

/-- The n bytes from an address. -/
def Memory.readBytes (m : List Host.Cell) (a n : Nat) : List Byte :=
  (List.range n).map (fun i => Memory.read m (a + i))

/-- Store bytes at ascending addresses. -/
def Memory.writeBytes (m : List Host.Cell) (a : Nat) : List Byte → List Host.Cell
  | [] => m
  | b :: bs => Memory.writeBytes (Memory.write m a b) (a + 1) bs

/-- The number of bytes the journal memory holds (R113). -/
def Memory.size : Nat := 16384

/-- Addresses rise strictly from a bound on, lie in the memory, and no entry reads as unlisted. -/
def Memory.sortedFrom : Nat → List Host.Cell → Bool
  | _, [] => true
  | lo, (a, b) :: rest =>
    lo ≤ a && a < Memory.size && b != Config.freshByte && Memory.sortedFrom (a + 1) rest

/-- The canonical form of the journal memory. -/
def Memory.wf (m : List Host.Cell) : Bool := Memory.sortedFrom 0 m

/-- The address of the first byte of a slot (R113). -/
def slotAddress (p : PocketId) (slot : Fin 124) : Nat :=
  match p with
  | .U => 512 + 64 * slot.val
  | .L => 8448 + 64 * slot.val

/-! ### Access to a pocket's state -/

/-- The sequencer of a pocket. -/
def State.pocket (s : State) (p : PocketId) : Pocket := s.psq.get p

/-- Replace the sequencer of a pocket. -/
def State.setPocket (s : State) (p : PocketId) (k : Pocket) : State := { s with psq := s.psq.set p k }

/-- Change the run record of a pocket. -/
def State.setRun (s : State) (p : PocketId) (r : RunRecord) : State :=
  s.setPocket p { s.pocket p with run := r }

/-- Change the timers of a pocket. -/
def State.setTimers (s : State) (p : PocketId) (t : PocketTimers) : State :=
  s.setPocket p { s.pocket p with timers := t }

/-- What the Input Conditioner holds for a pocket. -/
def State.sense (s : State) (p : PocketId) : Sensing := s.ic.get p

/-- Replace what the Input Conditioner holds for a pocket. -/
def State.setSense (s : State) (p : PocketId) (k : Sensing) : State := { s with ic := s.ic.set p k }

/-- One contact input. -/
def Sensing.contact (k : Sensing) : ContactInput → Contact
  | .door => k.door
  | .airflow => k.airflow
  | .hilimit => k.hilimit
  | .heatFb => k.heatFb

/-- Replace one contact input. -/
def Sensing.setContact (k : Sensing) (i : ContactInput) (c : Contact) : Sensing :=
  match i with
  | .door => { k with door := c }
  | .airflow => { k with airflow := c }
  | .hilimit => { k with hilimit := c }
  | .heatFb => { k with heatFb := c }

/-- One raw contact level. -/
def RawContacts.level (r : RawContacts) : ContactInput → Bool
  | .door => r.door
  | .airflow => r.airflow
  | .hilimit => r.hilimit
  | .heatFb => r.heatFb

/-- Replace one raw contact level. -/
def RawContacts.setLevel (r : RawContacts) (i : ContactInput) (b : Bool) : RawContacts :=
  match i with
  | .door => { r with door := b }
  | .airflow => { r with airflow := b }
  | .hilimit => { r with hilimit := b }
  | .heatFb => { r with heatFb := b }

/-! ### Time -/

/-- The instant moves on by the time since the last command (log 4). -/
def State.advance (s : State) (dt : Nat) : State := { s with time := s.time + dt }

/-- Seconds in microseconds. -/
def seconds (n : Nat) : Nat := n * 1000000

/-- Milliseconds in microseconds. -/
def millis (n : Nat) : Nat := n * 1000

/-- A timer that runs and has reached its expiry instant (log 5). -/
def due (timer : Option Nat) (now : Nat) : Bool :=
  match timer with
  | none => false
  | some t => t ≤ now

/-- The working domain runs: WAKE, RUN and HOLD_UP (table of 6.1). -/
def Power.working : Power → Bool
  | .wake _ | .run | .holdUp => true
  | .reset | .dark => false

/-- The power state is RUN. -/
def State.inRun (s : State) : Bool := s.ss.power == .run

/-! ### VHU samples (R98) -/

/-- The wake threshold that applies: the default code 100 in DARK (R99), otherwise the working copy's. -/
def State.wakeThreshold (s : State) : Nat :=
  if s.ss.power = .dark then Config.darkWakeCode else s.cfg.wakeCode

/-- A sample is noted: a comparison moves here only in the direction that no command names, and in the
other direction by the command that names it (log 11). -/
def State.noteVhu (s : State) (v : Byte) : State :=
  { s with ss := { s.ss with
      vhu := v
      atWake := s.ss.atWake && s.wakeThreshold ≤ v.toNat
      atFloor := s.ss.atFloor || s.cfg.writeFloor ≤ v.toNat
      atDark := s.ss.atDark || s.cfg.darkCode ≤ v.toNat } }

/-- VHU is sampled continuously and compared with the thresholds as read at each sample (R98): when a
threshold has moved, the code that stands is compared afresh (log 11). -/
def State.recompare (s : State) : State := s.noteVhu s.ss.vhu

/-! ### Stamps (R108, R111) -/

/-- Now, in the current epoch. -/
def Backup.stamp (b : Backup) : Stamp := ⟨b.clock, b.epoch⟩

/-- The elapsed time since a stamp; none is UNKNOWN (R111). -/
def Backup.elapsed (b : Backup) (t : Stamp) : Option Nat :=
  if t.epoch = b.epoch ∧ b.epoch ≠ 0 then some (b.clock - t.clock) else none

/-! ### Events (R166) -/

/-- Post an entry: dropped when its class is masked, queued when there is room, and otherwise
discarded with the lost flag set (R166); a discard is remembered against an EVENTS reply under way
(R168). -/
def Link.post (l : Link) (mask : Nat) (e : EventEntry) : Link :=
  if mask.testBit e.kind.classBit then l
  else if l.events.length < 16 then { l with events := l.events ++ [e] }
  else
    { l with
      lost := true
      outstanding := l.outstanding.map fun o =>
        { o with events := o.events.map fun ev => { ev with discarded := true } } }

/-- Post an event with now's low 16 bits. -/
def State.post (s : State) (kind : EventKind) (p : Option PocketId) (arg : Half) : State :=
  { s with ml := s.ml.post s.cfg.classMask ⟨kind, p, half s.bd.clock, arg⟩ }

/-- ATTN (R167): the event queue is non-empty or the lost flag is set, except in RESET and DARK. -/
def State.attn (s : State) : Bool :=
  s.ss.power.working && (!s.ml.events.isEmpty || s.ml.lost)

/-! ### Replies (R162, R163) -/

/-- The reply of the outstanding request joins the transmitter. -/
def Link.reply (l : Link) (r : Reply) : Link :=
  match l.outstanding with
  | none => l
  | some o => { l with tx := l.tx ++ [⟨false, replyFrame o.kind o.tag r⟩] }

/-- A REJECT joins the transmitter, unless another REJECT waits there not yet begun (R163). -/
def Link.sendReject (l : Link) (kind tag : Byte) (cause : RejectCause) : Link :=
  if l.tx.tail.any (·.reject) then l
  else { l with tx := l.tx ++ [⟨true, rejectFrame kind tag cause⟩] }

/-- The Journal Controller ends a bus request: its reply is composed, or the orphan ends without one
(R162). -/
def Link.endBusRequest (l : Link) (r : Reply) : Link :=
  if l.orphan then { l with orphan := false } else l.reply r

/-- The characters TXD has to carry, in their order, each frame's with no idle time between them (R158,
R163); none is sent in RESET and DARK (R164). -/
def State.onTxd (s : State) : List LineChar :=
  if s.ss.power.working then s.ml.tx.flatMap (·.chars) else []

/-! ### Pocket faults (R30) -/

/-- Set a sticky pocket fault; one that was clear posts POCKET_FAULT. SENSOR is set by Sensing, with its
own event (R40). -/
def State.setFault (s : State) (p : PocketId) (f : PocketFault) : State :=
  if (s.pocket p).faults.has f then s
  else
    (s.setPocket p { s.pocket p with faults := (s.pocket p).faults.insert f }).post
      .pocketFault (some p) f.mask

/-! ### The conditions a pocket reads -/

/-- The drum is TURNING (R36). -/
def Sensing.turning (k : Sensing) : Bool := k.lastPulse.isSome

/-- The line state is NORMAL or RIDE_THROUGH. -/
def LineState.heats : LineState → Bool
  | .normal | .rideThrough => true
  | .qualifying | .lowLine | .lost => false

/-- The interlock set holds (R64). -/
def State.interlock (s : State) (p : PocketId) : Bool :=
  (s.sense p).airflow.level && (s.sense p).hilimit.level && s.lm.line.heats

/-- The pocket holds the start slot with a request of the kind. -/
def Arbiter.holds (a : Arbiter) (p : PocketId) (kind : StartKind) : Bool :=
  match a.slot with
  | none => false
  | some g => g.request == ⟨p, kind⟩

/-- HEAT_PERMIT (R63): not latched, so a function of the state. -/
def State.heatPermit (s : State) (p : PocketId) : Bool :=
  ((s.pocket p).phase == .heat
      || ((s.pocket p).phase == .ignition && s.ssa.holds p .heatStart))
    && s.inRun && s.interlock p && (s.sense p).door.level && (s.sense p).turning

/-- The slot state of a POCKET reply, by its code (R49, 12.3). -/
def Arbiter.slotCode (a : Arbiter) (p : PocketId) : Byte :=
  if a.holds p .motorStart || a.holds p .heatStart then 3#8
  else if a.queue.contains ⟨p, .heatStart⟩ then 2#8
  else if a.queue.contains ⟨p, .motorStart⟩ then 1#8
  else 0#8

/-! ### Start requests (R45, R48) -/

/-- A request arrives: it joins the tail unless one of its pocket and kind is queued (R45). -/
def Arbiter.arrive (a : Arbiter) (r : StartRequest) : Arbiter :=
  if a.queue.contains r then a else { a with queue := a.queue ++ [r] }

/-- Every queued request that a test names is removed, and a grant it names is released. -/
def Arbiter.giveUp (a : Arbiter) (queued granted : StartRequest → Bool) : Arbiter :=
  { slot := match a.slot with
      | none => none
      | some g => if granted g.request then none else some g
    queue := a.queue.filter (fun r => !queued r) }

/-- What a pocket gives up at a change of phase (R3, R48). -/
def Arbiter.leave (a : Arbiter) (p : PocketId) (old new : Phase) : Arbiter :=
  a.giveUp
    (fun r => r.pocket == p &&
      (new.dropsMotor
        || (r.kind == .heatStart && (new == .cool || old == .ignition))
        || (r.kind == .motorStart && (old == .spinup || old == .acRest))))
    (fun r => r.pocket == p &&
      (new.dropsMotor || (r.kind == .heatStart && (new == .cool || old == .ignition))))

/-- A pocket's sequencer posts a start request. -/
def State.postStart (s : State) (p : PocketId) (kind : StartKind) : State :=
  { s with ssa := s.ssa.arrive ⟨p, kind⟩ }

/-! ### Journal requests (R116, R118, R21) -/

/-- Priority, 1 the highest (R116). -/
def WriteKind.priority : WriteKind → Nat
  | .checkpoint _ .loss => 1
  | .checkpoint _ .start | .checkpoint _ .phase | .checkpoint _ .resume => 2
  | .checkpoint _ .periodic => 3
  | .store | .read _ _ => 4

/-- The entry is a request of the pocket. -/
def WriteRequest.ofPocket (w : WriteRequest) (p : PocketId) : Bool :=
  match w.what with
  | .checkpoint q _ => q == p
  | .store | .read _ _ => false

/-- The kind a queued request takes when its pocket's next request arrives (R118). -/
def WriteKind.upgrade (queued arriving : WriteKind) : WriteKind :=
  if arriving.priority ≤ queued.priority then arriving else queued

/-- A pocket's request joins the write queue, or upgrades the one queued (R118). -/
def enqueue (queue : List WriteRequest) (p : PocketId) (kind : RecordKind) (now : Nat) :
    List WriteRequest :=
  if queue.any (·.ofPocket p) then
    queue.map fun w =>
      if w.ofPocket p then { w with what := w.what.upgrade (.checkpoint p kind) } else w
  else queue ++ [⟨.checkpoint p kind, now⟩]

/-- START, PHASE and RESUME restart the periodic timer of a pocket in a running phase (R21). -/
def RecordKind.restartsPeriodic : RecordKind → Bool
  | .start | .phase | .resume => true
  | .periodic | .loss => false

/-- A pocket posts a journal request (R20, R21, R118). -/
def State.postRequest (s : State) (p : PocketId) (kind : RecordKind) : State :=
  let k := s.pocket p
  let timers :=
    if k.phase.running && kind.restartsPeriodic then
      { k.timers with periodic := some (s.time + seconds s.cfg.period) }
    else k.timers
  { s with
    jc := { s.jc with queue := enqueue s.jc.queue p kind s.time }
    psq := s.psq.set p { k with timers := timers } }

/-! ### The reference temperature (R18) -/

/-- Take θref and tref, when θ is valid and SENSOR is clear; otherwise both keep their values. -/
def State.takeReference (s : State) (p : PocketId) : State :=
  let k := s.pocket p
  match (s.sense p).theta with
  | none => s
  | some theta =>
    if k.faults.sensor then s
    else s.setRun p { k.run with thetaRef := theta, tref := s.bd.stamp }

/-! ### A change of phase (R2, R3, R18, R21) -/

/-- The timers after a change of phase: the pocket and periodic timers run in the running phases and
start full on the way in; every timer of the phase left is abandoned. -/
def PocketTimers.move (t : PocketTimers) (old new : Phase) (now period : Nat) : PocketTimers :=
  { PocketTimers.stopped with
    second :=
      if new.running then (if old.running then t.second else some (now + seconds 1)) else none
    periodic :=
      if new.running then (if old.running then t.periodic else some (now + seconds period))
      else none }

/-- The pocket's own part of a change of phase: outputs (R3), timers (R2, R21), release of the
reference pair on the way into a running phase (R18), and the marks of the phase left. -/
def Pocket.move (k : Pocket) (new : Phase) (now period : Nat) : Pocket :=
  { k with
    phase := new
    motorRun := k.motorRun && !new.dropsMotor
    timers := k.timers.move k.phase new now period
    frozen := k.frozen && !new.running
    proven := false
    firstPulse := false }

/-- A pocket changes its live phase: PHASE_CHANGED is posted, the pocket moves, and the arbiter loses
what the pocket no longer needs (R3, R48). -/
def State.changePhase (s : State) (p : PocketId) (new : Phase) : State :=
  let k := s.pocket p
  { s with
    ml := s.ml.post s.cfg.classMask
      ⟨.phaseChanged, some p, half s.bd.clock, pairArg k.phase.code new.code⟩
    ssa := s.ssa.leave p k.phase new
    psq := s.psq.set p (k.move new s.time s.cfg.period) }

/-- A change of phase that posts a PHASE journal request (R20). -/
def State.enterPhase (s : State) (p : PocketId) (new : Phase) : State :=
  (s.changePhase p new).postRequest p .phase

/-! ### JOURNAL_FAULT (R126) -/

/-- Set JOURNAL_FAULT with its cause and place; the event is posted when asked for, for the pocket of
the ring concerned or none; a failed service read carries none (the model's choice, log 36). -/
def State.setJournalFault (s : State) (cause : JournalCause) (place : JournalPlace) (tell : Bool) :
    State :=
  let s1 := { s with ss := { s.ss with journalFault := some (cause, place) } }
  let p := match place with
    | .ring p => some p
    | .configBlock | .serviceRead => none
  if tell then s1.post .journalFault p (pairArg cause.code place.code) else s1

end Sys2Proof.Machine
end

