-- ==== Sys2Proof/Machine/Bus.lean ====
section
/-!
DEFINITION. Machine/Bus.lean: what the bus engine does on SDA and SCL (07): the form of a write transfer
(R121), of a read transfer (R132, R134, R135), of an abandoned attempt (R123), of a read of the load cut short
by a loss (R142) and of a recovery (R124), and the job each belongs to.
-/

namespace Sys2Proof.Machine

/-- One act of the engine on the journal bus. The device address is the memory's one fixed address; the
manual gives it no value, so it stands by its name and its direction (log 41). -/
inductive BusAct where
  | start
  | repeatedStart
  | stop
  | addressWrite
  | addressRead
  | send (b : Byte)
  /-- A byte is received, and acknowledged or not. -/
  | receive (ack : Bool)
  | releaseSda
  | clockPulse
  deriving DecidableEq, Repr

/-- The start, the device address for writing and the two address bytes, most significant first, with
which every transfer begins (R121, R132). -/
def transferHead (a : Nat) : List BusAct :=
  [.start, .addressWrite, .send (byteNat (a / 256)), .send (byteNat (a % 256))]

/-- A write transfer of bytes from an address (R121, R130). -/
def writeTransfer (a : Nat) (bs : List Byte) : List BusAct :=
  transferHead a ++ bs.map .send ++ [.stop]

/-- A read transfer of n bytes from an address: every byte but the last is acknowledged (R132). -/
def readTransfer (a n : Nat) : List BusAct :=
  transferHead a ++ [.repeatedStart, .addressRead] ++ List.replicate (n - 1) (.receive true)
    ++ [.receive false, .stop]

/-- A bus recovery (R124): SDA released, nine clock pulses on SCL, a stop condition. -/
def recoveryActs : List BusAct := [.releaseSda] ++ List.replicate 9 .clockPulse ++ [.stop]

/-- The bytes a job sends to the journal memory, with the address of the first. -/
def Job.bytesOut : Job → Option (Nat × List Byte)
  | .checkpoint p slot _ image => some (slotAddress p slot, image)
  | .store block => some (0, block)
  | .read _ _ | .configRead | .slotRead _ _ => none

/-- The transfer of each attempt of a job (R121, R130, R132, R134, R135). -/
def Job.transfer : Job → List BusAct
  | .checkpoint p slot _ image => writeTransfer (slotAddress p slot) image
  | .store block => writeTransfer 0 block
  | .read p slot | .slotRead p slot => readTransfer (slotAddress p slot) 64
  | .configRead => readTransfer 0 512

/-- An attempt that ends in NO_ACK, on the bus (R123): the acts of its transfer up to the byte that was not
acknowledged, and a stop condition. How many acts these are is not held (log 41). -/
def Job.abandoned (j : Job) (sent : Nat) : List BusAct := j.transfer.take sent ++ [.stop]

/-- What the engine does on the bus as a byte of an attempt is not acknowledged, on each of the three
attempts (R123): the stop condition. -/
def Engine.onNoAck : Engine → List BusAct
  | .busy _ _ .transfer => [.stop]
  | .free | .busy _ _ (.retryWait _) | .busy _ _ .recovery => []

/-- A transfer of the load sequence (R133). -/
def Job.ofLoad : Job → Bool
  | .configRead | .slotRead _ _ => true
  | .checkpoint _ _ _ _ | .store _ | .read _ _ => false

/-- A transfer of a request of the Message Link (R130, R132). -/
def Job.ofLink : Job → Bool
  | .store _ | .read _ _ => true
  | .checkpoint _ _ _ _ | .configRead | .slotRead _ _ => false

/-- What the engine does on the bus at a loss of the part's supply in WAKE (R142): a configuration read or a
slot read in flight is ended at once by a stop condition after the byte being received; a retry being waited
for, or a recovery under way, is abandoned with no act more. A request in flight is not touched (R127). -/
def Engine.onLoss : Engine → List BusAct
  | .busy job _ .transfer => if job.ofLoad then [.stop] else []
  | .free | .busy _ _ (.retryWait _) | .busy _ _ .recovery => []

/-- The engine after a loss in WAKE (R142): the load sequence is abandoned, with its read, its retry wait or
its recovery; a request in flight runs on (R127). -/
def Engine.afterLoss : Engine → Engine
  | .busy job n ph => if job.ofLoad then .free else .busy job n ph
  | .free => .free

/-- What the engine is doing on the bus (R123, R124): an attempt's transfer; in RETRY_WAIT the stop condition
with which the attempt was abandoned, and nothing after it; a recovery; or nothing. -/
def Engine.onBus : Engine → List BusAct
  | .free => []
  | .busy _ _ (.retryWait _) => [.stop]
  | .busy job _ .transfer => job.transfer
  | .busy _ _ .recovery => recoveryActs

/-- What the part does on the journal bus: nothing in RESET and DARK, where the lines are released
(R129). -/
def State.onBus (s : State) : List BusAct := if s.ss.power.working then s.jc.engine.onBus else []

/-- What ATTEMPT_NO_ACK makes the part do on the journal bus at its instant (R123). -/
def State.onNoAck (s : State) : List BusAct := if s.ss.power.working then s.jc.engine.onNoAck else []

/-- What a loss of the line, or VHU falling below dark, makes the part do on the journal bus at its instant
(R142). An RST assertion is no such loss: the transfer in flight is cut and the lines released (R129). -/
def State.onLoss (s : State) : List BusAct := if s.ss.power.working then s.jc.engine.onLoss else []

end Sys2Proof.Machine
end

