-- ==== Sys2Proof/Machine/Planner.lean ====
section
/-!
DEFINITION. Machine/Planner.lean: the Resume Planner's arithmetic and decisions (09), as functions of
what it reads (R144). It writes no field of a run record.
-/

namespace Sys2Proof.Machine

/-! ### The four stages (9.3) -/

/-- Stage 1 for a known elapsed time (R145). -/
def decayFactor (c : WorkingCopy) (e : Nat) : Nat :=
  let i := e / c.decayStep
  let r := e % c.decayStep
  if 15 ≤ i then c.decay 15
  else c.decay i - (c.decay i - c.decay (i + 1)) * r / c.decayStep

/-- Stage 1 (R145): f is recorded as 0 when E is UNKNOWN. -/
def stageOne (c : WorkingCopy) (e : Option Nat) : Nat :=
  match e with
  | none => 0
  | some e => decayFactor c e

/-- Stage 2: the estimated load temperature (R146). -/
def loadTemperature (c : WorkingCopy) (thetaRef : Int) (e : Option Nat) (theta : Option Int)
    (distrust : Bool) : Int :=
  match e with
  | some e =>
    if thetaRef > c.thetaA then
      c.thetaA + (thetaRef - c.thetaA) * (decayFactor c e : Int) / 256
    else thetaRef
  | none =>
    match theta with
    | none => min c.thetaA thetaRef
    | some t =>
      if distrust then min c.thetaA thetaRef
      else clampInt (min c.thetaA thetaRef) thetaRef t

/-- Stage 3: the reheat allowance (R147). -/
def reheatAllowance (c : WorkingCopy) (delta : Nat) : Nat :=
  min c.rmax ((delta * c.reheatK + 15) / 16)

/-- The four stages on a run record (R145 to R147). -/
def figures (c : WorkingCopy) (run : RunRecord) (e : Option Nat) (theta : Option Int)
    (distrust : Bool) : Figures :=
  let thetaN := loadTemperature c run.thetaRef e theta distrust
  let delta := (run.thetaRef - thetaN).toNat
  let r := reheatAllowance c delta
  let dPrime := run.d - min run.d r
  { e := e, f := stageOne c e, thetaN := thetaN, delta := delta, r := r, dPrime := dPrime,
    remaining := run.t - dPrime, seconds := (run.t - dPrime + 3) / 4 }

/-- The figures of a plan without a run record to work from (R151). -/
def Figures.absent : Figures := ⟨none, 0, 0, 0, 0, 0, 0, 0⟩

/-! ### What the planner reads -/

/-- The planner distrusts the sensor (R144). A good run of 0 with θ valid means that the most recent
conversion was a fault sample. -/
def distrusts (k : Sensing) (faults : FaultSet) : Bool :=
  k.theta.isNone || k.goodRun == 0 || faults.sensor

/-! ### Decisions (9.4) -/

/-- The hold reasons of a heat resume (R148). -/
def holdReasons (c : WorkingCopy) (e : Option Nat) (door : Nat) (stale auto : Bool) : HoldReasons :=
  { unknownOutage := e.isNone
    longOutage := match e with
      | none => false
      | some e => c.omax < e
    doorInDark := 0 < door
    staleRecord := stale
    autoOff := !auto || c.omax == 0 }

/-- A stale record (R148): not LOSS, in recorded phase HEAT, COOL or ANTICREASE. -/
def staleRecord (kind : RecordKind) (phase : RecordedPhase) : Bool :=
  kind != .loss && (phase == .heat || phase == .cool || phase == .antiCrease)

/-- The cool decision (R149), not yet applied, with no hold reasons. -/
def coolDecision (c : WorkingCopy) (run : RunRecord) (fig : Figures) (door : Nat) : PlanRecord :=
  if fig.thetaN ≤ run.thetaX then
    let dest : Phase := match run.coolExit with
      | .antiCrease => if 0 < run.window then .acRest else .done
      | .done => .done
      | .faultHold => .faultHold
    { applied := false, kind := .skipToAntiCrease, dest := dest
      destTarget := if dest = .acRest then .antiCrease else run.target
      reasons := .none, figures := fig, cPrime := 0, window := 0, doorCount := door }
  else
    { applied := false, kind := .resumeCool, dest := .startWait, destTarget := .cool
      reasons := .none, figures := fig
      cPrime := min run.c (run.coolTarget - c.cmin), window := 0, doorCount := door }

/-- A plan that only enters a phase. -/
def stayPlan (kind : PlanKind) (dest : Phase) (target : Target) (fig : Figures) (door : Nat) :
    PlanRecord :=
  { applied := false, kind := kind, dest := dest, destTarget := target, reasons := .none,
    figures := fig, cPrime := 0, window := 0, doorCount := door }

/-- The anti-crease decision (R150). -/
def antiCreaseDecision (b : Backup) (run : RunRecord) (fig : Figures) (door : Nat) : PlanRecord :=
  let finish := stayPlan .finish .done run.target fig door
  if fig.e.isNone ∨ 0 < door then finish
  else if run.acStart.epoch ≠ b.epoch then finish
  else
    let passed := b.clock - run.acStart.clock
    if run.window ≤ passed then finish
    else
      { applied := false, kind := .resumeAntiCrease, dest := .acRest, destTarget := .antiCrease
        reasons := .none, figures := fig, cPrime := 0, window := run.window - passed
        doorCount := door }

/-- The plan of a pocket at the end of a scan (R148 to R151). -/
def scanPlan (c : WorkingCopy) (b : Backup) (k : Sensing) (run : RunRecord) (recovered : Recovered)
    (door : Nat) : PlanRecord :=
  match recovered with
  | .none => stayPlan .stayIdle .idle run.target Figures.absent door
  | .unreadable => stayPlan .stayFault .faultHold run.target Figures.absent door
  | .record kind phase faults =>
    let e := b.elapsed run.tref
    let fig := figures c run e k.theta (distrusts k faults)
    let reasons := holdReasons c e door (staleRecord kind phase) run.autoResume
    match phase with
    | .heat =>
      if reasons.any then
        { stayPlan .holdHeat .held .heat fig door with reasons := reasons }
      else stayPlan .resumeHeat .startWait .heat fig door
    | .cool => coolDecision c run fig door
    | .antiCrease => antiCreaseDecision b run fig door
    | .paused => stayPlan .stayPaused .paused run.target fig door
    | .held => { stayPlan .stayHeld .held .heat fig door with reasons := reasons }
    | .fault => stayPlan .stayFault .faultHold run.target fig door
    | .done => stayPlan .stayDone .done run.target fig door
    | .idle => stayPlan .stayIdle .idle run.target fig door

/-- The figures of a computation from the live run record (R144, R154, R156, R157). -/
def liveFigures (c : WorkingCopy) (b : Backup) (k : Sensing) (pk : Pocket) : Figures :=
  figures c pk.run (b.elapsed pk.run.tref) k.theta (distrusts k pk.faults)

/-- The plan at CONTINUE (R154): applied at once, door count 0. -/
def continuePlan (c : WorkingCopy) (b : Backup) (k : Sensing) (pk : Pocket) : PlanRecord :=
  let fig := liveFigures c b k pk
  let plan := match pk.run.target with
    | .heat => stayPlan .resumeHeat .startWait .heat fig 0
    | .cool | .antiCrease => coolDecision c pk.run fig 0
  { plan with applied := true }

/-- The hold reasons reported at CONFIRM and DECLINE (R148): staleness and the door count as in the
plan being replaced. -/
def liveReasons (c : WorkingCopy) (b : Backup) (pk : Pocket) (old : Option PlanRecord) : HoldReasons :=
  let door := match old with
    | none => 0
    | some pl => pl.doorCount
  let stale := match old with
    | none => false
    | some pl => pl.reasons.staleRecord
  holdReasons c (b.elapsed pk.run.tref) door stale pk.run.autoResume

/-- The door count of the plan being replaced (R144). -/
def oldDoorCount (old : Option PlanRecord) : Nat :=
  match old with
  | none => 0
  | some pl => pl.doorCount

/-- The plan at CONFIRM (R156). -/
def confirmPlan (c : WorkingCopy) (b : Backup) (k : Sensing) (pk : Pocket)
    (old : Option PlanRecord) : PlanRecord :=
  { stayPlan .resumeHeat .startWait .heat (liveFigures c b k pk) (oldDoorCount old) with
    reasons := liveReasons c b pk old, applied := true }

/-- The plan at DECLINE (R157). -/
def declinePlan (c : WorkingCopy) (b : Backup) (k : Sensing) (pk : Pocket)
    (old : Option PlanRecord) : PlanRecord :=
  let fig := liveFigures c b k pk
  let base :=
    if fig.thetaN ≤ pk.run.thetaX then
      stayPlan .finish .done pk.run.target fig (oldDoorCount old)
    else
      { stayPlan .resumeCool .startWait .cool fig (oldDoorCount old) with
        cPrime := pk.run.coolTarget - c.cmin }
  { base with reasons := liveReasons c b pk old, applied := true }

/-- EXTEND in HELD (R155): remaining credit and estimated seconds from the new T. -/
def PlanRecord.extend (pl : PlanRecord) (t : Nat) : PlanRecord :=
  { pl with figures :=
    { pl.figures with remaining := t - pl.figures.dPrime, seconds := (t - pl.figures.dPrime + 3) / 4 } }

/-- The run record a plan leaves (R153): the fields its kind names, and the destination target where
the destination is a phase that carries one. -/
def PlanRecord.run (pl : PlanRecord) (r : RunRecord) (now : Stamp) : RunRecord :=
  let r1 := match pl.kind with
    | .resumeHeat => { r with d := pl.figures.dPrime }
    | .resumeCool => { r with c := pl.cPrime }
    | .skipToAntiCrease => if pl.dest = .acRest then { r with acStart := now } else r
    | .holdHeat | .resumeAntiCrease | .finish | .stayPaused | .stayHeld | .stayFault | .stayDone
    | .stayIdle => r
  match pl.dest with
  | .startWait | .acRest | .held | .paused => { r1 with target := pl.destTarget }
  | .idle | .spinup | .purge | .ignition | .heat | .heatWait | .cool | .acBurst | .done
  | .faultHold | .recovering => r1

end Sys2Proof.Machine
end

