-- ==== Sys2Proof/Machine/Phases.lean ====
section
/-!
DEFINITION. Machine/Phases.lean: the acts of a Pocket Sequencer that more than one command takes: entry
into each phase, the ending of heat (R14), the drum stall (R55), the grant of the start slot (R46), and
the application of a plan (R152).
-/

namespace Sys2Proof.Machine

/-! ### Ending heat (R14) -/

/-- The cool exit after heat ends; hold is the guard action HOLD (table of R14). -/
def CoolExit.after (e : CoolExit) (cause : HeatCause) (hold : Bool) : CoolExit :=
  match cause with
  | .vent | .ignition => .faultHold
  | .stop => .done
  | .guard => if hold then .faultHold else e
  | .none | .target | .appEnd | .limit | .sensor => e

/-- The run record after heat ends (R14, steps 1 to 4). -/
def RunRecord.endHeat (r : RunRecord) (cause : HeatCause) (hold : Bool) : RunRecord :=
  { r with cause := cause, target := .cool, c := 0, coolExit := r.coolExit.after cause hold }

/-- The act of ending heat (R14): from PURGE to HEAT_WAIT the pocket enters COOL; in START_WAIT and
SPINUP it keeps its phase; HEAT_ENDED is posted, after the PHASE_CHANGED into COOL (the model's choice, log
14). -/
def State.endHeat (s : State) (p : PocketId) (cause : HeatCause) (hold : Bool) : State :=
  let s1 := s.setRun p ((s.pocket p).run.endHeat cause hold)
  let s2 := if (s.pocket p).phase.heating then s1.enterPhase p .cool else s1
  s2.post .heatEnded (some p) (half cause.code.toNat)

/-! ### Heat phases (04) -/

/-- Enter HEAT_WAIT (R76): the heat grace runs if AIRFLOW is not proven. -/
def State.enterHeatWait (s : State) (p : PocketId) : State :=
  let s1 := s.changePhase p .heatWait
  if (s1.sense p).airflow.level then s1
  else
    s1.setTimers p { (s1.pocket p).timers with
      heatGrace := some (s1.time + seconds (s1.cfg.airflowGrace p)) }

/-- Enter IGNITION (R68): SENSOR ends heat; a failing interlock set leads to HEAT_WAIT; otherwise
HEAT_START is posted. -/
def State.enterIgnition (s : State) (p : PocketId) : State :=
  let s1 := s.changePhase p .ignition
  if (s1.pocket p).faults.sensor then s1.endHeat p .sensor false
  else if s1.interlock p then s1.postStart p .heatStart
  else s1.enterHeatWait p

/-- Enter PURGE (R65, R66, R80): the purge timer runs if AIRFLOW is proven, and otherwise the heat
grace. -/
def State.enterPurge (s : State) (p : PocketId) : State :=
  let s1 := s.changePhase p .purge
  let k := s1.pocket p
  if k.faults.sensor then s1.endHeat p .sensor false
  else if (s1.sense p).airflow.level then
    s1.setTimers p { k.timers with purge := some (s1.time + seconds k.run.copies.purge) }
  else
    s1.setTimers p { k.timers with heatGrace := some (s1.time + seconds (s1.cfg.airflowGrace p)) }

/-- Toward heat (R51, R65): PURGE for gas with a purge time, otherwise IGNITION. -/
def State.towardHeat (s : State) (p : PocketId) : State :=
  let c := (s.pocket p).run.copies
  if c.heatKind = .gas ∧ 0 < c.purge then s.enterPurge p else s.enterIgnition p

/-- Enter HEAT (R74): HEAT_ESTABLISHED is posted after the PHASE_CHANGED (the model's choice, log 14). -/
def State.enterHeat (s : State) (p : PocketId) : State :=
  let arg := match (s.pocket p).run.copies.heatKind with
    | .gas => (s.pocket p).run.tries + 1
    | .electric => 0
  let s1 := s.changePhase p .heat
  let k := s1.pocket p
  let s2 := s1.setPocket p { k with
    run := { k.run with tries := 0 }, tempHighTripped := false, runLongTripped := false }
  (s2.post .heatEstablished (some p) (half arg)).postRequest p .phase

/-- A pocket in HEAT_WAIT whose interlock set holds goes to IGNITION (R79). -/
def State.checkHeatWait (s : State) (p : PocketId) : State :=
  if s.inRun ∧ (s.pocket p).phase = .heatWait ∧ s.interlock p then s.enterIgnition p else s

/-- VENT_BLOCKED ends heat with cause VENT (R52, R66, R77). -/
def State.ventBlocked (s : State) (p : PocketId) : State :=
  (s.setFault p .ventBlocked).endHeat p .vent false

/-! ### Guards (R81, R82) -/

/-- The tripped mark of a guard. -/
def Pocket.tripped (k : Pocket) : Guard → Bool
  | .tempHigh => k.tempHighTripped
  | .runLong => k.runLongTripped

/-- Set the tripped mark of a guard. -/
def Pocket.trip (k : Pocket) : Guard → Pocket
  | .tempHigh => { k with tempHighTripped := true }
  | .runLong => { k with runLongTripped := true }

/-- A guard trips: its mark is set, GUARD_TRIPPED is posted, and its action is carried out (R82). -/
def State.guardTrip (s : State) (p : PocketId) (g : Guard) : State :=
  let action := s.cfg.guardAction p g
  let s1 := (s.setPocket p ((s.pocket p).trip g)).post .guardTripped (some p)
    (pairArg g.code action.code)
  match action with
  | .report => s1
  | .endHeat => s1.endHeat p .guard false
  | .hold => (s1.setFault p .guardHold).endHeat p .guard true

/-- A guard is evaluated in HEAT while its mark is clear; reached says that its limit is reached (R81). -/
def State.evaluateGuard (s : State) (p : PocketId) (g : Guard) (reached : Bool) : State :=
  if (s.pocket p).phase = .heat ∧ (s.pocket p).tripped g = false ∧ reached then s.guardTrip p g else s

/-! ### Motion (03) -/

/-- A drum stall (R55). -/
def State.drumStall (s : State) (p : PocketId) : State :=
  (s.setFault p .drumStall).enterPhase p .faultHold

/-- Enter SPINUP and post MOTOR_START (R50). -/
def State.enterSpinup (s : State) (p : PocketId) : State :=
  (s.changePhase p .spinup).postStart p .motorStart

/-- A pocket in START_WAIT leaves it in RUN with its door closed and the line NORMAL (R10). -/
def State.checkStartWait (s : State) (p : PocketId) : State :=
  if s.inRun ∧ (s.pocket p).phase = .startWait ∧ (s.sense p).door.level ∧ s.lm.line = .normal then
    s.enterSpinup p
  else s

/-- A pocket whose rotation and airflow are proven leaves SPINUP by its target (R51). -/
def State.leaveSpinup (s : State) (p : PocketId) : State :=
  match (s.pocket p).run.target with
  | .heat => s.towardHeat p
  | .cool | .antiCrease => s.enterPhase p .cool

/-- Enter AC_REST: target ANTICREASE, rest timer full (R57). -/
def State.enterAcRest (s : State) (p : PocketId) : State :=
  let s1 := s.changePhase p .acRest
  let k := s1.pocket p
  s1.setPocket p { k with
    run := { k.run with target := .antiCrease }
    timers := { k.timers with rest := some (s1.time + seconds k.run.rest) } }

/-- Cooling ends (R17). -/
def State.endCool (s : State) (p : PocketId) : State :=
  let r := (s.pocket p).run
  match r.coolExit with
  | .antiCrease =>
    ((s.setRun p { r with acStart := s.bd.stamp }).enterAcRest p).postRequest p .phase
  | .done => s.enterPhase p .done
  | .faultHold => s.enterPhase p .faultHold

/-- A grant in AC_REST starts a burst (R58). -/
def State.startBurst (s : State) (p : PocketId) : State :=
  let s1 := s.changePhase p .acBurst
  let k := s1.pocket p
  let rev := k.run.reverse && !k.lastBurstReverse
  s1.setPocket p { k with
    motorRev := rev, motorRun := true, lastBurstReverse := rev, windowReached := false
    timers := { k.timers with burstProof := some (s1.time + seconds (s1.cfg.startProof p)) } }

/-- The end of the hold of a request granted now (R47); none where the phase ends it. -/
def State.holdEnd (s : State) (r : StartRequest) : Option Nat :=
  match r.kind with
  | .motorStart => some (s.time + seconds s.cfg.hm)
  | .heatStart =>
    match (s.pocket r.pocket).run.copies.heatKind with
    | .gas => none
    | .electric => some (s.time + seconds s.cfg.he)

/-- What a grant does in the requesting pocket (R46, R50, R58, R69, R72). -/
def State.takeGrant (s : State) (r : StartRequest) : State :=
  let k := s.pocket r.pocket
  match r.kind, k.phase with
  | .motorStart, .spinup =>
    s.setPocket r.pocket { k with
      motorRev := false, motorRun := true
      timers := { k.timers with startProof := some (s.time + seconds (s.cfg.startProof r.pocket)) } }
  | .motorStart, .acRest => s.startBurst r.pocket
  | .heatStart, .ignition =>
    match k.run.copies.heatKind with
    | .gas =>
      s.setTimers r.pocket { k.timers with trial := some (s.time + seconds k.run.copies.trial) }
    | .electric => s
  | _, _ => s

/-- A free slot goes to the oldest request of the start queue (R45, R46). It is given at the end of the
command that frees it or brings the request (log 20), so after its events (log 14). -/
def State.arbitrate (s : State) : State :=
  match s.inRun, s.ssa.slot, s.ssa.queue with
  | true, none, r :: rest =>
    { s with ssa := { slot := some ⟨r, s.time, s.holdEnd r⟩, queue := rest } }.takeGrant r
  | _, _, _ => s

/-! ### Doors (R23, R60) -/

/-- A door opening pauses the pocket (R23). -/
def State.pauseDoor (s : State) (p : PocketId) : State :=
  let s1 := s.takeReference p
  (s1.setPocket p { s1.pocket p with frozen := true }).enterPhase p .paused

/-! ### Plans (R143, R152, R153) -/

/-- Hold a computed plan and post PLAN_READY (R143), before the events of an application at the same instant
(the model's choice, log 14). -/
def State.holdPlan (s : State) (p : PocketId) (pl : PlanRecord) : State :=
  { s with rp := s.rp.set p (some pl) }.post .planReady (some p)
    (pairArg pl.kind.code pl.reasons.byte)

/-- Change the run record by a plan and enter its destination (R152, steps 2 and 3), then post the given
journal request; a pocket whose START_WAIT can end at once leaves it (R10). -/
def State.enterPlan (s : State) (p : PocketId) (pl : PlanRecord) (kind : RecordKind) : State :=
  let s1 := s.setRun p (pl.run (s.pocket p).run s.bd.stamp)
  let s2 := match pl.dest with
    | .acRest => s1.enterAcRest p
    | d => s1.changePhase p d
  (s2.postRequest p kind).checkStartWait p

/-- The journal request of an application on entry to RUN (R152, step 4). -/
def PlanRecord.request (pl : PlanRecord) : RecordKind :=
  match pl.dest with
  | .startWait | .acRest => .resume
  | _ => .phase

/-- A pocket applies its pending plan on entry to RUN (R152). -/
def State.applyPlan (s : State) (p : PocketId) : State :=
  match s.rp.get p with
  | none => s
  | some pl =>
    if pl.applied then s
    else
      let faults := match (s.pocket p).recovered with
        | .record _ _ f => f
        | .none | .unreadable => FaultSet.empty
      let s1 := { s with rp := s.rp.set p (some { pl with applied := true }) }
      let s2 := s1.setPocket p { s1.pocket p with faults := faults }
      s2.enterPlan p pl pl.request

end Sys2Proof.Machine
end

