-- ==== Sys2Proof/Machine/Supply.lean ====
section
/-!
DEFINITION. Machine/Supply.lean: the power states (06): the wake, RUN, HOLD_UP, DARK and RESET entries,
and the commands of the hold-up store, the RST pin and the Backup Domain.
-/

namespace Sys2Proof.Machine

/-! ### Entries into the power states -/

/-- The Backup Domain at a wake (R100): kept when the marker is set, a cold start when it is clear. -/
def Backup.wake (b : Backup) (now : Nat) : Backup :=
  if b.valid then b
  else { clock := 0, epoch := 0, valid := true, watch := Pair.both (DoorWatch.cold now) }

/-- Entry into WAKE at stage QUALIFY (R100): every block takes its wake values; the working copy, the
pins and the journal memory stay. -/
def State.enterWake (s : State) : State :=
  let bd := s.bd.wake s.time
  { s with
    lm := LineMonitor.wake s.time
    ss := { s.ss with
      power := .wake .qualify, armTimer := none, returnMark := false, storeWeak := false,
      backupLost := false, configDefaulted := false, journalFault := none }
    bd := bd
    ic := Pair.both (Sensing.wake s.time)
    psq := ⟨Pocket.wake bd.epoch (s.cfg.copies .U), Pocket.wake bd.epoch (s.cfg.copies .L)⟩
    ssa := Arbiter.idle
    jc := JournalController.wake
    rp := Pair.both none
    ml := Link.wake }

/-- Entry into DARK (R99): the working domain is lost, its working copy included; what stands in its
place is what a wake from DARK starts with (log 22). VHU is compared afresh with the defaults (log 11). -/
def State.enterDark (s : State) : State :=
  { s with
    cfg := Config.defaults
    lm := LineMonitor.wake s.time
    ss :=
      { power := .dark, armTimer := none, returnMark := false, storeWeak := false,
        backupLost := false, configDefaulted := false, journalFault := none, vhu := s.ss.vhu
        atWake := Config.darkWakeCode ≤ s.ss.vhu.toNat
        atFloor := Config.defaults.writeFloor ≤ s.ss.vhu.toNat
        atDark := Config.defaults.darkCode ≤ s.ss.vhu.toNat }
    ic := Pair.both (Sensing.wake s.time)
    psq := Pair.both (Pocket.wake s.bd.epoch Copies.default)
    ssa := Arbiter.idle
    jc := JournalController.wake
    rp := Pair.both none
    ml := Link.wake }

/-- HOLD_UP ends when the write queue is empty and no transfer is in flight (R105, R106): in DARK with
the return mark clear; with it set, in WAKE once VHU is at or above the wake threshold. A reply composed by
the transfer that ends HOLD_UP is lost unsent (the model's choice, log 37). -/
def State.finishHoldUp (s : State) : State :=
  if s.ss.power = .holdUp ∧ s.jc.queue = [] ∧ s.jc.engine = .free then
    if s.ss.returnMark then
      if s.cfg.wakeCode ≤ s.ss.vhu.toNat then s.enterWake else s
    else s.enterDark
  else s

/-- A pocket at HOLD_UP entry (R22, R44, R62): outputs inactive, timers stopped; in a running phase
θref and tref are taken once and frozen. -/
def Pocket.holdUp (k : Pocket) (theta : Option Int) (now : Stamp) : Pocket :=
  { k with
    run :=
      if k.phase.running && !k.faults.sensor then
        match theta with
        | none => k.run
        | some t => { k.run with thetaRef := t, tref := now }
      else k.run
    motorRun := false
    motorRev := false
    timers := PocketTimers.stopped
    frozen := k.frozen || k.phase.running
    windowReached := false }

/-- The door watch is armed and cleared (R110). -/
def DoorWatch.arm (w : DoorWatch) : DoorWatch := { w with armed := true, count := 0 }

/-- Both door watches are armed and cleared. -/
def Backup.armWatches (b : Backup) : Backup :=
  { b with watch := ⟨b.watch.u.arm, b.watch.l.arm⟩ }

/-- The entry is a request of the Message Link. -/
def WriteRequest.ofLink (w : WriteRequest) : Bool :=
  match w.what with
  | .checkpoint _ _ => false
  | .store | .read _ _ => true

/-- The Journal Controller at HOLD_UP entry (R128, R142): queued link requests are discarded, running
pockets' LOSS requests join, and a load sequence under way is abandoned, its read in flight with the stop
condition of Engine.onLoss. -/
def JournalController.holdUp (j : JournalController) (u l : Bool) (now : Nat) : JournalController :=
  let q0 := j.queue.filter (fun w => !w.ofLink)
  let q1 := if u then enqueue q0 .U .loss now else q0
  let q2 := if l then enqueue q1 .L .loss now else q1
  { j with
    queue := q2
    engine := j.engine.afterLoss
    scan := none }

/-- Entry into HOLD_UP (R104, R22, R128), which may end at once (R105). What it makes the engine do on the
journal bus is State.onLoss of the state it starts from (R142). -/
def State.enterHoldUp (s : State) : State :=
  { s with
    ss := { s.ss with power := .holdUp, armTimer := none, returnMark := false }
    psq := ⟨s.psq.u.holdUp s.ic.u.theta s.bd.stamp, s.psq.l.holdUp s.ic.l.theta s.bd.stamp⟩
    ssa := Arbiter.idle
    jc := s.jc.holdUp s.psq.u.phase.running s.psq.l.phase.running s.time
    ml := if s.jc.queue.any (·.ofLink) then s.ml.endBusRequest (.bare .aborted) else s.ml
    bd := s.bd.armWatches }.finishHoldUp

/-- Entry into RUN: each pending plan is applied, pocket U's first (R102, R152; in that order by the
model's choice, log 14). -/
def State.enterRun (s : State) : State :=
  let s1 := { s with ss := { s.ss with power := .run, armTimer := none } }
  ((s1.applyPlan .U).applyPlan .L).arbitrate

/-- The job writes the configuration block. -/
def Job.ofBlock : Job → Bool
  | .store _ => true
  | .checkpoint _ _ _ _ | .read _ _ | .configRead | .slotRead _ _ => false

/-- The leading bytes that an attempt on the bus got acknowledged are stored (R113); the last byte is not
among them, since its acknowledge is the success of the attempt (R121). A configuration block of which
some bytes were acknowledged is left with a record check that fails (R127, R176; log 34). A slot gets no
such mark: it is judged by its bytes alone, so a cut whose bytes equal the old ones leaves the older record
valid, where R121 says that the check fails (the model's choice, log 43). -/
def State.storeAcked (s : State) (acked : Nat) : State :=
  match s.jc.engine with
  | .busy job _ .transfer =>
    match job.bytesOut with
    | some (a, bs) =>
      { s with
        journal := Memory.writeBytes s.journal a (bs.dropLast.take acked)
        storeCut := s.storeCut || (job.ofBlock && acked != 0) }
    | none => s
  | .busy _ _ (.retryWait _) | .busy _ _ .recovery | .free => s

/-! ### VHU commands (R98) -/

/-- VHU_REACHES_WAKE (R99, R106, R107). -/
def execVhuReachesWake (dt : Nat) (v : Byte) (s : State) : Host.Outcome State Fault Refusal :=
  let s0 := s.advance dt
  let reached := !s0.ss.atWake && s0.wakeThreshold ≤ v.toNat
  let s1 := s0.noteVhu v
  let s2 := { s1 with ss := { s1.ss with atWake := s0.wakeThreshold ≤ v.toNat } }
  .next <|
    match s2.ss.power with
    | .dark =>
      if reached then
        if s2.pins.rst then { s2 with ss := { s2.ss with power := .reset } } else s2.enterWake
      else s2
    | .reset => if reached && !s2.pins.rst then s2.enterWake else s2
    | .holdUp => s2.finishHoldUp
    | .wake _ | .run => s2

/-- VHU_REACHES_ARM (R102): in WAKE/ARM, VHU at or above the arm threshold enters RUN. -/
def execVhuReachesArm (dt : Nat) (v : Byte) (s : State) : Host.Outcome State Fault Refusal :=
  let s1 := (s.advance dt).noteVhu v
  .next <|
    if s1.ss.power = .wake .arm ∧ s1.cfg.armCode ≤ v.toNat then s1.enterRun else s1.finishHoldUp

/-- ARM_TIMER_EXPIRY (R102): RUN all the same, with STORE_WEAK when VHU is below arm, posted before the events
of the plans applied at this expiry (the model's choice, log 14). -/
def execArmTimerExpiry (dt : Nat) (s : State) : Host.Outcome State Fault Refusal :=
  let s1 := s.advance dt
  .next <|
    if s1.ss.power = .wake .arm ∧ due s1.ss.armTimer s1.time then
      if s1.ss.vhu.toNat < s1.cfg.armCode then
        (({ s1 with ss := { s1.ss with storeWeak := true } }).post .storeWeak none
          (half s1.ss.vhu.toNat)).enterRun
      else s1.enterRun
    else s1

/-- VHU falls below the write floor: out of RUN, HOLD_UP (R103). -/
def State.fallBelowFloor (s : State) (v : Byte) : State :=
  let fell := s.ss.atFloor && v.toNat < s.cfg.writeFloor
  let s1 := s.noteVhu v
  let s2 := { s1 with ss := { s1.ss with atFloor := s.cfg.writeFloor ≤ v.toNat } }
  if fell ∧ s2.inRun then s2.enterHoldUp else s2.finishHoldUp

/-- VHU_BELOW_WRITE_FLOOR (R103). -/
def execVhuBelowWriteFloor (dt : Nat) (v : Byte) (s : State) : Host.Outcome State Fault Refusal :=
  .next ((s.advance dt).fallBelowFloor v)

/-- VHU_BELOW_DARK (R99, R105, R107): a transfer in flight is cut after the acknowledged bytes. In RUN
the same sample first falls below the write floor, which lies above dark (log 11). Whatever the power
state, the sample is the one that the next fall is measured from (R98). A read of the load sequence in
flight ends with the stop condition of State.onLoss (R142). -/
def execVhuBelowDark (dt : Nat) (v : Byte) (acked : Nat) (s : State) :
    Host.Outcome State Fault Refusal :=
  let s0 := s.advance dt
  let fell := s0.ss.atDark && v.toNat < s0.cfg.darkCode
  let s1 := s0.noteVhu v
  let s2 := { s1 with ss := { s1.ss with atDark := s0.cfg.darkCode ≤ v.toNat } }
  let s3 := if s2.inRun then s2.fallBelowFloor v else s2
  .next <|
    if fell then
      match s3.ss.power with
      | .wake _ | .holdUp => (s3.storeAcked acked).enterDark
      | .reset => s3.enterDark
      | .run | .dark => s3
    else s3

/-! ### The RST pin (R107) -/

/-- A pocket at RST assertion (R1, R44): outputs inactive, timers stopped, the rest held. -/
def Pocket.halt (k : Pocket) : Pocket :=
  { k with motorRun := false, motorRev := false, timers := PocketTimers.stopped }

/-- RST_ASSERT (R107): outside DARK the part halts in RESET, a write in flight is cut, and the door
watches are armed and cleared. -/
def execRstAssert (dt acked : Nat) (s : State) : Host.Outcome State Fault Refusal :=
  let s0 := s.advance dt
  .next <|
    if s0.pins.rst then s0
    else
      let s1 := { s0 with pins := { s0.pins with rst := true } }
      if s1.ss.power = .dark then s1
      else
        let s2 := if s1.ss.power.working then s1.storeAcked acked else s1
        { s2 with
          ss := { s2.ss with power := .reset }
          psq := ⟨s2.psq.u.halt, s2.psq.l.halt⟩
          bd := s2.bd.armWatches }

/-- RST_RELEASE (R107): from RESET with VHU at or above the wake threshold, into WAKE. -/
def execRstRelease (dt : Nat) (s : State) : Host.Outcome State Fault Refusal :=
  let s0 := s.advance dt
  let s1 := { s0 with pins := { s0.pins with rst := false } }
  .next <|
    if s0.pins.rst ∧ s0.ss.power = .reset ∧ s0.cfg.wakeCode ≤ s0.ss.vhu.toNat then s1.enterWake
    else s1

/-! ### The Backup Domain (6.6) -/

/-- The greatest backup clock value (R108). -/
def clockMax : Nat := 4294967295

/-- BACKUP_CLOCK_SECOND (R108): the clock advances by one, saturating. Without its valid marker the
domain has lost its supply and keeps no time (log 18). -/
def execBackupClockSecond (dt : Nat) (s : State) : Host.Outcome State Fault Refusal :=
  let s1 := s.advance dt
  .next <|
    if s1.bd.valid then { s1 with bd := { s1.bd with clock := min clockMax (s1.bd.clock + 1) } }
    else s1

/-- BACKUP_SUPPLY_FAILURE (R109): with the main supply absent, the marker is cleared and the clock, the
epoch and the door watch are lost. -/
def execBackupSupplyFailure (dt : Nat) (s : State) : Host.Outcome State Fault Refusal :=
  let s1 := s.advance dt
  .next <|
    if s1.ss.power = .dark then
      { s1 with bd :=
          { clock := 0, epoch := 0, valid := false, watch := Pair.both ⟨false, 0, false, none, none⟩ } }
    else s1

/-- The watch takes a new level (R110): settling takes the raw level; a held candidate changes the
level, and an opening is counted while armed. -/
def DoorWatch.expire (w : DoorWatch) (raw : Bool) (now : Nat) : DoorWatch :=
  match w.settling with
  | some t => if t + millis 50 ≤ now then { w with closed := raw, settling := none, cand := none } else w
  | none =>
    match w.cand with
    | none => w
    | some t =>
      if t + millis 50 ≤ now then
        { w with
          closed := !w.closed
          cand := none
          count := if w.closed && w.armed then min 15 (w.count + 1) else w.count }
      else w

/-- DOOR_WATCH_FILTER_EXPIRY (R110). -/
def execDoorWatchFilterExpiry (dt : Nat) (p : PocketId) (s : State) :
    Host.Outcome State Fault Refusal :=
  let s1 := s.advance dt
  .next <|
    if s1.bd.valid then
      { s1 with bd := { s1.bd with
          watch := s1.bd.watch.set p ((s1.bd.watch.get p).expire (s1.pins.contacts.get p).door s1.time) } }
    else s1

end Sys2Proof.Machine
end

