-- ==== Sys2Proof/Machine/Recovery.lean ====
section
/-!
DEFINITION. Machine/Recovery.lean: the load sequence of WAKE/LOAD (08): the configuration read, the slot
reads, the scan records, and the end of the scan with its epoch, door watch and plans.
-/

namespace Sys2Proof.Machine

/-! ### Ring states (R114, R115, R137) -/

/-- The greatest sequence (R114). -/
def sequenceMax : Nat := 4294967295

/-- The ring state once a record of a sequence is the newest, in a slot (R114, R115, R137). -/
def RingState.after (slot : Fin 124) (seq : Nat) : RingState :=
  { newest := some (slot, seq)
    nextSlot := slot + 1
    nextSeq := if seq = sequenceMax then seq else seq + 1
    condition := if seq = sequenceMax then .exhausted else .writable }

/-- The ring state that a scan record builds (R137). -/
def ScanRing.ring (r : ScanRing) : RingState :=
  if r.unreadable then ⟨none, 0, 1, .unreadable⟩
  else
    match r.best with
    | none => ⟨none, 0, 1, .writable⟩
    | some b => RingState.after b.slot b.seq

/-! ### The scan record (R135) -/

/-- A valid record becomes the best slot unless the best slot's sequence is larger (R135). -/
def ScanRing.offer (r : ScanRing) (slot : Fin 124) (seq : Nat) (bytes : List Byte) : ScanRing :=
  match r.best with
  | none => { r with best := some ⟨slot, seq, bytes⟩ }
  | some b => if b.seq ≤ seq then { r with best := some ⟨slot, seq, bytes⟩ } else r

/-- The scan record after a slot's bytes were received (R135). -/
def Scan.take (sc : Scan) (p : PocketId) (slot : Fin 124) (bytes : List Byte) : Scan :=
  match readRecord p bytes with
  | .error _ => sc
  | .ok r =>
    { rings := sc.rings.set p ((sc.rings.get p).offer slot r.seq bytes)
      epochs := if sc.epochs.contains r.epoch then sc.epochs else r.epoch :: sc.epochs }

/-- The recovered record of a pocket (R138). -/
def ScanRing.record (r : ScanRing) (p : PocketId) : Option CheckpointRecord :=
  match r.best with
  | none => none
  | some b =>
    match readRecord p b.bytes with
    | .ok c => some c
    | .error _ => none

/-! ### The epoch (R139) -/

/-- The least value from a start upward that is not in a list, within a bound on the search. -/
def leastAbsent (xs : List Nat) : Nat → Nat → Nat
  | 0, n => n
  | fuel + 1, n => if xs.contains n then leastAbsent xs fuel (n + 1) else n

/-- The chosen epoch, from the epochs of the valid records read (R139). -/
def chooseEpoch (epochs : List Nat) : Nat :=
  match epochs with
  | [] => 1
  | e :: es =>
    let largest := es.foldl max e
    if largest < 65535 then largest + 1
    else if epochs.contains 1 then leastAbsent epochs epochs.length 2
    else 1

/-- A recovered record for which a chosen epoch raises BACKUP_LOST (R139). -/
def Recovered.active : Recovered → Bool
  | .record _ phase _ => phase != .idle && phase != .done
  | .none | .unreadable => false

/-! ### The end of the scan (R140) -/

/-- Step 2 for one pocket: the run record is filled and the pair frozen (R138). -/
def Pocket.fill (k : Pocket) (r : ScanRing) (p : PocketId) : Pocket :=
  if r.unreadable then { k with recovered := .unreadable }
  else
    match r.record p with
    | none => { k with recovered := .none }
    | some c => { k with run := c.run, frozen := true, recovered := .record c.kind c.phase c.faults }

/-- Step 3: the epoch is chosen if it was 0 (R139). -/
def State.settleEpoch (s : State) (epochs : List Nat) : State :=
  if s.bd.epoch = 0 then
    let e := chooseEpoch epochs
    let s1 := { s with bd := { s.bd with epoch := e } }
    if s1.psq.u.recovered.active || s1.psq.l.recovered.active then
      { s1 with ss := { s1.ss with backupLost := true } }.post .backupLost none (half e)
    else s1
  else s

/-- Step 4: the door watch is disarmed; it keeps its count (R110). -/
def DoorWatch.disarm (w : DoorWatch) : DoorWatch := { w with armed := false }

/-- Step 5 for one pocket: its plan (R143). -/
def State.planAtScan (s : State) (p : PocketId) : State :=
  let k := s.pocket p
  s.holdPlan p (scanPlan s.cfg s.bd (s.sense p) k.run k.recovered (s.bd.watch.get p).count)

/-- Step 6: ARM is entered, and left at once for RUN with VHU at or above the arm threshold (R102). -/
def State.enterArm (s : State) : State :=
  let s1 := { s with ss := { s.ss with power := .wake .arm, armTimer := some (s.time + seconds 60) } }
  if s1.cfg.armCode ≤ s1.ss.vhu.toNat then s1.enterRun else s1

/-- The end-of-scan work, in its order (R140). -/
def State.scanEnd (s : State) (sc : Scan) : State :=
  let s2 :=
    { s with
      jc := { s.jc with
        rings := ⟨sc.rings.u.ring, sc.rings.l.ring⟩, engine := .free, scan := none }
      psq := ⟨s.psq.u.fill sc.rings.u .U, s.psq.l.fill sc.rings.l .L⟩ }
  let s3 := s2.settleEpoch sc.epochs
  let s4 := { s3 with bd := { s3.bd with
    watch := ⟨s3.bd.watch.u.disarm, s3.bd.watch.l.disarm⟩ } }
  ((s4.planAtScan .U).planAtScan .L).enterArm

/-! ### The load sequence (R133) -/

/-- A slot read starts with the first of its attempts. -/
def State.readSlot (s : State) (p : PocketId) (slot : Fin 124) (sc : Scan) : State :=
  { s with jc := { s.jc with engine := .busy (.slotRead p slot) 1 .transfer, scan := some sc } }

/-- The reads of a ring have ended: ring L follows ring U, and the scan ends after ring L. -/
def State.ringEnd (s : State) (p : PocketId) (sc : Scan) : State :=
  match p with
  | .U => s.readSlot .L 0 sc
  | .L => s.scanEnd sc

/-- The transfer after a slot read. -/
def State.slotDone (s : State) (p : PocketId) (slot : Fin 124) (sc : Scan) : State :=
  if slot = 123 then s.ringEnd p sc else s.readSlot p (slot + 1) sc

/-- The cycle-bound copies of a pocket are filled (R6). -/
def Pocket.withCopies (k : Pocket) (c : Copies) : Pocket := { k with run := { k.run with copies := c } }

/-- The working copy is replaced, the cleared run records take their copies, VHU is compared with the
loaded thresholds (R98), and the slot reads of ring U begin (R134). A settling time that the load makes
due is taken by its own command (log 35). -/
def State.configLoaded (s : State) (c : WorkingCopy) (defaulted : Bool) (sc : Scan) : State :=
  { s with
    cfg := c
    ss := { s.ss with configDefaulted := s.ss.configDefaulted || defaulted }
    psq := ⟨s.psq.u.withCopies (c.copies .U), s.psq.l.withCopies (c.copies .L)⟩ }.recompare.readSlot .U 0 sc

/-- The configuration read fails its third attempt (R134), in the order of its list: the defaults stand
when JOURNAL_FAULT is posted, so their event class mask decides (log 40). -/
def State.configReadFailed (s : State) (cause : JournalCause) (sc : Scan) : State :=
  (s.configLoaded Config.defaults true sc).setJournalFault cause .configBlock true

/-- A slot read fails its third attempt: its ring is UNREADABLE (R136). JOURNAL_FAULT is posted before the
events of a scan that ends with it (log 40). -/
def State.slotReadFailed (s : State) (p : PocketId) (cause : JournalCause) (sc : Scan) : State :=
  (s.setJournalFault cause (.ring p) true).ringEnd p
    { sc with rings := sc.rings.set p ⟨true, none⟩ }

/-- CONFIGURATION_READ_COMPLETE (R134, R175, R176). -/
def execConfigurationReadComplete (dt : Nat) (s : State) : Host.Outcome State Fault Refusal :=
  let s0 := s.advance dt
  .next <|
    match s0.ss.power, s0.jc.engine, s0.jc.scan with
    | .wake .load, .busy .configRead _ .transfer, some sc =>
      let loaded := loadStored s0.storeCut (Memory.readBytes s0.journal 0 512)
      s0.configLoaded loaded.1 loaded.2 sc
    | _, _, _ => s0

/-- SLOT_READ_COMPLETE (R135, R140). -/
def execSlotReadComplete (dt : Nat) (s : State) : Host.Outcome State Fault Refusal :=
  let s0 := s.advance dt
  .next <|
    match s0.ss.power, s0.jc.engine, s0.jc.scan with
    | .wake .load, .busy (.slotRead p slot) _ .transfer, some sc =>
      s0.slotDone p slot (sc.take p slot (Memory.readBytes s0.journal (slotAddress p slot) 64))
    | _, _, _ => s0

end Sys2Proof.Machine
end

