-- ==== Sys2Proof/Machine/Journal.lean ====
section
/-!
DEFINITION. Machine/Journal.lean: the Journal Controller at work (07): the choice of a request, the
snapshot, the start and the completion of each transfer, and the failures of the bus engine.
-/

namespace Sys2Proof.Machine

/-! ### The choice (R119) -/

/-- A request is started before another: higher priority, then older age, then pocket U's. -/
def WriteRequest.before (a b : WriteRequest) : Bool :=
  if a.what.priority ≠ b.what.priority then a.what.priority < b.what.priority
  else if a.age ≠ b.age then a.age < b.age
  else a.ofPocket .U

/-- The request chosen from the write queue. -/
def chooseRequest (queue : List WriteRequest) : Option WriteRequest :=
  match queue with
  | [] => none
  | w :: ws => some (ws.foldl (fun best x => if x.before best then x else best) w)

/-- The controller may start a request: the bus is free, in RUN or in HOLD_UP (R119). -/
def State.mayStart (s : State) : Bool :=
  s.jc.engine == .free && (s.ss.power == .run || s.ss.power == .holdUp)

/-- The chosen request leaves the queue. -/
def State.dequeue (s : State) (w : WriteRequest) : State :=
  { s with jc := { s.jc with queue := s.jc.queue.erase w } }

/-- The engine starts a job with its first attempt (R123). -/
def State.startJob (s : State) (job : Job) : State :=
  { s with jc := { s.jc with engine := .busy job 1 .transfer } }

/-! ### The snapshot (R120) -/

/-- The record of a pocket as it stands, for a kind. -/
def State.record (s : State) (p : PocketId) (kind : RecordKind) : CheckpointRecord :=
  let k := s.pocket p
  { pocket := p, seq := (s.jc.rings.get p).nextSeq, kind := kind
    phase := k.phase.recorded k.run.target
    run := k.run, faults := k.faults, clock := s.bd.clock, epoch := s.bd.epoch
    trefForeign := k.run.tref.epoch != s.bd.epoch
    acForeign := k.run.acStart.epoch != s.bd.epoch }

/-- The pair is taken before the copy, in a running phase with the pair not frozen (R120, step 1). -/
def State.beforeSnapshot (s : State) (p : PocketId) : State :=
  if (s.pocket p).phase.running && !(s.pocket p).frozen then s.takeReference p else s

/-- A pocket's write starts: the snapshot, its image, and the slot and sequence of R115. -/
def State.startWrite (s : State) (p : PocketId) (kind : RecordKind) : State :=
  let s1 := s.beforeSnapshot p
  let ring := s1.jc.rings.get p
  s1.startJob (.checkpoint p ring.nextSlot ring.nextSeq (s1.record p kind).encode)

/-- A request is refused: JOURNAL_FAULT is set, and posted if it was clear (R122). -/
def State.refuse (s : State) (p : PocketId) (cause : JournalCause) : State :=
  s.setJournalFault cause (.ring p) s.ss.journalFault.isNone

/-- The controller chooses until a pocket's write starts, or no pocket's request is the chosen one. The
bound is the number of queued requests. -/
def State.startChosen (s : State) : Nat → State
  | 0 => s
  | n + 1 =>
    match chooseRequest s.jc.queue with
    | none => s
    | some w =>
      match w.what with
      | .store | .read _ _ => s
      | .checkpoint p kind =>
        match (s.jc.rings.get p).condition with
        | .exhausted => ((s.dequeue w).refuse p .exhausted).startChosen n
        | .unreadable => ((s.dequeue w).refuse p .unreadable).startChosen n
        | .writable | .notBuilt => (s.dequeue w).startWrite p kind

/-- A start in HOLD_UP finds VHU below the write floor (R105). -/
def State.floorFails (s : State) : Bool :=
  s.ss.power == .holdUp && decide (s.ss.vhu.toNat < s.cfg.writeFloor)

/-- CHECKPOINT_WRITE_START (R105, R119, R120, R122). -/
def execCheckpointWriteStart (dt : Nat) (s : State) : Host.Outcome State Fault Refusal :=
  let s0 := s.advance dt
  .next <|
    if s0.mayStart && !s0.jc.queue.isEmpty then
      if s0.floorFails then { s0 with jc := { s0.jc with queue := [] } }.finishHoldUp
      else (s0.startChosen s0.jc.queue.length).finishHoldUp
    else s0

/-- CONFIG_STORE_START (R130): the block is composed from the working copy as it stands. -/
def execConfigStoreStart (dt : Nat) (s : State) : Host.Outcome State Fault Refusal :=
  let s0 := s.advance dt
  .next <|
    match s0.mayStart, chooseRequest s0.jc.queue with
    | true, some w =>
      match w.what with
      | .store => (s0.dequeue w).startJob (.store (composeBlock s0.cfg))
      | .checkpoint _ _ | .read _ _ => s0
    | _, _ => s0

/-- JOURNAL_READ_START (R132). -/
def execJournalReadStart (dt : Nat) (s : State) : Host.Outcome State Fault Refusal :=
  let s0 := s.advance dt
  .next <|
    match s0.mayStart, chooseRequest s0.jc.queue with
    | true, some w =>
      match w.what with
      | .read p slot => (s0.dequeue w).startJob (.read p slot)
      | .checkpoint _ _ | .store => s0
    | _, _ => s0

/-! ### Completions (R121, R130, R132) -/

/-- The engine is free again. -/
def State.freeEngine (s : State) : State := { s with jc := { s.jc with engine := .free } }

/-- A pocket's write completes: the bytes stand in the memory and the ring state advances (R115). -/
def State.writeDone (s : State) (p : PocketId) (slot : Fin 124) (seq : Nat) (image : List Byte) :
    State :=
  { s with
    journal := Memory.writeBytes s.journal (slotAddress p slot) image
    jc := { s.jc with
      engine := .free
      rings := s.jc.rings.set p (RingState.after slot seq) } }

/-- CHECKPOINT_WRITE_COMPLETE (R115, R121). -/
def execCheckpointWriteComplete (dt : Nat) (s : State) : Host.Outcome State Fault Refusal :=
  let s0 := s.advance dt
  .next <|
    match s0.ss.power.working, s0.jc.engine with
    | true, .busy (.checkpoint p slot seq image) _ .transfer =>
      (s0.writeDone p slot seq image).finishHoldUp
    | _, _ => s0

/-- CONFIG_STORE_COMPLETE (R130): the block that stands is the whole block that was sent (R176). -/
def execConfigStoreComplete (dt : Nat) (s : State) : Host.Outcome State Fault Refusal :=
  let s0 := s.advance dt
  .next <|
    match s0.ss.power.working, s0.jc.engine with
    | true, .busy (.store block) _ .transfer =>
      { s0.freeEngine with
        journal := Memory.writeBytes s0.journal 0 block
        storeCut := false
        ml := s0.ml.endBusRequest .ok }.finishHoldUp
    | _, _ => s0

/-- The data of a JOURNAL_READ reply (R179). Bits 3 to 6 of the validity byte are 0 (log 39). -/
def slotReport (p : PocketId) (slot : Fin 124) (newest : Bool) (bytes : List Byte) : List Byte :=
  [byteNat slot.val ||| bitIf (p == .L) 7,
   byteNat (validityCode (slotDefect p bytes)) ||| bitIf newest 7]
    ++ bytes.take 54 ++ (bytes.drop 62).take 2
    ++ [byteNat (((bytes.drop 54).take 8).countP (· != 0#8))]

/-- JOURNAL_READ_COMPLETE (R132). -/
def execJournalReadComplete (dt : Nat) (s : State) : Host.Outcome State Fault Refusal :=
  let s0 := s.advance dt
  .next <|
    match s0.ss.power.working, s0.jc.engine with
    | true, .busy (.read p slot) _ .transfer =>
      let newest := match (s0.jc.rings.get p).newest with
        | none => false
        | some (n, _) => n == slot
      let bytes := Memory.readBytes s0.journal (slotAddress p slot) 64
      { s0.freeEngine with
        ml := s0.ml.endBusRequest ⟨.ok, slotReport p slot newest bytes⟩ }.finishHoldUp
    | _, _ => s0

/-! ### Failures of the engine (R123 to R125) -/

/-- The pocket of the ring that a job writes (R123). -/
def Job.writes : Job → Option PocketId
  | .checkpoint p _ _ _ => some p
  | .store _ | .read _ _ | .configRead | .slotRead _ _ => none

/-- The third attempt of a job has failed (R125; in WAKE/LOAD R134, R136). -/
def State.spent (s : State) (job : Job) (cause : JournalCause) : State :=
  match job with
  | .checkpoint p _ _ _ => (s.freeEngine.setJournalFault cause (.ring p) true).finishHoldUp
  | .store _ =>
    ({ s.freeEngine with ml := s.ml.endBusRequest (.bare .storeFailed) }.setJournalFault cause
      .configBlock true).finishHoldUp
  | .read _ _ =>
    ({ s.freeEngine with ml := s.ml.endBusRequest (.bare .storeFailed) }.setJournalFault cause
      .serviceRead true).finishHoldUp
  | .configRead =>
    match s.ss.power, s.jc.scan with
    | .wake .load, some sc => s.configReadFailed cause sc
    | _, _ => s.freeEngine
  | .slotRead p _ =>
    match s.ss.power, s.jc.scan with
    | .wake .load, some sc => s.slotReadFailed p cause sc
    | _, _ => s.freeEngine

/-- The next attempt of a job is counted and JOURNAL_RETRY posted (R123). -/
def State.retry (s : State) (job : Job) (attempt : Nat) (cause : JournalCause) (ph : EnginePhase) :
    State :=
  { s with jc := { s.jc with engine := .busy job (attempt + 1) ph } }.post .journalRetry job.writes
    (pairArg (byteNat (attempt + 1)) cause.code)

/-- ATTEMPT_NO_ACK (R123): the transfer is abandoned at the byte that was not acknowledged, with the stop
condition of State.onNoAck. -/
def execAttemptNoAck (dt acked : Nat) (s : State) : Host.Outcome State Fault Refusal :=
  let s0 := s.advance dt
  .next <|
    match s0.ss.power.working, s0.jc.engine with
    | true, .busy job attempt .transfer =>
      let s1 := s0.storeAcked acked
      if attempt < 3 then s1.retry job attempt .noAck (.retryWait (s1.time + millis 1))
      else s1.spent job .noAck
    | _, _ => s0

/-- RETRY_WAIT_EXPIRY (R123). -/
def execRetryWaitExpiry (dt : Nat) (s : State) : Host.Outcome State Fault Refusal :=
  let s0 := s.advance dt
  .next <|
    match s0.ss.power.working, s0.jc.engine with
    | true, .busy job attempt (.retryWait t) =>
      if t ≤ s0.time then { s0 with jc := { s0.jc with engine := .busy job attempt .transfer } }
      else s0
    | _, _ => s0

/-- BUS_TIMEOUT (R124). -/
def execBusTimeout (dt acked : Nat) (s : State) : Host.Outcome State Fault Refusal :=
  let s0 := s.advance dt
  .next <|
    match s0.ss.power.working, s0.jc.engine with
    | true, .busy job attempt .transfer =>
      let s1 := s0.storeAcked acked
      { s1 with jc := { s1.jc with engine := .busy job attempt .recovery } }
    | _, _ => s0

/-- RECOVERY_END (R124). -/
def execRecoveryEnd (dt : Nat) (s : State) : Host.Outcome State Fault Refusal :=
  let s0 := s.advance dt
  .next <|
    match s0.ss.power.working, s0.jc.engine with
    | true, .busy job attempt .recovery =>
      if attempt < 3 then s0.retry job attempt .timeout .transfer else s0.spent job .timeout
    | _, _ => s0

end Sys2Proof.Machine
end

