-- ==== Sys2Proof/Machine/Line.lean ====
section
/-!
DEFINITION. Machine/Line.lean: the Line Monitor (05): crossings and the silence timer, the counts, the
line states, their events, and what a change of line state does elsewhere.
-/

namespace Sys2Proof.Machine

/-! ### Classes and counts (R86, R87) -/

/-- The class of a half-cycle that a crossing ends, by its interval in microseconds and its peak (R86). -/
def classOf (c : WorkingCopy) (interval : Nat) (peak : Byte) : HalfCycle :=
  if 11500 < interval then .missing
  else if c.lowThreshold ≤ peak.toNat then .good
  else .low

/-- The counts after a classified half-cycle (R87). -/
def LineMonitor.count (m : LineMonitor) (cls : HalfCycle) (interval : Nat) : LineMonitor :=
  match cls with
  | .good =>
    { m with
      goodRun := min 400 (m.goodRun + 1), lowCount := 0, missingCount := 0
      intervalSum := if m.line = .qualifying then m.intervalSum + interval else m.intervalSum }
  | .low =>
    { m with goodRun := 0, lowCount := min 255 (m.lowCount + 1), missingCount := 0, intervalSum := 0 }
  | .missing =>
    { m with goodRun := 0, lowCount := 0, missingCount := min 255 (m.missingCount + 1)
             intervalSum := 0 }

/-! ### Line states (R88 to R92) -/

/-- The line state a classified half-cycle leads to, with the counts as updated. -/
def LineMonitor.next (m : LineMonitor) (c : WorkingCopy) (cls : HalfCycle) : LineState :=
  match m.line, cls with
  | .qualifying, .good => if c.q ≤ m.goodRun then .normal else .qualifying
  | .qualifying, .low | .qualifying, .missing => .qualifying
  | .normal, .good => .normal
  | .normal, .low => if c.nLow ≤ m.lowCount then .lowLine else .normal
  | .normal, .missing => .rideThrough
  | .rideThrough, .good => .normal
  | .rideThrough, .low => if c.nLow ≤ m.lowCount then .lowLine else .normal
  | .rideThrough, .missing => if c.nRt < m.missingCount then .lost else .rideThrough
  | .lowLine, .good => if c.nRec ≤ m.goodRun then .normal else .lowLine
  | .lowLine, .low => .lowLine
  | .lowLine, .missing => if c.nRt < m.missingCount then .lost else .lowLine
  | .lost, _ => .lost

/-- The frequency found at qualification: 60 Hz below Q × 9.2 ms (R88). -/
def LineMonitor.found (m : LineMonitor) (c : WorkingCopy) : Frequency :=
  if m.intervalSum < c.q * 9200 then .hz60 else .hz50

/-- The Line Monitor after a classified half-cycle (R87 to R92). -/
def LineMonitor.classify (m : LineMonitor) (c : WorkingCopy) (cls : HalfCycle) (interval : Nat) :
    LineMonitor :=
  let m1 := m.count cls interval
  let new := m1.next c cls
  { m1 with
    line := new
    freq := if m.line = .qualifying ∧ new = .normal then m1.found c else m1.freq }

/-! ### Events (R95) -/

/-- Post the event of an entry into a line state; peak is the peak of the half-cycle just ended. -/
def State.postLine (s : State) (old : LineState) (peak : Byte) : State :=
  match s.lm.line with
  | .qualifying => s
  | .normal => s.post .lineNormal none (pairArg old.code s.lm.freq.code)
  | .rideThrough => s.post .lineRide none (half s.lm.missingCount)
  | .lowLine => s.post .lineLow none (half peak.toNat)
  | .lost => s.post .lineLost none (half old.code.toNat)

/-! ### What a change does elsewhere (R94) -/

/-- LOAD begins: a fresh scan record, and the configuration read on the bus (R101, R133). -/
def State.beginLoad (s : State) : State :=
  { s with
    ss := { s.ss with power := .wake .load }
    jc := { s.jc with
      engine := .busy .configRead 1 .transfer
      scan := some ⟨Pair.both ⟨false, none⟩, []⟩ } }

/-- A pocket acts on the line becoming NORMAL (R10, R79). -/
def State.lineSound (s : State) (p : PocketId) : State := (s.checkStartWait p).checkHeatWait p

/-- A pocket acts on the line becoming LOW_LINE (R64, R76). -/
def State.lineLow (s : State) (p : PocketId) : State :=
  if (s.pocket p).phase = .ignition ∨ (s.pocket p).phase = .heat then s.enterHeatWait p else s

/-- The Supply Supervisor and both pockets act on a change of line state (R94). -/
def State.lineChanged (s : State) : State :=
  match s.lm.line, s.ss.power with
  | .normal, .wake .qualify => s.beginLoad
  | .normal, .run => (s.lineSound .U).lineSound .L
  | .lowLine, .run => (s.lineLow .U).lineLow .L
  | .lost, .run | .lost, .wake .load | .lost, .wake .arm => s.enterHoldUp
  | _, _ => s

/-- In HOLD_UP a GOOD half-cycle sets the return mark and a MISSING one clears it (R106). -/
def State.returnMarkBy (s : State) (cls : HalfCycle) : State :=
  if s.ss.power = .holdUp then
    match cls with
    | .good => { s with ss := { s.ss with returnMark := true } }.finishHoldUp
    | .missing => { s with ss := { s.ss with returnMark := false } }.finishHoldUp
    | .low => s
  else s

/-- One classified half-cycle, whole: counts, line state, event, and the actions of the readers. -/
def State.halfCycle (s : State) (cls : HalfCycle) (interval : Nat) (peak : Byte) : State :=
  let old := s.lm.line
  let s1 := { s with lm := s.lm.classify s.cfg cls interval }
  let s2 := if s1.lm.line = old then s1 else ((s1.postLine old peak).lineChanged).arbitrate
  s2.returnMarkBy cls

/-! ### The commands -/

/-- The silence timer and the peak measure start afresh at an accepted crossing (R84, R85). -/
def LineMonitor.accept (m : LineMonitor) (now : Nat) : LineMonitor :=
  { m with lastCrossing := some now, silence := now + 14000, missed := false, peak := 0#8 }

/-- ZERO_CROSSING (R84, R86): noise within 7.0 ms of the last accepted crossing, otherwise accepted. A
resuming crossing classifies nothing. -/
def execZeroCrossing (dt : Nat) (vline : Byte) (s : State) : Host.Outcome State Fault Refusal :=
  let s0 := s.advance dt
  .next <|
    if s0.ss.power.working then
      let peak := if s0.lm.peak.toNat < vline.toNat then vline else s0.lm.peak
      match s0.lm.lastCrossing with
      | none => { s0 with lm := s0.lm.accept s0.time }
      | some last =>
        if s0.time - last < 7000 then { s0 with lm := { s0.lm with peak := peak } }
        else
          let s1 := { s0 with lm := s0.lm.accept s0.time }
          if s0.lm.missed then s1
          else s1.halfCycle (classOf s0.cfg (s0.time - last) peak) (s0.time - last) peak
    else s0

/-- SILENCE_TIMER_EXPIRY (R85): one MISSING half-cycle, and the timer again with 10 ms (log 6). -/
def execSilenceTimerExpiry (dt : Nat) (s : State) : Host.Outcome State Fault Refusal :=
  let s0 := s.advance dt
  .next <|
    if s0.ss.power.working && s0.lm.silence ≤ s0.time then
      let s1 := { s0 with lm := { s0.lm with silence := s0.lm.silence + 10000, missed := true } }
      s1.halfCycle .missing 0 s1.lm.peak
    else s0

end Sys2Proof.Machine
end

