-- ==== Sys2Proof/Machine/Reports.lean ====
section
/-!
DEFINITION. Machine/Reports.lean: the data of the replies that report state (12.2, 12.4).
-/

namespace Sys2Proof.Machine

/-- The data of a STATUS reply (R169, 12.4): 12 bytes. The lost flag is 1 when set and 0 when clear (the
model's choice, log 42). -/
def State.statusData (s : State) : List Byte :=
  let (cause, place) := match s.ss.journalFault with
    | none => (0#8, 0xFF#8)
    | some (c, p) => (c.code, p.code)
  [1#8, s.ss.power.code, s.ss.power.stageCode, s.lm.line.code, s.lm.freq.code, s.ss.faultByte,
   cause, place, s.psq.u.phase.code, s.psq.l.phase.code, byteNat s.ml.events.length,
   boolByte s.ml.lost]

/-- The newest slot and sequence of a ring, 0xFF and 0 for none (12.4). -/
def RingState.data (r : RingState) : List Byte :=
  match r.newest with
  | none => [r.condition.code, 0xFF#8] ++ le32Nat 0
  | some (slot, seq) => [r.condition.code, byteNat slot.val] ++ le32Nat seq

/-- Offsets 3 to 24 of a POCKET reply. The flag bits that 12.4 gives no meaning are 0 (log 39). -/
def RunRecord.head (r : RunRecord) (epoch : Nat) : List Byte :=
  [r.target.code, r.coolExit.code, r.cause.code,
   bitIf r.stage.reduced? 0 ||| bitIf r.autoResume 1 ||| bitIf r.reverse 2
     ||| bitIf (r.tref.epoch == epoch) 3 ||| bitIf (r.acStart.epoch == epoch) 4]
    ++ le16Nat r.d ++ le16Nat r.t ++ le16Nat r.h ++ le16Nat r.c ++ le16Nat r.coolTarget
    ++ le16Int r.thetaX ++ le16Int r.thetaRef ++ le32Nat r.tref.clock

/-- Offsets 31 to 47 of a POCKET reply. -/
def RunRecord.tail (r : RunRecord) : List Byte :=
  le16Nat r.window ++ le32Nat r.acStart.clock ++ [byteNat r.burst] ++ le16Nat r.rest
    ++ [byteNat r.tries, byteNat r.trips, r.copies.heatKind.code, byteNat r.copies.purge,
        byteNat r.copies.trial, byteNat r.copies.tries]
    ++ le16Nat r.copies.cmax

/-- The inputs of a POCKET reply (12.4, offset 50). Bits 6 and 7 are 0 (log 39). -/
def Sensing.inputByte (k : Sensing) : Byte :=
  bitIf k.door.level 0 ||| bitIf k.airflow.level 1 ||| bitIf k.hilimit.level 2
    ||| bitIf k.heatFb.level 3 ||| bitIf k.turning 4 ||| bitIf k.theta.isSome 5

/-- The outputs of a POCKET reply (12.4, offset 49). Bits 3 to 7 are 0 (log 39). -/
def State.outputByte (s : State) (p : PocketId) : Byte :=
  bitIf (s.heatPermit p) 0 ||| bitIf (s.pocket p).motorRun 1 ||| bitIf (s.pocket p).motorRev 2

/-- The θ bytes of a POCKET reply: a free value while θ is not yet valid (log 30). -/
def State.thetaData (s : State) (p : PocketId) : List Byte :=
  match (s.sense p).theta with
  | some t => le16Int t
  | none => le16 (Config.thetaNotValid s.free)

/-- The data of a POCKET reply (R170, 12.4): 55 bytes. -/
def State.pocketData (s : State) (p : PocketId) : List Byte :=
  let k := s.pocket p
  [pocketByte p, k.phase.code] ++ k.run.head s.bd.epoch ++ (s.jc.rings.get p).data ++ k.run.tail
    ++ [k.faults.byte, s.outputByte p, (s.sense p).inputByte] ++ le16 (s.sense p).revs
    ++ s.thetaData p ++ [s.ssa.slotCode p]

/-- The free value is used once by a POCKET reply that carries it. -/
def State.useTheta (s : State) (p : PocketId) : State :=
  match (s.sense p).theta with
  | some _ => s
  | none => { s with free := s.free + 1 }

/-- The data of a PLAN reply (12.4, R179): 30 bytes, or pocket and state for the state NONE. -/
def planData (p : PocketId) (plan : Option PlanRecord) : List Byte :=
  match plan with
  | none => [pocketByte p, 0#8]
  | some pl =>
    let g := pl.figures
    [pocketByte p, if pl.applied then 2#8 else 1#8, pl.kind.code, pl.dest.code, pl.destTarget.code,
     pl.reasons.byte, boolByte g.e.isSome]
      ++ le32Nat (g.e.getD 0) ++ le16Nat g.f ++ le16Int g.thetaN ++ le16Nat g.delta ++ le16Nat g.r
      ++ le16Nat g.dPrime ++ le16Nat g.remaining ++ le16Nat g.seconds ++ le16Nat pl.cPrime
      ++ le16Nat pl.window ++ [byteNat pl.doorCount]

/-- An event entry as an EVENTS reply carries it (12.2): 6 bytes. -/
def EventEntry.data (e : EventEntry) : List Byte :=
  [e.kind.code, eventPocketByte e.pocket] ++ le16 e.time ++ le16 e.arg

/-- The number of entries an EVENTS reply reports (R168). -/
def Link.reported (l : Link) : Nat := min 8 l.events.length

/-- The data of an EVENTS reply (R168). The lost flag is 1 when set and 0 when clear (the model's choice,
log 42). -/
def Link.eventsData (l : Link) : List Byte :=
  [byteNat l.reported] ++ (l.events.take l.reported).flatMap EventEntry.data ++ [boolByte l.lost]

end Sys2Proof.Machine
end

