-- ==== Sys2Proof/Machine/Requests.lean ====
section
/-!
DEFINITION. Machine/Requests.lean: the requests of the catalogue (10.6): the tests of R7 and R165 and
what each request does, as functions that answer the state it leaves and the reply that is composed at
once, or none where the reply is owed by the Journal Controller (R162).
-/

namespace Sys2Proof.Machine

/-- The state a request leaves, and its reply where it is composed at once. -/
abbrev Served := State × Option Reply

/-- A request that changes nothing is answered with a status alone. -/
def State.answer (s : State) (st : Status) : Served := (s, some (.bare st))

/-- A request that is carried out: the start slot is given where it can be, then the reply (log 20). -/
def State.carriedOut (s : State) (r : Reply) : Served := (s.arbitrate, some r)

/-- Tests 1 to 3 of R7: pocket index, power state, and the request's phase test with its status. -/
def State.pocketRequest (s : State) (b : Byte) (passes : PocketId → Bool) (fail : Status)
    (act : PocketId → Served) : Served :=
  match pocketOfByte b with
  | none => s.answer .badArg
  | some p => if !s.inRun then s.answer .notReady else if passes p then act p else s.answer fail

/-! ### Starting a cycle (R8, R9) -/

/-- The enumerated arguments of START_CYCLE (R7, test 4). -/
structure CycleChoices where
  stage : HeatStage
  reverse : Bool
  autoResume : Bool
  deriving DecidableEq, Repr

/-- The enumerated arguments, or none where one is undefined. -/
def cycleChoices (stage reverse autoResume : Byte) : Option CycleChoices :=
  match stageArg stage, boolArg reverse, boolArg autoResume with
  | some st, some rev, some auto => some ⟨st, rev, auto⟩
  | _, _, _ => none

/-- The run record of a new cycle (R9, steps 1 to 5). -/
def RunRecord.start (epoch : Nat) (copies : Copies) (a : CycleArgs) (ch : CycleChoices) : RunRecord :=
  { RunRecord.cleared epoch copies with
    target := .heat
    coolExit := if 0 < a.w then .antiCrease else .done
    t := a.t, stage := ch.stage, coolTarget := a.c, thetaX := a.thetaX, window := a.w, burst := a.b
    rest := a.rt, reverse := ch.reverse, autoResume := ch.autoResume }

/-- An accepted START_CYCLE (R9, R44). -/
def State.startCycle (s : State) (p : PocketId) (a : CycleArgs) (ch : CycleChoices) : State :=
  let s1 := s.setPocket p { s.pocket p with
    run := RunRecord.start s.bd.epoch (s.cfg.copies p) a ch, lastBurstReverse := false }
  ((s1.changePhase p .startWait).postRequest p .start).checkStartWait p

/-- The data of a START_CYCLE reply (12.2): the values taken and UNPROTECTED (R8). -/
def cycleData (p : PocketId) (a : CycleArgs) (ch : CycleChoices) (exposed : Bool) : List Byte :=
  [pocketByte p] ++ le16Nat a.t ++ [boolByte ch.stage.reduced?] ++ le16Nat a.c ++ le16Int a.thetaX
    ++ le16Nat a.w ++ [byteNat a.b] ++ le16Nat a.rt
    ++ [boolByte ch.reverse, boolByte ch.autoResume, boolByte exposed]

/-- START_CYCLE (R7 to R9). -/
def State.serveStartCycle (s : State) (pocket : Byte) (a : CycleArgs) (ch : Option CycleChoices) :
    Served :=
  s.pocketRequest pocket
    (fun p => (s.pocket p).phase == .idle || (s.pocket p).phase == .done) .busy fun p =>
      match ch with
      | none => s.answer .badArg
      | some ch =>
        (s.startCycle p a.clamp ch).carriedOut
          (.done (a.clamp != a) (cycleData p a.clamp ch s.ss.journalFault.isSome))

/-! ### EXTEND (R25, R155) -/

/-- The phase test of EXTEND (R25). -/
def Pocket.extendable (k : Pocket) : Bool :=
  match k.phase with
  | .startWait | .spinup | .purge | .ignition | .heat | .heatWait | .held => true
  | .paused => k.run.target == .heat
  | .cool => k.run.cause == .target || k.run.cause == .appEnd
  | .idle | .acRest | .acBurst | .done | .faultHold | .recovering => false

/-- T rose in COOL: the pocket returns to heat (R25). -/
def State.reheat (s : State) (p : PocketId) : State :=
  (s.setRun p { (s.pocket p).run with target := .heat, cause := .none }).towardHeat p

/-- In HELD the applied plan's remaining credit and estimated seconds follow T (R155). -/
def State.extendPlan (s : State) (p : PocketId) (t : Nat) : State :=
  { s with rp := s.rp.set p ((s.rp.get p).map fun pl => pl.extend t) }

/-- An accepted EXTEND that takes T to a value (R25, R155). -/
def State.extendTo (s : State) (p : PocketId) (t : Nat) : State :=
  let k := s.pocket p
  let s1 := s.setRun p { k.run with t := t }
  match k.phase with
  | .cool => if k.run.t < t then s1.reheat p else s1
  | .held => s1.extendPlan p t
  | _ => s1

/-- EXTEND. -/
def State.serveExtend (s : State) (pocket : Byte) (amount : Half) : Served :=
  s.pocketRequest pocket (fun p => (s.pocket p).extendable) .wrongPhase fun p =>
    let taken := clampNat 1 57600 amount.toNat
    let t := min 57600 ((s.pocket p).run.t + taken)
    (s.extendTo p t).carriedOut
      (.done (taken != amount.toNat || t != (s.pocket p).run.t + taken) (le16Nat t))

/-! ### SET_STAGE, END_HEAT, STOP, CLEAR (R26 to R29) -/

/-- The phase test of SET_STAGE (R26). -/
def Phase.staged : Phase → Bool
  | .idle | .done | .held => false
  | .startWait | .spinup | .purge | .ignition | .heat | .heatWait | .cool | .acRest | .acBurst
  | .paused | .faultHold | .recovering => true

/-- SET_STAGE (R26). -/
def State.serveSetStage (s : State) (pocket stage : Byte) : Served :=
  s.pocketRequest pocket (fun p => (s.pocket p).phase.staged) .wrongPhase fun p =>
    match stageArg stage with
    | none => s.answer .badArg
    | some st => (s.setRun p { (s.pocket p).run with stage := st }).carriedOut .ok

/-- The phase test of END_HEAT (R27). -/
def Pocket.heatEndable (k : Pocket) : Bool :=
  (k.phase.heating || k.phase == .startWait || k.phase == .spinup) && k.run.target == .heat

/-- END_HEAT (R27). -/
def State.serveEndHeat (s : State) (pocket : Byte) : Served :=
  s.pocketRequest pocket (fun p => (s.pocket p).heatEndable) .wrongPhase fun p =>
    (s.endHeat p .appEnd false).carriedOut .ok

/-- The cause and the exit of a STOP that ends no heat (R28). -/
def RunRecord.stopped (r : RunRecord) : RunRecord := { r with cause := .stop, coolExit := .done }

/-- An accepted DECLINE, or a STOP in HELD (R157). -/
def State.decline (s : State) (p : PocketId) : State :=
  let pl := declinePlan s.cfg s.bd (s.sense p) (s.pocket p) (s.rp.get p)
  let s1 := s.holdPlan p pl
  match pl.kind with
  | .resumeCool => (s1.endHeat p .stop false).enterPlan p pl .resume
  | _ => s1.enterPlan p pl .phase

/-- STOP in START_WAIT and SPINUP (R28). -/
def State.stopEarly (s : State) (p : PocketId) : State :=
  let r := (s.pocket p).run
  if r.h = 0 ∧ r.d = 0 then s.enterPhase p .idle
  else if r.target = .heat then s.endHeat p .stop false
  else s.setRun p r.stopped

/-- The effect of STOP by phase, or none for WRONG_PHASE (table of R28). -/
def State.stopBy (s : State) (p : PocketId) : Option State :=
  match (s.pocket p).phase with
  | .startWait | .spinup => some (s.stopEarly p)
  | .purge | .ignition | .heat | .heatWait => some (s.endHeat p .stop false)
  | .cool => some (s.setRun p (s.pocket p).run.stopped)
  | .acRest | .acBurst | .paused => some (s.enterPhase p .done)
  | .held => some (s.decline p)
  | .idle | .done | .faultHold | .recovering => none

/-- STOP (R28). -/
def State.serveStop (s : State) (pocket : Byte) : Served :=
  s.pocketRequest pocket (fun _ => true) .wrongPhase fun p =>
    match s.stopBy p with
    | none => s.answer .wrongPhase
    | some s1 => s1.carriedOut .ok

/-- An accepted CLEAR for a pocket (R29, log 16). -/
def State.clearPocket (s : State) (p : PocketId) : State :=
  let k := s.pocket p
  let s1 := s.setPocket p { k with faults := FaultSet.empty }
  if k.phase = .faultHold then s1.enterPhase p .idle
  else if k.run.coolExit = .faultHold then s1.setRun p { k.run with coolExit := .done }
  else s1

/-- CLEAR for the part empties the part faults (R112). -/
def State.clearPart (s : State) : State :=
  { s with ss := { s.ss with
      storeWeak := false, backupLost := false, configDefaulted := false, journalFault := none } }

/-- CLEAR (R29, R112, R165). -/
def State.serveClear (s : State) (selector : Byte) : Served :=
  if selector = 2#8 then (s.clearPart, some .ok)
  else s.pocketRequest selector (fun _ => true) .wrongPhase fun p => (s.clearPocket p).carriedOut .ok

/-! ### Plans (R154, R156, R157) -/

/-- An accepted CONTINUE (R154). -/
def State.continueCycle (s : State) (p : PocketId) : State :=
  let pl := continuePlan s.cfg s.bd (s.sense p) (s.pocket p)
  (s.holdPlan p pl).enterPlan p pl .resume

/-- CONTINUE (R24). -/
def State.serveContinue (s : State) (pocket : Byte) : Served :=
  s.pocketRequest pocket
    (fun p => (s.pocket p).phase == .paused && (s.sense p).door.level) .wrongPhase fun p =>
      (s.continueCycle p).carriedOut .ok

/-- An accepted CONFIRM (R156). -/
def State.confirm (s : State) (p : PocketId) : State :=
  let pl := confirmPlan s.cfg s.bd (s.sense p) (s.pocket p) (s.rp.get p)
  (s.holdPlan p pl).enterPlan p pl .resume

/-- CONFIRM (R156). -/
def State.serveConfirm (s : State) (pocket : Byte) : Served :=
  s.pocketRequest pocket (fun p => (s.pocket p).phase == .held) .wrongPhase fun p =>
    (s.confirm p).carriedOut .ok

/-- DECLINE (R157). -/
def State.serveDecline (s : State) (pocket : Byte) : Served :=
  s.pocketRequest pocket (fun p => (s.pocket p).phase == .held) .wrongPhase fun p =>
    (s.decline p).carriedOut .ok

/-! ### Reads and the configuration (R168 to R173) -/

/-- STATUS (R169). -/
def State.serveStatus (s : State) : Served := (s, some ⟨.ok, s.statusData⟩)

/-- POCKET (R170). -/
def State.servePocket (s : State) (pocket : Byte) : Served :=
  match pocketOfByte pocket with
  | none => s.answer .badArg
  | some p => (s.useTheta p, some ⟨.ok, s.pocketData p⟩)

/-- PLAN (R143). -/
def State.servePlan (s : State) (pocket : Byte) : Served :=
  match pocketOfByte pocket with
  | none => s.answer .badArg
  | some p => (s, some ⟨.ok, planData p (s.rp.get p)⟩)

/-- EVENTS (R168): the entries stay until the reply is delivered. -/
def State.serveEvents (s : State) : Served :=
  ({ s with ml := { s.ml with outstanding := s.ml.outstanding.map fun o =>
      { o with events := some ⟨s.ml.reported, s.ml.lost, false⟩ } } },
    some ⟨.ok, s.ml.eventsData⟩)

/-- CONFIG_READ (R172). -/
def State.serveConfigRead (s : State) (group field : Byte) : Served :=
  match fieldRange group.toNat field.toNat with
  | none => s.answer .badArg
  | some _ => (s, some ⟨.ok, le16 (fieldHalf (s.cfg.field group.toNat field.toNat))⟩)

/-- CONFIG_WRITE (R173). VHU is compared with a moved threshold at once (R98). An expiry that a changed
filter time or turning window makes due is taken by its own command (log 35). -/
def State.serveConfigWrite (s : State) (group field : Byte) (value : Half) : Served :=
  if !s.inRun then s.answer .notReady
  else
    match s.cfg.write group.toNat field.toNat value with
    | none => s.answer .badArg
    | some (c, clamped) =>
      ({ s with cfg := c }.recompare,
        some (.done clamped (le16 (fieldHalf (c.field group.toNat field.toNat)))))

/-! ### Bus requests (R130, R131, R162) -/

/-- A request of the link joins the write queue; its reply is owed (R118). -/
def State.joinQueue (s : State) (what : WriteKind) : Served :=
  ({ s with jc := { s.jc with queue := s.jc.queue ++ [⟨what, s.time⟩] } }, none)

/-- CONFIG_STORE (R130, R165). -/
def State.serveConfigStore (s : State) : Served :=
  if !s.inRun then s.answer .notReady
  else if s.ml.orphan then s.answer .busy
  else s.joinQueue .store

/-- A slot index of a request (R131). -/
def slotOfByte (b : Byte) : Option (Fin 124) :=
  if h : b.toNat < 124 then some ⟨b.toNat, h⟩ else none

/-- JOURNAL_READ (R131, R165). -/
def State.serveJournalRead (s : State) (pocket slot : Byte) : Served :=
  if !s.inRun then s.answer .notReady
  else if s.ml.orphan then s.answer .busy
  else
    match pocketOfByte pocket, slotOfByte slot with
    | some p, some i => s.joinQueue (.read p i)
    | _, _ => s.answer .badArg

/-! ### A taken request (R160, R162, R165) -/

/-- Carry out a request. -/
def State.serve (s : State) : Request → Served
  | .status => s.serveStatus
  | .pocket p => s.servePocket p
  | .startCycle p t stage c thetaX w b rt rev auto =>
    s.serveStartCycle p ⟨t.toNat, c.toNat, thetaX.toInt, w.toNat, b.toNat, rt.toNat⟩
      (cycleChoices stage rev auto)
  | .extend p amount => s.serveExtend p amount
  | .setStage p stage => s.serveSetStage p stage
  | .endHeat p => s.serveEndHeat p
  | .stop p => s.serveStop p
  | .continueCycle p => s.serveContinue p
  | .plan p => s.servePlan p
  | .confirm p => s.serveConfirm p
  | .decline p => s.serveDecline p
  | .clear sel => s.serveClear sel
  | .events => s.serveEvents
  | .configRead g f => s.serveConfigRead g f
  | .configWrite g f v => s.serveConfigWrite g f v
  | .configStore => s.serveConfigStore
  | .journalRead p slot => s.serveJournalRead p slot

/-- The reply of a served request is composed, where it is composed at once (R162). -/
def Served.settle (x : Served) : State :=
  match x.2 with
  | none => x.1
  | some r => { x.1 with ml := x.1.ml.reply r }

/-- A request becomes the outstanding one (R160). -/
def State.outstand (s : State) (kind tag : Byte) : State :=
  { s with ml := { s.ml with outstanding := some ⟨kind, tag, none⟩ } }

/-- A clean frame of a known kind: rejected with cause BUSY while a request is outstanding, otherwise
taken and carried out; none stands for a payload of the wrong length (R160, R165). -/
def State.take (s : State) (kind tag : Byte) (r : Option Request) : State :=
  if s.ml.outstanding.isSome then { s with ml := s.ml.sendReject kind tag .busy }
  else
    match r with
    | none => ((s.outstand kind tag).answer .badArg).settle
    | some r => ((s.outstand kind tag).serve r).settle

/-- A clean whole frame of a request reaches the receiver (log 8): characters are taken in WAKE, RUN and
HOLD_UP, and not during a break; a frame in assembly is discarded (R159, R161, R164). -/
def State.request (s : State) (tag : Byte) (r : Request) : State :=
  if s.ss.power.working ∧ s.ml.rx ≠ .lineBreak then
    { s with ml := { s.ml with rx := .idle } }.take r.kind tag (some r)
  else s

/-! ### The commands -/

/-- STATUS. -/
def execStatus (dt : Nat) (tag : Byte) (s : State) : Host.Outcome State Fault Refusal :=
  .next ((s.advance dt).request tag .status)

/-- POCKET. -/
def execPocket (dt : Nat) (tag pocket : Byte) (s : State) : Host.Outcome State Fault Refusal :=
  .next ((s.advance dt).request tag (.pocket pocket))

/-- START_CYCLE. -/
def execStartCycle (dt : Nat) (tag pocket : Byte) (t : Half) (stage : Byte) (c thetaX w : Half)
    (b : Byte) (rt : Half) (reverse autoResume : Byte) (s : State) :
    Host.Outcome State Fault Refusal :=
  .next ((s.advance dt).request tag (.startCycle pocket t stage c thetaX w b rt reverse autoResume))

/-- EXTEND. -/
def execExtend (dt : Nat) (tag pocket : Byte) (amount : Half) (s : State) :
    Host.Outcome State Fault Refusal :=
  .next ((s.advance dt).request tag (.extend pocket amount))

/-- SET_STAGE. -/
def execSetStage (dt : Nat) (tag pocket stage : Byte) (s : State) :
    Host.Outcome State Fault Refusal :=
  .next ((s.advance dt).request tag (.setStage pocket stage))

/-- END_HEAT. -/
def execEndHeat (dt : Nat) (tag pocket : Byte) (s : State) : Host.Outcome State Fault Refusal :=
  .next ((s.advance dt).request tag (.endHeat pocket))

/-- STOP. -/
def execStop (dt : Nat) (tag pocket : Byte) (s : State) : Host.Outcome State Fault Refusal :=
  .next ((s.advance dt).request tag (.stop pocket))

/-- CONTINUE. -/
def execContinueCycle (dt : Nat) (tag pocket : Byte) (s : State) :
    Host.Outcome State Fault Refusal :=
  .next ((s.advance dt).request tag (.continueCycle pocket))

/-- PLAN. -/
def execPlan (dt : Nat) (tag pocket : Byte) (s : State) : Host.Outcome State Fault Refusal :=
  .next ((s.advance dt).request tag (.plan pocket))

/-- CONFIRM. -/
def execConfirm (dt : Nat) (tag pocket : Byte) (s : State) : Host.Outcome State Fault Refusal :=
  .next ((s.advance dt).request tag (.confirm pocket))

/-- DECLINE. -/
def execDecline (dt : Nat) (tag pocket : Byte) (s : State) : Host.Outcome State Fault Refusal :=
  .next ((s.advance dt).request tag (.decline pocket))

/-- CLEAR with a selector other than the part's. -/
def execClearPocket (dt : Nat) (tag selector : Byte) (s : State) :
    Host.Outcome State Fault Refusal :=
  .next ((s.advance dt).request tag (.clear selector))

/-- CLEAR naming the part. -/
def execClearPart (dt : Nat) (tag : Byte) (s : State) : Host.Outcome State Fault Refusal :=
  .next ((s.advance dt).request tag (.clear 2#8))

/-- EVENTS. -/
def execEvents (dt : Nat) (tag : Byte) (s : State) : Host.Outcome State Fault Refusal :=
  .next ((s.advance dt).request tag .events)

/-- CONFIG_READ. -/
def execConfigRead (dt : Nat) (tag group field : Byte) (s : State) :
    Host.Outcome State Fault Refusal :=
  .next ((s.advance dt).request tag (.configRead group field))

/-- CONFIG_WRITE. -/
def execConfigWrite (dt : Nat) (tag group field : Byte) (value : Half) (s : State) :
    Host.Outcome State Fault Refusal :=
  .next ((s.advance dt).request tag (.configWrite group field value))

/-- CONFIG_STORE. -/
def execConfigStore (dt : Nat) (tag : Byte) (s : State) : Host.Outcome State Fault Refusal :=
  .next ((s.advance dt).request tag .configStore)

/-- JOURNAL_READ. -/
def execJournalRead (dt : Nat) (tag pocket slot : Byte) (s : State) :
    Host.Outcome State Fault Refusal :=
  .next ((s.advance dt).request tag (.journalRead pocket slot))

end Sys2Proof.Machine
end

