-- ==== Sys2Proof/Machine/Sensing.lean ====
section
/-!
DEFINITION. Machine/Sensing.lean: the Input Conditioner (02): contact filters and settling, tachometer
pulses, the turning window, temperature conversions, and what a pocket does with their results.
-/

namespace Sys2Proof.Machine

/-! ### Contacts (R32 to R34) -/

/-- A raw change reaches a settled contact: a level other than the filtered one is the candidate from
now on, and the filtered level abandons it (R32). -/
def Contact.raw (c : Contact) (level : Bool) (now : Nat) : Contact :=
  match c.settling with
  | some _ => c
  | none => { c with cand := if level = c.level then none else some now }

/-- The same of the door watch's own filter (R110). -/
def DoorWatch.raw (w : DoorWatch) (level : Bool) (now : Nat) : DoorWatch :=
  match w.settling with
  | some _ => w
  | none => { w with cand := if level = w.closed then none else some now }

/-- Replace one raw contact level on the pins. -/
def State.setPin (s : State) (p : PocketId) (i : ContactInput) (level : Bool) : State :=
  { s with pins := { s.pins with
      contacts := s.pins.contacts.set p ((s.pins.contacts.get p).setLevel i level) } }

/-- RAW_CONTACT_CHANGE (R32, R110). -/
def execRawContactChange (dt : Nat) (p : PocketId) (i : ContactInput) (level : Bool) (s : State) :
    Host.Outcome State Fault Refusal :=
  let s0 := s.advance dt
  .next <|
    if (s0.pins.contacts.get p).level i = level then s0
    else
      let s1 := s0.setPin p i level
      let s2 :=
        if s1.ss.power.working then
          s1.setSense p ((s1.sense p).setContact i (((s1.sense p).contact i).raw level s1.time))
        else s1
      if i = .door ∧ s2.bd.valid then
        { s2 with bd := { s2.bd with
            watch := s2.bd.watch.set p ((s2.bd.watch.get p).raw level s2.time) } }
      else s2

/-- A door opening by phase (R23, R60). -/
def State.doorOpened (s : State) (p : PocketId) : State :=
  let ph := (s.pocket p).phase
  if ph.pausable then s.pauseDoor p
  else
    match ph with
    | .acRest | .acBurst | .done => s.enterPhase p .idle
    | _ => s

/-- AIRFLOW becomes proven (R51, R65, R66, R77, R79). -/
def State.airflowProven (s : State) (p : PocketId) : State :=
  let k := s.pocket p
  match k.phase with
  | .spinup => if k.proven then s.leaveSpinup p else s
  | .purge =>
    s.setTimers p { k.timers with
      purge := some (s.time + seconds k.run.copies.purge), heatGrace := none }
  | .heatWait => (s.setTimers p { k.timers with heatGrace := none }).checkHeatWait p
  | _ => s

/-- AIRFLOW is lost (R64 to R66, R76, R77). -/
def State.airflowLost (s : State) (p : PocketId) : State :=
  let k := s.pocket p
  let grace := some (s.time + seconds (s.cfg.airflowGrace p))
  match k.phase with
  | .purge => s.setTimers p { k.timers with purge := none, heatGrace := grace }
  | .ignition | .heat => s.enterHeatWait p
  | .heatWait => s.setTimers p { k.timers with heatGrace := grace }
  | _ => s

/-- A high-limit trip (R78): counted in the heat phases. -/
def State.highLimitTrip (s : State) (p : PocketId) : State :=
  let k := s.pocket p
  if k.phase.heating then
    let s1 := (s.setRun p { k.run with trips := min 3 (k.run.trips + 1) }).setFault p .highLimit
    if 3 ≤ k.run.trips + 1 then s1.endHeat p .limit false
    else
      match k.phase with
      | .ignition | .heat => s1.enterHeatWait p
      | _ => s1
  else s

/-- HEAT_FB is asserted: flame proof for a gas pocket whose trial runs (R69). -/
def State.flameSeen (s : State) (p : PocketId) : State :=
  let k := s.pocket p
  if k.phase = .ignition ∧ k.run.copies.heatKind = .gas ∧ k.timers.trial.isSome then s.enterHeat p
  else s

/-- A pocket acts on a change of a filtered level, taken in RUN (R34). -/
def State.inputChanged (s : State) (p : PocketId) (i : ContactInput) (level : Bool) : State :=
  match i, level with
  | .door, true => s.checkStartWait p
  | .door, false => s.doorOpened p
  | .airflow, true => s.airflowProven p
  | .airflow, false => s.airflowLost p
  | .hilimit, true => s.checkHeatWait p
  | .hilimit, false => s.highLimitTrip p
  | .heatFb, true => s.flameSeen p
  | .heatFb, false => s

/-- INPUT_CHANGED is posted for every contact but HEAT_FB (R34). -/
def State.postInput (s : State) (p : PocketId) (i : ContactInput) (level : Bool) : State :=
  match i with
  | .heatFb => s
  | .door | .airflow | .hilimit =>
    s.post .inputChanged (some p) (pairArg (inputCode i) (boolByte level))

/-- CONTACT_FILTER_EXPIRY (R32, R34): INPUT_CHANGED is posted before the pocket's own events (the model's
choice, log 14). -/
def execContactFilterExpiry (dt : Nat) (p : PocketId) (i : ContactInput) (s : State) :
    Host.Outcome State Fault Refusal :=
  let s0 := s.advance dt
  let c := (s0.sense p).contact i
  let held := due (c.cand.map (· + millis (s0.cfg.filter p i))) s0.time
  .next <|
    if s0.ss.power.working && c.settling.isNone && held then
      let level := !c.level
      let s1 := s0.setSense p
        ((s0.sense p).setContact i { level := level, settling := none, cand := none })
      if s1.inRun then ((s1.postInput p i level).inputChanged p i level).arbitrate else s1
    else s0

/-- SETTLING_TIMER_EXPIRY (R33): the filtered level takes the raw level; this is no change of it. A
level that START_WAIT or HEAT_WAIT waits for may come to hold here (log 21). -/
def execSettlingTimerExpiry (dt : Nat) (p : PocketId) (i : ContactInput) (s : State) :
    Host.Outcome State Fault Refusal :=
  let s0 := s.advance dt
  let c := (s0.sense p).contact i
  let passed := due (c.settling.map (· + millis (s0.cfg.filter p i))) s0.time
  .next <|
    if s0.ss.power.working && passed then
      let s1 := s0.setSense p ((s0.sense p).setContact i
        { level := (s0.pins.contacts.get p).level i, settling := none, cand := none })
      ((s1.checkStartWait p).checkHeatWait p).arbitrate
    else s0

/-! ### Tachometer (R35 to R37) -/

/-- TACH_EDGE (R35): a rise begins a pulse and a fall ends it. -/
def execTachEdge (dt : Nat) (p : PocketId) (level : Bool) (s : State) :
    Host.Outcome State Fault Refusal :=
  let s0 := s.advance dt
  .next <|
    if s0.pins.tach.get p = level then s0
    else
      let s1 := { s0 with pins := { s0.pins with tach := s0.pins.tach.set p level } }
      if s1.ss.power.working then
        s1.setSense p { s1.sense p with
          tachPulse := if level then some ⟨s1.time, false⟩ else none }
      else s1

/-- An accepted pulse restarts the turning window and is counted (R36, R37). -/
def Sensing.pulse (k : Sensing) (ppr now : Nat) : Sensing :=
  let whole := decide (ppr ≤ k.residue + 1)
  { k with
    tachPulse := k.tachPulse.map fun t => { t with accepted := true }
    lastPulse := some now
    residue := if whole then 0 else k.residue + 1
    revs := if whole then k.revs + 1 else k.revs }

/-- The count is restarted (R37). -/
def Sensing.restart (k : Sensing) : Sensing := { k with residue := 0, revs := 0#16 }

/-- Rotation proof in SPINUP (R51). -/
def State.rotationProof (s : State) (p : PocketId) : State :=
  let k := s.pocket p
  let s1 := s.setPocket p { k with proven := true, timers := { k.timers with startProof := none } }
  if (s1.sense p).airflow.level then s1.leaveSpinup p
  else
    s1.setTimers p { (s1.pocket p).timers with
      airflowGrace := some (s1.time + seconds (s1.cfg.airflowGrace p)) }

/-- The first burst pulse (R58). -/
def State.firstBurstPulse (s : State) (p : PocketId) : State :=
  let k := s.pocket p
  (s.setPocket p { k with
      firstPulse := true, timers := { k.timers with burstProof := none } }).setSense p
    (s.sense p).restart

/-- A burst ends (R59). -/
def State.burstEnd (s : State) (p : PocketId) : State :=
  if (s.pocket p).windowReached then s.enterPhase p .done else s.enterAcRest p

/-- A pocket acts on an accepted pulse, taken in RUN after it was counted. -/
def State.pulseTaken (s : State) (p : PocketId) : State :=
  let k := s.pocket p
  match k.phase with
  | .spinup => if k.motorRun && !k.proven then s.rotationProof p else s
  | .acBurst =>
    if k.firstPulse then
      if k.run.burst ≤ (s.sense p).revs.toNat then s.burstEnd p else s
    else s.firstBurstPulse p
  | _ => s

/-- TACH_PULSE_ACCEPTED (R35 to R37). The TACH filter time is read at the acceptance, so a changed one applies
to a pulse that is high, and the accepted instant is that of this command (the model's choice, log 44). -/
def execTachPulseAccepted (dt : Nat) (p : PocketId) (s : State) : Host.Outcome State Fault Refusal :=
  let s0 := s.advance dt
  let ready := match (s0.sense p).tachPulse with
    | none => false
    | some t => !t.accepted && t.since + millis (s0.cfg.tachFilter p) ≤ s0.time
  .next <|
    if s0.ss.power.working && ready then
      let s1 := s0.setSense p ((s0.sense p).pulse (s0.cfg.ppr p) s0.time)
      if s1.inRun then (s1.pulseTaken p).arbitrate else s1
    else s0

/-- An expiry of the turning window is a drum stall here (R54). -/
def Pocket.stallsOnWindow (k : Pocket) : Bool :=
  k.motorRun && !(k.phase == .spinup && !k.proven) && !(k.phase == .acBurst && !k.firstPulse)

/-- TURNING_WINDOW_EXPIRY (R36, R54). -/
def execTurningWindowExpiry (dt : Nat) (p : PocketId) (s : State) :
    Host.Outcome State Fault Refusal :=
  let s0 := s.advance dt
  let passed := due ((s0.sense p).lastPulse.map (· + s0.cfg.turningWindow p * 100000)) s0.time
  .next <|
    if s0.ss.power.working && passed then
      let s1 := s0.setSense p { s0.sense p with lastPulse := none }
      if s1.inRun && (s1.pocket p).stallsOnWindow then (s1.drumStall p).arbitrate else s1
    else s0

/-! ### Temperature (R38 to R42) -/

/-- A sample of the fault class (R38). -/
def sampleFaulty (code : Nat) : Bool := code ≤ 7 || 1016 ≤ code

/-- The largest index from 0 to 7 whose breakpoint code is at most c, for a c of at least c_0. -/
def breakIndex (codes : List Int) (c : Int) : Nat :=
  (List.range 8).foldl (fun best i => if codes.getD i 0 ≤ c then i else best) 0

/-- The temperature code of a converter code through the breakpoint table (R38). -/
def convert (codes temps : List Int) (c : Int) : Int :=
  if c < codes.getD 0 0 then clampInt (-40) 400 (temps.getD 0 0)
  else if codes.getD 8 0 < c then clampInt (-40) 400 (temps.getD 8 0)
  else
    let i := breakIndex codes c
    let c0 := codes.getD i 0
    let c1 := codes.getD (i + 1) 0
    let t0 := temps.getD i 0
    let t1 := temps.getD (i + 1) 0
    clampInt (-40) 400 (t0 + Int.tdiv ((t1 - t0) * (c - c0)) (c1 - c0))

/-- A good sample is used (R39, R40). -/
def Sensing.goodSample (k : Sensing) (temp : Int) : Sensing :=
  let samples := (if k.samples.length < 4 then k.samples else k.samples.drop 1) ++ [temp]
  let used := min 4 (k.used + 1)
  { k with
    samples := samples
    used := used
    theta := if used = 4 then some (Int.fdiv samples.sum 4) else k.theta
    goodRun := min 8 (k.goodRun + 1) }

/-- The conversion's work in the Input Conditioner (R38 to R40). -/
def Sensing.sample (k : Sensing) (c : WorkingCopy) (code : Nat) : Sensing :=
  let k1 := { k with nextConversion := k.nextConversion + 250000 }
  if sampleFaulty code then { k1 with goodRun := 0 }
  else k1.goodSample (convert c.breakCodes c.breakTemps code)

/-- Set or clear SENSOR of a pocket. -/
def State.setSensor (s : State) (p : PocketId) (b : Bool) : State :=
  s.setPocket p { s.pocket p with faults := { (s.pocket p).faults with sensor := b } }

/-- SENSOR after a conversion in RUN, with its event (R40, R41), and the heat it ends (R80); SENSOR_FAULT is
posted before the events of that end (the model's choice, log 14). -/
def State.sensorAfter (s : State) (p : PocketId) (code : Nat) : State :=
  let k := s.pocket p
  if sampleFaulty code then
    if k.faults.sensor then s
    else
      let s1 := (s.setSensor p true).post .sensorFault (some p) (half code)
      if k.phase.heating then s1.endHeat p .sensor false else s1
  else if k.faults.sensor ∧ (s.sense p).goodRun = 8 then
    (s.setSensor p false).post .sensorOk (some p) 0#16
  else s

/-- TEMP_HIGH at a temperature sample (R81). -/
def State.tempHighGuard (s : State) (p : PocketId) : State :=
  match (s.sense p).theta with
  | none => s
  | some theta =>
    s.evaluateGuard p .tempHigh
      (!(s.pocket p).faults.sensor && decide (s.cfg.tempHighLimit p ≤ theta))

/-- TEMPERATURE_CONVERSION (R38 to R42). -/
def execTemperatureConversion (dt : Nat) (p : PocketId) (code : BitVec 10) (s : State) :
    Host.Outcome State Fault Refusal :=
  let s0 := s.advance dt
  .next <|
    if s0.ss.power.working && (s0.sense p).nextConversion ≤ s0.time then
      let s1 := s0.setSense p ((s0.sense p).sample s0.cfg code.toNat)
      if s1.inRun then ((s1.sensorAfter p code.toNat).tempHighGuard p).arbitrate else s1
    else s0

end Sys2Proof.Machine
end

