-- ==== Sys2Proof/Machine/Serial.lean ====
section
/-!
DEFINITION. Machine/Serial.lean: the serial line (10.1 to 10.3): characters through the receiver, the
tests of a complete frame, gaps, breaks, and the delivery of replies.
-/

namespace Sys2Proof.Machine

/-! ### The receiver (R159, R160) -/

/-- Change the receiver's state. -/
def State.setRx (s : State) (rx : Receiver) : State := { s with ml := { s.ml with rx := rx } }

/-- A REJECT of a frame is composed. -/
def State.reject (s : State) (kind tag : Byte) (cause : RejectCause) : State :=
  { s with ml := s.ml.sendReject kind tag cause }

/-- A complete frame is tested: LINE, CHECK, KIND, then BUSY (R160). -/
def State.testFrame (s : State) (bytes : List Byte) (error : Bool) : State :=
  let kind := byteAt bytes 0
  let tag := byteAt bytes 1
  if error then s.reject kind tag .line
  else if crc8 bytes.dropLast ≠ byteAt bytes (bytes.length - 1) then s.reject kind tag .check
  else if knownKind kind then s.take kind tag (Request.parse kind (bytes.dropLast.drop 3))
  else s.reject kind tag .kind

/-- A character with mark 0 joins the frame in assembly (R159). -/
def State.joinFrame (s : State) (bytes : List Byte) (error : Bool) : State :=
  if bytes.length = 3 ∧ 60 < (byteAt bytes 2).toNat then
    (s.setRx .skipping).reject (byteAt bytes 0) (byteAt bytes 1) .length
  else if 3 < bytes.length ∧ bytes.length = 4 + (byteAt bytes 2).toNat then
    (s.setRx .idle).testFrame bytes error
  else s.setRx (.receiving bytes error)

/-- The receiver takes a character (R159). -/
def State.takeChar (s : State) (c : LineChar) : State :=
  match s.ml.rx with
  | .lineBreak => s
  | .idle | .skipping => if c.mark then s.setRx (.receiving [c.byte] c.error) else s
  | .receiving bytes error =>
    if c.mark then s.setRx (.receiving [c.byte] c.error)
    else s.joinFrame (bytes ++ [c.byte]) (error || c.error)

/-- Characters are taken in WAKE, RUN and HOLD_UP (R164). -/
def State.takeChars (s : State) (cs : List LineChar) : State :=
  if s.ss.power.working then cs.foldl State.takeChar s else s

/-- FRAME_RECEIVED (R159, R160): characters one after another, to the end of a frame (log 9). -/
def execFrameReceived (dt : Nat) (chars : List LineChar) (s : State) :
    Host.Outcome State Fault Refusal :=
  .next ((s.advance dt).takeChars chars)

/-- OVERLONG_FRAME_LENGTH (R159): the kind, tag and length characters of an overlong frame. -/
def execOverlongFrameLength (dt : Nat) (kind tag length : LineChar) (s : State) :
    Host.Outcome State Fault Refusal :=
  .next ((s.advance dt).takeChars [kind, tag, length])

/-- FRAME_GAP_TIMEOUT (R159): the frame in assembly is discarded. -/
def execFrameGapTimeout (dt : Nat) (s : State) : Host.Outcome State Fault Refusal :=
  let s0 := s.advance dt
  .next <|
    match s0.ss.power.working, s0.ml.rx with
    | true, .receiving _ _ => s0.setRx .idle
    | _, _ => s0

/-! ### Breaks (R161, R162) -/

/-- A request of the link is queued in the Journal Controller or in flight there. -/
def JournalController.linkBusy (j : JournalController) : Bool :=
  j.queue.any (·.ofLink) ||
    match j.engine with
    | .busy job _ _ => job.ofLink
    | .free => false

/-- BREAK (R161): the transmitter is emptied, the outstanding request ends, and a bus request still with
the Journal Controller becomes the orphan. A reply whose last character is being sent is not delivered
(the model's choice, log 38). -/
def execLineBreak (dt : Nat) (s : State) : Host.Outcome State Fault Refusal :=
  let s0 := s.advance dt
  .next <|
    if s0.ss.power.working then
      { s0 with ml := { s0.ml with
          rx := .lineBreak
          tx := []
          outstanding := none
          orphan := s0.ml.orphan || (s0.ml.outstanding.isSome && s0.jc.linkBusy) } }
    else s0

/-- BREAK_END (R161). -/
def execLineBreakEnd (dt : Nat) (s : State) : Host.Outcome State Fault Refusal :=
  let s0 := s.advance dt
  .next <|
    match s0.ss.power.working, s0.ml.rx with
    | true, .lineBreak => s0.setRx .idle
    | _, _ => s0

/-! ### Delivery (R162, R168) -/

/-- The delivery of an EVENTS reply removes what it reported, and clears the lost flag when it was
reported set and no event has been discarded since (R168). -/
def Link.deliverEvents (l : Link) (ev : EventsReply) : Link :=
  { l with events := l.events.drop ev.count, lost := l.lost && !(ev.lost && !ev.discarded) }

/-- The reply of the outstanding request is delivered (R162). -/
def Link.deliverReply (l : Link) : Link :=
  let l1 := match l.outstanding with
    | none => l
    | some o =>
      match o.events with
      | none => l
      | some ev => l.deliverEvents ev
  { l1 with outstanding := none }

/-- The last character of the frame being sent leaves (log 28). -/
def Link.deliver (l : Link) : Link :=
  match l.tx with
  | [] => l
  | f :: rest => if f.reject then { l with tx := rest } else { l.deliverReply with tx := rest }

/-- REPLY_DELIVERED (R162, R168). -/
def execReplyDelivered (dt : Nat) (s : State) : Host.Outcome State Fault Refusal :=
  let s0 := s.advance dt
  .next <| if s0.ss.power.working then { s0 with ml := s0.ml.deliver } else s0

end Sys2Proof.Machine
end

