-- ==== Sys2Proof/Machine/Timers.lean ====
section
/-!
DEFINITION. Machine/Timers.lean: the expiries of a pocket's timers (01, 03, 04) and the ends of the
holds of the start slot (03). An expiry of a timer that is stopped, or that has not reached its expiry
instant, takes no effect (log 5).
-/

namespace Sys2Proof.Machine

/-! ### The pocket timer (R2, R13) -/

/-- Step 1: credit (R11). -/
def State.accrueCredit (s : State) (p : PocketId) : State :=
  let k := s.pocket p
  if k.phase = .heat ∧ s.lm.line = .normal ∧ (s.sense p).heatFb.level then
    let gain := match k.run.stage with
      | .full => 4
      | .reduced => 2
    s.setRun p { k.run with d := min k.run.t (k.run.d + gain) }
  else s

/-- Step 2: heat seconds (R12). -/
def State.countHeat (s : State) (p : PocketId) : State :=
  let k := s.pocket p
  if k.phase = .heat ∧ s.heatPermit p then s.setRun p { k.run with h := min 65535 (k.run.h + 1) }
  else s

/-- Step 3 ends heat with cause TARGET here (R13). -/
def State.targetReached (s : State) (p : PocketId) : Bool :=
  (s.pocket p).phase == .heat && (s.pocket p).run.d == (s.pocket p).run.t

/-- Step 4: the RUN_LONG guard (R81). -/
def State.runLongGuard (s : State) (p : PocketId) : State :=
  s.evaluateGuard p .runLong (decide (s.cfg.runLongLimit p ≤ (s.pocket p).run.h))

/-- Step 5, first half: cool seconds (R15). -/
def State.countCool (s : State) (p : PocketId) : State :=
  let k := s.pocket p
  if (s.sense p).turning then s.setRun p { k.run with c := min 65535 (k.run.c + 1) } else s

/-- The normal clause of the cool end test (R16). -/
def State.coolNormalEnd (s : State) (p : PocketId) : Bool :=
  let k := s.pocket p
  decide (k.run.coolTarget ≤ k.run.c)
    && (k.faults.sensor ||
      match (s.sense p).theta with
      | none => false
      | some theta => theta ≤ k.run.thetaX)

/-- Step 5, second half: the cool end test (R16). COOL_TIMEOUT is posted before the PHASE_CHANGED of the same
cool end (the model's choice, log 14). -/
def State.coolEndTest (s : State) (p : PocketId) : State :=
  let r := (s.pocket p).run
  if s.coolNormalEnd p then s.endCool p
  else if r.copies.cmax ≤ r.c then (s.post .coolTimeout (some p) (half r.c)).endCool p
  else s

/-- Step 5 (R15, R16). -/
def State.coolStep (s : State) (p : PocketId) : State :=
  if (s.pocket p).phase = .cool then (s.countCool p).coolEndTest p else s

/-- The anti-crease window is reached (R59). -/
def State.windowOver (s : State) (p : PocketId) : Bool :=
  let r := (s.pocket p).run
  if r.acStart.epoch = s.bd.epoch then r.window ≤ s.bd.clock - r.acStart.clock else true

/-- Step 6: the anti-crease window end (R59). -/
def State.windowTest (s : State) (p : PocketId) : State :=
  if s.windowOver p then
    match (s.pocket p).phase with
    | .acRest => s.enterPhase p .done
    | .acBurst => s.setPocket p { s.pocket p with windowReached := true }
    | _ => s
  else s

/-- The work of one expiry of the pocket timer, in the order of R13. -/
def State.pocketSecond (s : State) (p : PocketId) : State :=
  let s2 := (s.accrueCredit p).countHeat p
  if s2.targetReached p then (s2.endHeat p .target false).windowTest p
  else ((s2.runLongGuard p).coolStep p).windowTest p

/-- POCKET_TIMER_EXPIRY (R2, R13): the timer repeats from its own expiry instant (log 6). -/
def execPocketTimerExpiry (dt : Nat) (p : PocketId) (s : State) : Host.Outcome State Fault Refusal :=
  let s0 := s.advance dt
  let t := (s0.pocket p).timers
  .next <|
    if s0.inRun && due t.second s0.time then
      ((s0.setTimers p { t with second := t.second.map (· + seconds 1) }).pocketSecond p).arbitrate
    else s0

/-- PERIODIC_TIMER_EXPIRY (R21). -/
def execPeriodicTimerExpiry (dt : Nat) (p : PocketId) (s : State) :
    Host.Outcome State Fault Refusal :=
  let s0 := s.advance dt
  let t := (s0.pocket p).timers
  .next <|
    if s0.inRun && due t.periodic s0.time then
      (s0.setTimers p { t with periodic := some (s0.time + seconds s0.cfg.period) }).postRequest p
        .periodic
    else s0

/-! ### Spin-up and heat -/

/-- START_PROOF_TIMER_EXPIRY (R50, R54). -/
def execStartProofTimerExpiry (dt : Nat) (p : PocketId) (s : State) :
    Host.Outcome State Fault Refusal :=
  let s0 := s.advance dt
  .next <|
    if s0.inRun && due (s0.pocket p).timers.startProof s0.time then (s0.drumStall p).arbitrate
    else s0

/-- The airflow grace of SPINUP has run out (R52). -/
def State.spinupVent (s : State) (p : PocketId) : State :=
  let s1 := s.setFault p .ventBlocked
  match (s1.pocket p).run.target with
  | .heat => (s1.endHeat p .vent false).enterPhase p .cool
  | .cool | .antiCrease => s1.enterPhase p .cool

/-- AIRFLOW_GRACE_EXPIRY (R52). -/
def execAirflowGraceExpiry (dt : Nat) (p : PocketId) (s : State) :
    Host.Outcome State Fault Refusal :=
  let s0 := s.advance dt
  .next <|
    if s0.inRun && due (s0.pocket p).timers.airflowGrace s0.time then (s0.spinupVent p).arbitrate
    else s0

/-- PURGE_TIMER_EXPIRY (R65). -/
def execPurgeTimerExpiry (dt : Nat) (p : PocketId) (s : State) : Host.Outcome State Fault Refusal :=
  let s0 := s.advance dt
  .next <|
    if s0.inRun && due (s0.pocket p).timers.purge s0.time then (s0.enterIgnition p).arbitrate else s0

/-- HEAT_GRACE_EXPIRY (R66, R77). -/
def execHeatGraceExpiry (dt : Nat) (p : PocketId) (s : State) : Host.Outcome State Fault Refusal :=
  let s0 := s.advance dt
  .next <|
    if s0.inRun && due (s0.pocket p).timers.heatGrace s0.time then (s0.ventBlocked p).arbitrate
    else s0

/-- An ignition lockout (R71). -/
def State.lockout (s : State) (p : PocketId) : State :=
  (s.setFault p .ignitionLockout).endHeat p .ignition false

/-- A failed gas trial (R70). -/
def State.trialFailed (s : State) (p : PocketId) : State :=
  let r := (s.pocket p).run
  let tries := min 3 (r.tries + 1)
  let s1 := (s.setRun p { r with tries := tries }).post .ignitionFailed (some p) (half tries)
  if tries < r.copies.tries then s1.towardHeat p else s1.lockout p

/-- IGNITION_TRIAL_EXPIRY (R70). -/
def execIgnitionTrialExpiry (dt : Nat) (p : PocketId) (s : State) :
    Host.Outcome State Fault Refusal :=
  let s0 := s.advance dt
  .next <|
    if s0.inRun && due (s0.pocket p).timers.trial s0.time then (s0.trialFailed p).arbitrate else s0

/-! ### Holds of the start slot (R47) -/

/-- The grant in the slot is of a kind and its timed hold has ended. -/
def Arbiter.holdOver (a : Arbiter) (kind : StartKind) (now : Nat) : Option PocketId :=
  match a.slot with
  | none => none
  | some g => if g.request.kind = kind ∧ due g.holdEnd now then some g.request.pocket else none

/-- HEAT_START_HOLD_END (R47, R72): the electric pocket enters HEAT, which frees the slot. -/
def execHeatStartHoldEnd (dt : Nat) (s : State) : Host.Outcome State Fault Refusal :=
  let s0 := s.advance dt
  .next <|
    if s0.inRun then
      match s0.ssa.holdOver .heatStart s0.time with
      | none => s0
      | some p => if (s0.pocket p).phase = .ignition then (s0.enterHeat p).arbitrate else s0
    else s0

/-- MOTOR_START_HOLD_END (R47). -/
def execMotorStartHoldEnd (dt : Nat) (s : State) : Host.Outcome State Fault Refusal :=
  let s0 := s.advance dt
  .next <|
    if s0.inRun then
      match s0.ssa.holdOver .motorStart s0.time with
      | none => s0
      | some _ => { s0 with ssa := { s0.ssa with slot := none } }.arbitrate
    else s0

/-! ### Anti-crease -/

/-- REST_TIMER_EXPIRY (R57). -/
def execRestTimerExpiry (dt : Nat) (p : PocketId) (s : State) : Host.Outcome State Fault Refusal :=
  let s0 := s.advance dt
  let t := (s0.pocket p).timers
  .next <|
    if s0.inRun && due t.rest s0.time then
      if (s0.sense p).door.level then
        ((s0.setTimers p { t with rest := none }).postStart p .motorStart).arbitrate
      else (s0.enterPhase p .idle).arbitrate
    else s0

/-- BURST_PROOF_TIMER_EXPIRY (R58, R54). -/
def execBurstProofTimerExpiry (dt : Nat) (p : PocketId) (s : State) :
    Host.Outcome State Fault Refusal :=
  let s0 := s.advance dt
  .next <|
    if s0.inRun && due (s0.pocket p).timers.burstProof s0.time then (s0.drumStall p).arbitrate
    else s0

end Sys2Proof.Machine
end

