-- ==== Sys2Proof/Machine/Dispatch.lean ====
section
/-!
DEFINITION. Machine/Dispatch.lean: one arm for each command, one direct call of its meaning.
-/

namespace Sys2Proof.Machine

def exec (i : Instr) (s : State) : Host.Outcome State Fault Refusal :=
  match i with
  | .status dt tag => Sys2Proof.Machine.execStatus dt tag s
  | .pocket dt tag pocket => Sys2Proof.Machine.execPocket dt tag pocket s
  | .startCycle dt tag pocket t stage c thetaX w b rt reverse autoResume => Sys2Proof.Machine.execStartCycle dt tag pocket t stage c thetaX w b rt reverse autoResume s
  | .extend dt tag pocket amount => Sys2Proof.Machine.execExtend dt tag pocket amount s
  | .setStage dt tag pocket stage => Sys2Proof.Machine.execSetStage dt tag pocket stage s
  | .endHeat dt tag pocket => Sys2Proof.Machine.execEndHeat dt tag pocket s
  | .stop dt tag pocket => Sys2Proof.Machine.execStop dt tag pocket s
  | .continueCycle dt tag pocket => Sys2Proof.Machine.execContinueCycle dt tag pocket s
  | .plan dt tag pocket => Sys2Proof.Machine.execPlan dt tag pocket s
  | .confirm dt tag pocket => Sys2Proof.Machine.execConfirm dt tag pocket s
  | .decline dt tag pocket => Sys2Proof.Machine.execDecline dt tag pocket s
  | .clearPocket dt tag selector => Sys2Proof.Machine.execClearPocket dt tag selector s
  | .clearPart dt tag => Sys2Proof.Machine.execClearPart dt tag s
  | .events dt tag => Sys2Proof.Machine.execEvents dt tag s
  | .configRead dt tag group field => Sys2Proof.Machine.execConfigRead dt tag group field s
  | .configWrite dt tag group field value => Sys2Proof.Machine.execConfigWrite dt tag group field value s
  | .configStore dt tag => Sys2Proof.Machine.execConfigStore dt tag s
  | .journalRead dt tag pocket slot => Sys2Proof.Machine.execJournalRead dt tag pocket slot s
  | .frameReceived dt chars => Sys2Proof.Machine.execFrameReceived dt chars s
  | .frameGapTimeout dt => Sys2Proof.Machine.execFrameGapTimeout dt s
  | .lineBreak dt => Sys2Proof.Machine.execLineBreak dt s
  | .lineBreakEnd dt => Sys2Proof.Machine.execLineBreakEnd dt s
  | .replyDelivered dt => Sys2Proof.Machine.execReplyDelivered dt s
  | .zeroCrossing dt vline => Sys2Proof.Machine.execZeroCrossing dt vline s
  | .silenceTimerExpiry dt => Sys2Proof.Machine.execSilenceTimerExpiry dt s
  | .vhuReachesWake dt vhu => Sys2Proof.Machine.execVhuReachesWake dt vhu s
  | .vhuReachesArm dt vhu => Sys2Proof.Machine.execVhuReachesArm dt vhu s
  | .armTimerExpiry dt => Sys2Proof.Machine.execArmTimerExpiry dt s
  | .vhuBelowWriteFloor dt vhu => Sys2Proof.Machine.execVhuBelowWriteFloor dt vhu s
  | .vhuBelowDark dt vhu acked => Sys2Proof.Machine.execVhuBelowDark dt vhu acked s
  | .rstAssert dt acked => Sys2Proof.Machine.execRstAssert dt acked s
  | .rstRelease dt => Sys2Proof.Machine.execRstRelease dt s
  | .backupClockSecond dt => Sys2Proof.Machine.execBackupClockSecond dt s
  | .doorWatchFilterExpiry dt p => Sys2Proof.Machine.execDoorWatchFilterExpiry dt p s
  | .rawContactChange dt p input level => Sys2Proof.Machine.execRawContactChange dt p input level s
  | .contactFilterExpiry dt p input => Sys2Proof.Machine.execContactFilterExpiry dt p input s
  | .settlingTimerExpiry dt p input => Sys2Proof.Machine.execSettlingTimerExpiry dt p input s
  | .tachEdge dt p level => Sys2Proof.Machine.execTachEdge dt p level s
  | .tachPulseAccepted dt p => Sys2Proof.Machine.execTachPulseAccepted dt p s
  | .turningWindowExpiry dt p => Sys2Proof.Machine.execTurningWindowExpiry dt p s
  | .temperatureConversion dt p code => Sys2Proof.Machine.execTemperatureConversion dt p code s
  | .pocketTimerExpiry dt p => Sys2Proof.Machine.execPocketTimerExpiry dt p s
  | .periodicTimerExpiry dt p => Sys2Proof.Machine.execPeriodicTimerExpiry dt p s
  | .startProofTimerExpiry dt p => Sys2Proof.Machine.execStartProofTimerExpiry dt p s
  | .airflowGraceExpiry dt p => Sys2Proof.Machine.execAirflowGraceExpiry dt p s
  | .purgeTimerExpiry dt p => Sys2Proof.Machine.execPurgeTimerExpiry dt p s
  | .heatGraceExpiry dt p => Sys2Proof.Machine.execHeatGraceExpiry dt p s
  | .ignitionTrialExpiry dt p => Sys2Proof.Machine.execIgnitionTrialExpiry dt p s
  | .heatStartHoldEnd dt => Sys2Proof.Machine.execHeatStartHoldEnd dt s
  | .motorStartHoldEnd dt => Sys2Proof.Machine.execMotorStartHoldEnd dt s
  | .restTimerExpiry dt p => Sys2Proof.Machine.execRestTimerExpiry dt p s
  | .burstProofTimerExpiry dt p => Sys2Proof.Machine.execBurstProofTimerExpiry dt p s
  | .checkpointWriteStart dt => Sys2Proof.Machine.execCheckpointWriteStart dt s
  | .checkpointWriteComplete dt => Sys2Proof.Machine.execCheckpointWriteComplete dt s
  | .configStoreStart dt => Sys2Proof.Machine.execConfigStoreStart dt s
  | .configStoreComplete dt => Sys2Proof.Machine.execConfigStoreComplete dt s
  | .journalReadStart dt => Sys2Proof.Machine.execJournalReadStart dt s
  | .journalReadComplete dt => Sys2Proof.Machine.execJournalReadComplete dt s
  | .attemptNoAck dt acked => Sys2Proof.Machine.execAttemptNoAck dt acked s
  | .retryWaitExpiry dt => Sys2Proof.Machine.execRetryWaitExpiry dt s
  | .busTimeout dt acked => Sys2Proof.Machine.execBusTimeout dt acked s
  | .recoveryEnd dt => Sys2Proof.Machine.execRecoveryEnd dt s
  | .configurationReadComplete dt => Sys2Proof.Machine.execConfigurationReadComplete dt s
  | .slotReadComplete dt => Sys2Proof.Machine.execSlotReadComplete dt s
  | .backupSupplyFailure dt => Sys2Proof.Machine.execBackupSupplyFailure dt s
  | .overlongFrameLength dt kind tag length => Sys2Proof.Machine.execOverlongFrameLength dt kind tag length s

end Sys2Proof.Machine
end

