-- ==== Sys2Proof/Safety.lean ====
section
/-!
DEFINITION. Safety.lean: the words the statements are written in: when the link can take a request, what
a command leaves as it was, and the properties that every step keeps.
-/

namespace Sys2Proof

/-- The microseconds a command brings (log 4). -/
def Instr.dt : Instr → Nat
  | .status d _ | .clearPart d _ | .events d _ | .configStore d _ => d
  | .pocket d _ _ | .endHeat d _ _ | .stop d _ _ | .continueCycle d _ _ | .plan d _ _ | .confirm d _ _
  | .decline d _ _ | .clearPocket d _ _ => d
  | .startCycle d _ _ _ _ _ _ _ _ _ _ _ => d
  | .extend d _ _ _ => d
  | .setStage d _ _ _ | .configRead d _ _ _ | .journalRead d _ _ _ => d
  | .configWrite d _ _ _ _ => d
  | .frameReceived d _ => d
  | .frameGapTimeout d | .lineBreak d | .lineBreakEnd d | .replyDelivered d | .silenceTimerExpiry d
  | .armTimerExpiry d | .rstRelease d | .backupClockSecond d | .heatStartHoldEnd d
  | .motorStartHoldEnd d | .checkpointWriteStart d | .checkpointWriteComplete d | .configStoreStart d
  | .configStoreComplete d | .journalReadStart d | .journalReadComplete d | .retryWaitExpiry d
  | .recoveryEnd d | .configurationReadComplete d | .slotReadComplete d | .backupSupplyFailure d => d
  | .zeroCrossing d _ | .vhuReachesWake d _ | .vhuReachesArm d _ | .vhuBelowWriteFloor d _ => d
  | .vhuBelowDark d _ _ => d
  | .rstAssert d _ | .attemptNoAck d _ | .busTimeout d _ => d
  | .doorWatchFilterExpiry d _ | .tachPulseAccepted d _ | .turningWindowExpiry d _
  | .pocketTimerExpiry d _ | .periodicTimerExpiry d _ | .startProofTimerExpiry d _
  | .airflowGraceExpiry d _ | .purgeTimerExpiry d _ | .heatGraceExpiry d _ | .ignitionTrialExpiry d _
  | .restTimerExpiry d _ | .burstProofTimerExpiry d _ => d
  | .rawContactChange d _ _ _ => d
  | .contactFilterExpiry d _ _ | .settlingTimerExpiry d _ _ => d
  | .tachEdge d _ _ => d
  | .temperatureConversion d _ _ => d
  | .overlongFrameLength d _ _ _ => d

end Sys2Proof

namespace Sys2Proof.Machine

/-! ### Taking a request -/

/-- The link takes a clean request now: it works, no break lasts, and nothing is outstanding (R160,
R161, R164). -/
abbrev State.listening (s : State) : Prop :=
  s.ss.power.working = true ∧ s.ml.rx ≠ .lineBreak ∧ s.ml.outstanding = none

/-- The link takes a clean request in RUN. -/
abbrev State.serving (s : State) : Prop :=
  s.ss.power = .run ∧ s.ml.rx ≠ .lineBreak ∧ s.ml.outstanding = none

/-- A free slot has an empty start queue (R45). -/
abbrev State.slotServed (s : State) : Prop := s.ssa.slot = none → s.ssa.queue = []

/-- The state dt later, when a request was taken and answered and nothing else has changed. -/
def State.answered (s : State) (dt : Nat) (kind tag : Byte) (r : Reply) : State :=
  { s with
    time := s.time + dt
    ml := { s.ml with
      rx := .idle
      outstanding := some ⟨kind, tag, none⟩
      tx := s.ml.tx ++ [⟨false, replyFrame kind tag r⟩] } }

/-- From s to t a request was taken and its reply composed (R160, R162). -/
abbrev answers (s t : State) (kind tag : Byte) (r : Reply) : Prop :=
  t.ml.rx = .idle ∧ t.ml.outstanding = some ⟨kind, tag, none⟩
    ∧ t.ml.tx = s.ml.tx ++ [⟨false, replyFrame kind tag r⟩] ∧ t.ml.orphan = s.ml.orphan

/-! ### What a command leaves as it was -/

/-- Everything but the time, the pockets, the start slot, the write queue, the plans and the link is as
it was, the journal memory included. -/
abbrev keepsWorld (s t : State) : Prop :=
  t.pending = s.pending ∧ t.free = s.free ∧ t.pins = s.pins ∧ t.cfg = s.cfg ∧ t.lm = s.lm ∧ t.ss = s.ss
    ∧ t.bd = s.bd ∧ t.ic = s.ic ∧ t.journal = s.journal ∧ t.storeCut = s.storeCut
    ∧ t.jc.rings = s.jc.rings
    ∧ t.jc.engine = s.jc.engine ∧ t.jc.scan = s.jc.scan

/-- The start slot was given to a pocket at this very instant. -/
def State.grantedNow (t : State) (q : PocketId) : Bool :=
  match t.ssa.slot with
  | none => false
  | some g => g.since == t.time && g.request.pocket == q

/-- The other pocket keeps its run record and its faults, and is as it was unless the start slot came to
it at this instant (R46). -/
abbrev keepsOther (p : PocketId) (s t : State) : Prop :=
  (t.pocket p.other).run = (s.pocket p.other).run ∧ (t.pocket p.other).faults = (s.pocket p.other).faults
    ∧ (t.grantedNow p.other = false → t.pocket p.other = s.pocket p.other)

/-- The line side of the link is as it was: no frame was sent or begun, and the same request is
outstanding. -/
abbrev keepsLine (s t : State) : Prop :=
  t.ml.rx = s.ml.rx ∧ t.ml.tx = s.ml.tx ∧ t.ml.orphan = s.ml.orphan
    ∧ t.ml.outstanding.map (fun o => (o.kind, o.tag)) = s.ml.outstanding.map (fun o => (o.kind, o.tag))

/-- An act on one pocket: nothing outside it changes but the start slot, the write queue and the events. -/
abbrev actsOnPocket (p : PocketId) (s t : State) : Prop :=
  keepsWorld s t ∧ keepsOther p s t ∧ t.rp = s.rp

/-- A pocket without motion and without a running timer. -/
abbrev Pocket.still (k : Pocket) : Prop :=
  k.motorRun = false ∧ k.timers = PocketTimers.stopped

/-- The values of every block at an entry into WAKE from s (R1, R31, R44, R49, R81, R83, R100, R114, R129,
R143, R164); the working copy and the journal memory stay. The cycle-bound copies are log 17's choice, and
the pair that is not frozen log 27's. -/
abbrev wokenFrom (s t : State) : Prop :=
  t.ss.power = .wake .qualify ∧ t.ss.armTimer = none ∧ t.ss.returnMark = false
    ∧ t.ss.storeWeak = false ∧ t.ss.backupLost = false ∧ t.ss.configDefaulted = false
    ∧ t.ss.journalFault = none
    ∧ t.bd = (if s.bd.valid then s.bd else
        ⟨0, 0, true, Pair.both ⟨true, 0, false, none, some t.time⟩⟩)
    ∧ t.lm = ⟨.qualifying, 0, 0, 0, 0, .unknown, none, t.time + 14000, false, 0⟩
    ∧ (∀ p i, (t.sense p).contact i = ⟨false, some t.time, none⟩)
    ∧ (∀ p, (t.sense p).tachPulse = none ∧ (t.sense p).lastPulse = none ∧ (t.sense p).residue = 0
        ∧ (t.sense p).revs = 0 ∧ (t.sense p).samples = [] ∧ (t.sense p).used = 0
        ∧ (t.sense p).theta = none ∧ (t.sense p).goodRun = 0
        ∧ (t.sense p).nextConversion = t.time + 250000)
    ∧ (∀ p, (t.pocket p).phase = .recovering
        ∧ (t.pocket p).run = RunRecord.cleared t.bd.epoch (s.cfg.copies p)
        ∧ (t.pocket p).faults = ⟨false, false, false, false, false, false⟩
        ∧ (t.pocket p).motorRun = false ∧ (t.pocket p).motorRev = false
        ∧ (t.pocket p).timers = ⟨none, none, none, none, none, none, none, none, none⟩
        ∧ (t.pocket p).lastBurstReverse = false
        ∧ (t.pocket p).tempHighTripped = false ∧ (t.pocket p).runLongTripped = false
        ∧ (t.pocket p).frozen = false ∧ (t.pocket p).proven = false
        ∧ (t.pocket p).firstPulse = false ∧ (t.pocket p).windowReached = false
        ∧ (t.pocket p).recovered = .none)
    ∧ t.ssa = ⟨none, []⟩
    ∧ t.jc = ⟨Pair.both ⟨none, 0, 1, .notBuilt⟩, [], .free, none⟩
    ∧ t.rp = Pair.both none
    ∧ t.ml = ⟨.idle, [], none, false, [], false⟩
    ∧ t.cfg = s.cfg ∧ t.journal = s.journal ∧ t.storeCut = s.storeCut

/-- From s to t the part entered DARK (R99, R105): the working domain is lost, its working copy and every
frame still to be sent included (log 37); the Backup Domain, the pins and the journal memory stay. -/
abbrev darkFrom (s t : State) : Prop :=
  t.ss.power = .dark ∧ t.ss.vhu = s.ss.vhu ∧ t.time = s.time ∧ t.pins = s.pins ∧ t.bd = s.bd
    ∧ t.journal = s.journal ∧ t.storeCut = s.storeCut ∧ t.pending = s.pending
    ∧ t.cfg = Config.defaults ∧ t.jc.queue = [] ∧ t.jc.engine = .free
    ∧ t.ml = ⟨.idle, [], none, false, [], false⟩ ∧ t.attn = false
    ∧ ∀ p, (t.pocket p).motorRun = false ∧ (t.pocket p).motorRev = false ∧ t.heatPermit p = false

/-- What HOLD_UP comes to once a command has left the state u in it (R105, R106): it goes on while a
request is queued or a transfer is in flight; with the writes finished it ends in DARK when the return
mark is clear, waits while the mark is set and VHU is below the wake threshold, and enters WAKE when VHU
is at or above it. -/
abbrev holdUpLeads (u t : State) : Prop :=
  (u.jc.queue ≠ [] ∨ u.jc.engine ≠ .free → t = u)
    ∧ (u.jc.queue = [] → u.jc.engine = .free → u.ss.returnMark = false → darkFrom u t)
    ∧ (u.jc.queue = [] → u.jc.engine = .free → u.ss.returnMark = true →
        u.ss.vhu.toNat < u.cfg.wakeCode → t = u)
    ∧ (u.jc.queue = [] → u.jc.engine = .free → u.ss.returnMark = true →
        u.cfg.wakeCode ≤ u.ss.vhu.toNat → wokenFrom u t ∧ t.time = u.time ∧ t.pins = u.pins)

/-! ### What every step keeps -/

/-- A transfer's bytes fit in the journal memory behind its address. -/
def Job.fits (j : Job) : Bool :=
  match j.bytesOut with
  | none => true
  | some (a, bs) => a + bs.length ≤ Memory.size

/-- Each group of the working copy has a value for each of its fields (11.1). -/
def shaped (c : WorkingCopy) : Bool :=
  c.part.length == 31 && c.inst.u.length == 18 && c.inst.l.length == 18 && c.plan.length == 22

/-- Each value of a group is in its field's range. -/
def inRanges : List FieldRange → List Int → Bool
  | r :: rs, v :: vs => r.ok v && inRanges rs vs
  | [], [] => true
  | _, _ => false

/-- The working copy is whole, each field in its range, the decay table non-increasing, the breakpoint
codes strictly ascending, and dark < write floor ≤ wake ≤ arm (R98, R171, R174). -/
def copySafe (c : WorkingCopy) : Bool :=
  inRanges partRanges c.part && inRanges instRanges c.inst.u && inRanges instRanges c.inst.l
    && inRanges planRanges c.plan && decide ((c.plan.drop 6).Pairwise (· ≥ ·))
    && decide (c.breakCodes.Pairwise (· < ·))
    && c.partField 8 < c.partField 7 && c.partField 7 ≤ c.partField 5 && c.partField 5 ≤ c.partField 6

/-- The journal memory is canonical, and a write in flight or to come stays inside it (R113). -/
def State.journalSafe (s : State) : Bool :=
  Memory.wf s.journal && shaped s.cfg &&
    match s.jc.engine with
    | .free => true
    | .busy job _ _ => job.fits

/-- The event queue holds at most 16 entries (R166). -/
def State.eventsSafe (s : State) : Bool := s.ml.events.length ≤ 16

/-- Outside RUN no motor output is active (R43, R44, R97). -/
def State.outputsSafe (s : State) : Bool :=
  s.inRun
    || (!s.psq.u.motorRun && !s.psq.u.motorRev && !s.psq.l.motorRun && !s.psq.l.motorRev)

/-- D is at most T and T within its bound; a plan not yet applied stands outside RUN only, and its D' is
at most T (R4, R147, R152). -/
def State.creditSafe (s : State) (p : PocketId) : Bool :=
  (s.pocket p).run.d ≤ (s.pocket p).run.t && (s.pocket p).run.t ≤ 57600 &&
    match s.rp.get p with
    | none => true
    | some pl => pl.applied || (!s.inRun && pl.figures.dPrime ≤ (s.pocket p).run.t)

/-- The configuration and service requests that the Journal Controller has, queued and in flight. -/
def JournalController.linkRequests (j : JournalController) : Nat :=
  j.queue.countP (·.ofLink) +
    match j.engine with
    | .busy job _ _ => if job.ofLink then 1 else 0
    | .free => 0

/-- The Journal Controller has at most one request of the Message Link (R118), and one that it has is the
orphan's or the outstanding one's, whose reply is not composed yet; a reply in the transmitter is that of
the outstanding request, and there is at most one (R162). -/
def State.linkSafe (s : State) : Bool :=
  let replies := s.ml.tx.countP (fun f => !f.reject)
  replies ≤ s.ml.outstanding.toList.length
    && (s.jc.linkRequests == 0
      || (s.jc.linkRequests == 1
        && (s.ml.orphan || (s.ml.outstanding.isSome && replies == 0))))

/-- The start queue holds at most one request of each kind per pocket, a free slot in RUN has an empty
queue (R45, R46), and the write queue holds at most one request per pocket and at most one configuration or
service request (R118), by linkSafe. -/
def State.queuesSafe (s : State) : Bool :=
  decide s.ssa.queue.Nodup
    && (!s.inRun || s.ssa.slot.isSome || s.ssa.queue.isEmpty)
    && s.jc.queue.countP (·.ofPocket .U) ≤ 1 && s.jc.queue.countP (·.ofPocket .L) ≤ 1
    && s.linkSafe

end Sys2Proof.Machine
end

