-- ==== Sys2Proof/Certificates/Slice0/Obligations.lean ====
section
/-!
DEFINITION. Certificates/Slice0/Obligations.lean: the statements for the provers. What they say of
State.time and of a command's dt is the model's clock (log 4), and a timer is its expiry instant (log 5);
a clause about either is the model's, and so is every clause that names a log entry.
-/

open Sys2Proof Sys2Proof.Machine

/-- A step carries out the command at the front of the queue on the state with the rest of it; an empty
queue idles (the model's choice, log 7). -/
def Obligations.StepTakesTheFrontCommand : Prop :=
  (∀ (c : Instr) (rest : List Instr) (s : State),
    step { s with pending := c :: rest } = exec c { s with pending := rest })
  ∧ ∀ s : State, s.pending = [] → step s = .next s

/-- Every command ends in a next state, with the queue as it was and the time moved on by the command's
own time (the model's choice, logs 4 and 32). -/
def Obligations.EveryCommandAnswersNext : Prop :=
  ∀ (c : Instr) (s : State), ∃ t : State,
    exec c s = .next t ∧ t.pending = s.pending ∧ t.time = s.time + c.dt

/-- Right after reset: WAKE/QUALIFY as a cold start leaves it, every field of the working copy at its
default, an empty queue and an unwritten journal memory (logs 1, 2 and 3 say what the model chose). -/
def Obligations.ResetHoldsTheWakeValues : Prop :=
  wokenFrom { State.reset with bd := { State.reset.bd with valid := false } } State.reset
  ∧ State.reset.cfg.part = [200, 3, 8, 20, 160, 100, 120, 80, 60, 30, 0, 2, 2,
      40, 120, 220, 340, 480, 620, 760, 880, 980, 400, 300, 220, 160, 110, 70, 30, 0, -40]
  ∧ State.reset.cfg.inst = Pair.both
      [0, 30, 10, 3, 15, 5, 15, 1, 50, 200, 10, 50, 2, 1200, 190, 1, 14400, 0]
  ∧ State.reset.cfg.plan = [50, 300, 40, 7200, 3600, 120,
      256, 226, 200, 172, 150, 128, 112, 98, 86, 76, 67, 59, 52, 46, 41, 36]
  ∧ State.reset.pending = [] ∧ State.reset.journal = [] ∧ State.reset.storeCut = false

/-- VHU reaching code 100 in DARK, or the wake threshold in RESET with RST released, and RST released in
RESET with VHU at or above the wake threshold, enter WAKE with the wake values of every block: a warm
wake keeps the Backup Domain, a cold start sets it. DARK is left for RESET while RST is asserted, and
RESET stays RESET when RST is released with VHU below the wake threshold. The model's own choices in it:
the cycle-bound copies at the wake are those of the working copy as it stands (log 17), no PHASE_CHANGED
stands in the queue after it (log 27), and the comparisons of log 11 and the watch of log 18. -/
def Obligations.WakeAndResetAreEnteredByRule : Prop :=
  ((∀ (dt : Nat) (v : Byte) (s : State), s.ss.power = .dark → s.ss.atWake = false → 100 ≤ v.toNat →
     s.pins.rst = false →
     ∃ t, exec (.vhuReachesWake dt v) s = .next t ∧ t.time = s.time + dt ∧ t.pins = s.pins
       ∧ wokenFrom s t)
   ∧ (∀ (dt : Nat) (v : Byte) (s : State), s.ss.power = .reset → s.ss.atWake = false →
     s.cfg.wakeCode ≤ v.toNat → s.pins.rst = false →
     ∃ t, exec (.vhuReachesWake dt v) s = .next t ∧ t.time = s.time + dt ∧ t.pins = s.pins
       ∧ wokenFrom s t)
   ∧ ∀ (dt : Nat) (s : State), s.ss.power = .reset → s.pins.rst = true →
     s.cfg.wakeCode ≤ s.ss.vhu.toNat →
     ∃ t, exec (.rstRelease dt) s = .next t ∧ t.time = s.time + dt
       ∧ t.pins = { s.pins with rst := false } ∧ wokenFrom s t) ∧
  ((∀ (dt : Nat) (v : Byte) (s : State), s.ss.power = .dark → s.ss.atWake = false → 100 ≤ v.toNat →
     s.pins.rst = true →
     ∃ t, exec (.vhuReachesWake dt v) s = .next t ∧ t.ss.power = .reset ∧ t.cfg = s.cfg ∧ t.bd = s.bd
       ∧ t.journal = s.journal)
   ∧ ∀ (dt : Nat) (s : State), s.ss.power = .reset → s.pins.rst = true →
     s.ss.vhu.toNat < s.cfg.wakeCode →
     exec (.rstRelease dt) s
       = .next { s with time := s.time + dt, pins := { s.pins with rst := false } })

/-- STATUS replies with the twelve bytes that R169 names and changes nothing else. The codes 1 and 0 of the
lost flag are the model's choice (log 42). -/
def Obligations.StatusReportsThePart : Prop :=
  ∀ (dt : Nat) (tag : Byte) (s : State), s.listening →
    exec (.status dt tag) s = .next (s.answered dt 0x01#8 tag ⟨.ok,
      [1#8, s.ss.power.code, s.ss.power.stageCode, s.lm.line.code, s.lm.freq.code,
       bitIf s.ss.storeWeak 0 ||| bitIf s.ss.backupLost 1 ||| bitIf s.ss.configDefaulted 2
         ||| bitIf s.ss.journalFault.isSome 3,
       (match s.ss.journalFault with
        | none => 0#8
        | some (c, _) => c.code),
       (match s.ss.journalFault with
        | none => 0xFF#8
        | some (_, pl) => pl.code),
       (s.pocket .U).phase.code, (s.pocket .L).phase.code, byteNat s.ml.events.length,
       if s.ml.lost then 1#8 else 0#8]⟩)

/-- POCKET replies with the 55 bytes of 12.4, and changes nothing but the model's own counter of free
values. The bits of the flags, outputs and inputs bytes that 12.4 gives no meaning are 0, which is the
model's choice (log 39). The two temperature bytes carry the filtered temperature when it is valid; no
value is claimed for them when it is not (log 30). PLAN replies with the pocket and the state alone when
there is no plan, and otherwise with the 30 bytes of 12.4; it changes nothing. -/
def Obligations.PocketAndPlanRepliesReport : Prop :=
  (∀ (dt : Nat) (tag : Byte) (p : PocketId) (s : State), s.listening →
     ∃ (t : State) (x : Half), exec (.pocket dt tag (pocketByte p)) s = .next t
       ∧ (∀ th, (s.sense p).theta = some th → x = BitVec.ofInt 16 th)
       ∧ t = { s.answered dt 0x02#8 tag ⟨.ok,
           [pocketByte p, (s.pocket p).phase.code, (s.pocket p).run.target.code,
            (s.pocket p).run.coolExit.code, (s.pocket p).run.cause.code,
            bitIf ((s.pocket p).run.stage == .reduced) 0 ||| bitIf (s.pocket p).run.autoResume 1
              ||| bitIf (s.pocket p).run.reverse 2
              ||| bitIf ((s.pocket p).run.tref.epoch == s.bd.epoch) 3
              ||| bitIf ((s.pocket p).run.acStart.epoch == s.bd.epoch) 4]
           ++ le16Nat (s.pocket p).run.d ++ le16Nat (s.pocket p).run.t ++ le16Nat (s.pocket p).run.h
           ++ le16Nat (s.pocket p).run.c ++ le16Nat (s.pocket p).run.coolTarget
           ++ le16Int (s.pocket p).run.thetaX ++ le16Int (s.pocket p).run.thetaRef
           ++ le32Nat (s.pocket p).run.tref.clock
           ++ [(s.jc.rings.get p).condition.code]
           ++ (match (s.jc.rings.get p).newest with
               | none => [0xFF#8, 0#8, 0#8, 0#8, 0#8]
               | some (slot, seq) => [byteNat slot.val] ++ le32Nat seq)
           ++ le16Nat (s.pocket p).run.window ++ le32Nat (s.pocket p).run.acStart.clock
           ++ [byteNat (s.pocket p).run.burst] ++ le16Nat (s.pocket p).run.rest
           ++ [byteNat (s.pocket p).run.tries, byteNat (s.pocket p).run.trips,
               (s.pocket p).run.copies.heatKind.code, byteNat (s.pocket p).run.copies.purge,
               byteNat (s.pocket p).run.copies.trial, byteNat (s.pocket p).run.copies.tries]
           ++ le16Nat (s.pocket p).run.copies.cmax
           ++ [(s.pocket p).faults.byte,
               bitIf (s.heatPermit p) 0 ||| bitIf (s.pocket p).motorRun 1
                 ||| bitIf (s.pocket p).motorRev 2,
               bitIf (s.sense p).door.level 0 ||| bitIf (s.sense p).airflow.level 1
                 ||| bitIf (s.sense p).hilimit.level 2 ||| bitIf (s.sense p).heatFb.level 3
                 ||| bitIf (s.sense p).lastPulse.isSome 4 ||| bitIf (s.sense p).theta.isSome 5]
           ++ le16 (s.sense p).revs ++ le16 x ++ [s.ssa.slotCode p]⟩ with free := t.free }) ∧
  (∀ (dt : Nat) (tag : Byte) (p : PocketId) (s : State), s.listening →
     (s.rp.get p = none →
       exec (.plan dt tag (pocketByte p)) s
         = .next (s.answered dt 0x09#8 tag ⟨.ok, [pocketByte p, 0#8]⟩))
     ∧ ∀ pl, s.rp.get p = some pl →
       exec (.plan dt tag (pocketByte p)) s = .next (s.answered dt 0x09#8 tag ⟨.ok,
         [pocketByte p, if pl.applied then 2#8 else 1#8, pl.kind.code, pl.dest.code,
          pl.destTarget.code,
          bitIf pl.reasons.unknownOutage 0 ||| bitIf pl.reasons.longOutage 1
            ||| bitIf pl.reasons.doorInDark 2 ||| bitIf pl.reasons.staleRecord 3
            ||| bitIf pl.reasons.autoOff 4,
          if pl.figures.e.isSome then 1#8 else 0#8]
         ++ le32Nat (pl.figures.e.getD 0) ++ le16Nat pl.figures.f ++ le16Int pl.figures.thetaN
         ++ le16Nat pl.figures.delta ++ le16Nat pl.figures.r ++ le16Nat pl.figures.dPrime
         ++ le16Nat pl.figures.remaining ++ le16Nat pl.figures.seconds ++ le16Nat pl.cPrime
         ++ le16Nat pl.window ++ [byteNat pl.doorCount]⟩))

/-- EVENTS copies the oldest entries, at most eight, with the lost flag as it stands, and removes none;
the delivery of its reply removes those entries, and clears the lost flag when the reply reported it
set and no event has been discarded since; the delivery of any other reply removes nothing. A REJECT at
the head of the transmitter leaves it alone: the outstanding request stays (log 28), and with nothing to
send only the time changes. The codes 1 and 0 of the lost flag are the model's choice (log 42). -/
def Obligations.EventsAreRemovedAtDelivery : Prop :=
  (∀ (dt : Nat) (tag : Byte) (s : State), s.listening →
    exec (.events dt tag) s = .next
      { s with
        time := s.time + dt
        ml := { s.ml with
          rx := .idle
          outstanding := some ⟨0x0D#8, tag, some ⟨min 8 s.ml.events.length, s.ml.lost, false⟩⟩
          tx := s.ml.tx ++ [⟨false, replyFrame 0x0D#8 tag ⟨.ok,
            [byteNat (min 8 s.ml.events.length)]
              ++ (s.ml.events.take 8).flatMap (fun e =>
                  [e.kind.code, eventPocketByte e.pocket] ++ le16 e.time ++ le16 e.arg)
              ++ [if s.ml.lost then 1#8 else 0#8]⟩⟩] } })
  ∧ (∀ (dt : Nat) (s : State) (f : List Byte) (rest : List TxFrame) (kind tag : Byte)
      (ev : EventsReply), s.ss.power.working = true → s.ml.tx = ⟨false, f⟩ :: rest →
      s.ml.outstanding = some ⟨kind, tag, some ev⟩ →
      exec (.replyDelivered dt) s = .next
        { s with
          time := s.time + dt
          ml := { s.ml with
            tx := rest
            outstanding := none
            events := s.ml.events.drop ev.count
            lost := if ev.lost && !ev.discarded then false else s.ml.lost } })
  ∧ (∀ (dt : Nat) (s : State) (f : List Byte) (rest : List TxFrame) (kind tag : Byte),
      s.ss.power.working = true → s.ml.tx = ⟨false, f⟩ :: rest →
      s.ml.outstanding = some ⟨kind, tag, none⟩ →
      exec (.replyDelivered dt) s = .next
        { s with time := s.time + dt, ml := { s.ml with tx := rest, outstanding := none } })
  ∧ ∀ (dt : Nat) (s : State), s.ss.power.working = true →
      (∀ f rest, s.ml.tx = ⟨true, f⟩ :: rest →
        exec (.replyDelivered dt) s = .next
          { s with time := s.time + dt, ml := { s.ml with tx := rest } })
      ∧ (s.ml.tx = [] → exec (.replyDelivered dt) s = .next { s with time := s.time + dt })

/-- CONFIG_READ answers BAD_ARG for an unknown group or field, and otherwise the field's value; it
changes nothing. -/
def Obligations.ConfigReadReadsOneField : Prop :=
  ∀ (dt : Nat) (tag g f : Byte) (s : State), s.listening →
    let count := match g.toNat with
      | 1 => 31
      | 2 | 3 => 18
      | 4 => 22
      | _ => 0
    let values := match g.toNat with
      | 1 => s.cfg.part
      | 2 => s.cfg.inst.u
      | 3 => s.cfg.inst.l
      | _ => s.cfg.plan
    exec (.configRead dt tag g f) s = .next (s.answered dt 0x0E#8 tag
      (if f.toNat < count then ⟨.ok, le16Int (values.getD f.toNat 0)⟩ else ⟨.badArg, []⟩))

/-- CONFIG_WRITE in RUN, by R173: BAD_ARG for an unknown field, an undefined member or class, with nothing
changed; otherwise the value clamped into its range of 11.1, or to a choice, stands in the field, the
tables are normalised by R174 and the thresholds put in R98's order, the reply carries the value held, and
is CLAMPED when any of this changed a value. Nothing but the working copy changes and the remembered
comparisons of VHU with the thresholds, made afresh with the code that stands (R98, log 11). That it
changes nothing else is the model's choice where the write makes an expiry due at once (R32, R36): the
model takes that expiry in a step of its own (log 35). -/
def Obligations.ConfigWriteWritesOneField : Prop :=
  (∀ (dt : Nat) (tag g f : Byte) (v : Half) (s : State), s.serving →
    let n : Int := v.toNat
    let clamp (lo hi x : Int) : Option Int := some (max lo (min hi x))
    let choose (cs : List Int) : Option Int :=
      some ((cs.find? (fun c => decide (n ≤ c))).getD (cs.getLastD 0))
    let member (count : Int) : Option Int := if n < count then some n else none
    let asked : Int :=
      if g = 1#8 ∧ 22 ≤ f.toNat ∨ (g = 2#8 ∨ g = 3#8) ∧ f = 14#8 ∨ g = 4#8 ∧ f = 0#8 then v.toInt else n
    let taken : Option Int := match g.toNat with
      | 1 => (match f.toNat with
        | 0 => choose [50, 100, 200, 400]
        | 1 => clamp 1 8 n
        | 2 => clamp 1 32 n
        | 3 => clamp 1 64 n
        | 4 => clamp 0 255 n
        | 5 => clamp 80 200 n
        | 6 => clamp 80 250 n
        | 7 => clamp 50 200 n
        | 8 => clamp 40 150 n
        | 9 => clamp 10 300 n
        | 10 => member 128
        | 11 | 12 => clamp 1 5 n
        | k => if k ≤ 21 then clamp 0 1023 n else if k ≤ 30 then clamp (-40) 400 asked else none)
      | 2 | 3 => (match f.toNat with
        | 0 => member 2
        | 1 => clamp 0 120 n
        | 2 => clamp 4 15 n
        | 3 => clamp 1 3 n
        | 4 => clamp 5 60 n
        | 5 => clamp 2 10 n
        | 6 => clamp 5 30 n
        | 7 => clamp 1 8 n
        | 8 | 9 | 10 | 11 => choose [2, 10, 50, 200]
        | 12 => choose [1, 2, 5, 10]
        | 13 => clamp 300 3600 n
        | 14 => clamp 0 400 asked
        | 15 | 17 => member 3
        | 16 => clamp 60 65535 n
        | _ => none)
      | 4 => (match f.toNat with
        | 0 => clamp (-40) 100 asked
        | 1 => clamp 60 1800 n
        | 2 => clamp 0 255 n
        | 3 => clamp 0 57600 n
        | 4 => clamp 0 14400 n
        | 5 => clamp 0 600 n
        | k => if k ≤ 21 then clamp 0 256 n else none)
      | _ => none
    (taken = none → exec (.configWrite dt tag g f v) s = .next (s.answered dt 0x0F#8 tag ⟨.badArg, []⟩))
    ∧ ∀ x, taken = some x →
      let placed := s.cfg.setField g.toNat f.toNat x
      let settled := placed.settle g.toNat f.toNat
      exec (.configWrite dt tag g f v) s = .next
        { s.answered dt 0x0F#8 tag
            ⟨if x = asked ∧ settled = placed then .ok else .clamped,
              le16Int (settled.field g.toNat f.toNat)⟩ with
          cfg := settled
          ss := { s.ss with
            atWake := s.ss.atWake && settled.wakeCode ≤ s.ss.vhu.toNat
            atFloor := s.ss.atFloor || settled.writeFloor ≤ s.ss.vhu.toNat
            atDark := s.ss.atDark || settled.darkCode ≤ s.ss.vhu.toNat } }) ∧
  (∀ (c : WorkingCopy) (g f : Nat), shaped c = true →
    let w := c.settle g f
    let up (i : Nat) : Int := (upwardPass c.breakCodes).getD i 0
    (g = 4 → 6 ≤ f → w = { c with plan := w.plan } ∧ w.plan.length = 22
      ∧ (∀ i < 7, w.plan.getD i 0 = c.plan.getD i 0)
      ∧ ∀ i < 15, w.plan.getD (7 + i) 0 = min (c.plan.getD (7 + i) 0) (w.plan.getD (6 + i) 0))
    ∧ (g = 1 → 13 ≤ f → w = { c with part := w.part } ∧ w.part.length = 31
      ∧ (∀ i < 31, i < 13 ∨ 22 ≤ i → w.part.getD i 0 = c.part.getD i 0)
      ∧ up 0 = c.part.getD 13 0
      ∧ (∀ i < 8, up (i + 1) = (if c.part.getD (14 + i) 0 ≤ up i then min 1023 (up i + 1)
          else c.part.getD (14 + i) 0))
      ∧ w.part.getD 21 0 = up 8
      ∧ ∀ i < 8, w.part.getD (13 + i) 0 = (if w.part.getD (14 + i) 0 ≤ up i then
          w.part.getD (14 + i) 0 - 1 else up i))
    ∧ (g = 1 → 5 ≤ f → f ≤ 8 → w = { c with part := w.part } ∧ w.part.length = 31
      ∧ (∀ i < 31, i < 5 ∨ 8 ≤ i → w.part.getD i 0 = c.part.getD i 0)
      ∧ w.part.getD 7 0 = max (c.part.getD 7 0) (c.part.getD 8 0 + 1)
      ∧ w.part.getD 5 0 = max (c.part.getD 5 0) (w.part.getD 7 0)
      ∧ w.part.getD 6 0 = max (c.part.getD 6 0) (w.part.getD 5 0))
    ∧ (¬ (g = 4 ∧ 6 ≤ f) → ¬ (g = 1 ∧ 13 ≤ f) → ¬ (g = 1 ∧ 5 ≤ f ∧ f ≤ 8) → w = c))

/-- A CONFIG_STORE and a JOURNAL_READ taken in RUN without an orphan join the write queue at the instant
of their arrival and owe their reply; with an orphan they are answered BUSY. A pocket's request joins
with the instant of its arrival; with one of its pocket queued, that entry keeps its place and its age
and takes the arriving kind unless its own is of a higher priority, LOSS above START, PHASE and RESUME
above PERIODIC (R116, R118). -/
def Obligations.BusRequestsJoinTheWriteQueue : Prop :=
  (∀ (dt : Nat) (tag : Byte) (p : PocketId) (i : Fin 124) (s : State), s.serving →
    (s.ml.orphan = false →
      exec (.configStore dt tag) s = .next
        { s with
          time := s.time + dt
          jc := { s.jc with queue := s.jc.queue ++ [⟨.store, s.time + dt⟩] }
          ml := { s.ml with rx := .idle, outstanding := some ⟨0x10#8, tag, none⟩ } }
      ∧ exec (.journalRead dt tag (pocketByte p) (byteNat i.val)) s = .next
        { s with
          time := s.time + dt
          jc := { s.jc with queue := s.jc.queue ++ [⟨.read p i, s.time + dt⟩] }
          ml := { s.ml with rx := .idle, outstanding := some ⟨0x11#8, tag, none⟩ } })
    ∧ (s.ml.orphan = true →
      exec (.configStore dt tag) s = .next (s.answered dt 0x10#8 tag ⟨.busy, []⟩)
      ∧ exec (.journalRead dt tag (pocketByte p) (byteNat i.val)) s
        = .next (s.answered dt 0x11#8 tag ⟨.busy, []⟩))) ∧
  (∀ (queue : List WriteRequest) (p : PocketId) (kind : RecordKind) (now : Nat),
     let rank : RecordKind → Nat
       | .loss => 1
       | .start | .phase | .resume => 2
       | .periodic => 3
     ((∀ w ∈ queue, ∀ k, w.what ≠ .checkpoint p k) →
       enqueue queue p kind now = queue ++ [⟨.checkpoint p kind, now⟩])
     ∧ ((∃ w ∈ queue, w.ofPocket p = true) →
       enqueue queue p kind now = queue.map fun w =>
         match w.what with
         | .checkpoint q old =>
           if q = p then
             { what := .checkpoint p (if rank kind ≤ rank old then kind else old), age := w.age }
           else w
         | .store | .read _ _ => w))

/-- A request that fails its tests is answered and changes nothing else. A clean frame whose payload has
not the length of its kind is BAD_ARG (R165). In WAKE, RUN and HOLD_UP a pocket-changing request, POCKET
and PLAN that name no pocket, and a CLEAR whose selector names none of the three, are BAD_ARG (R7's
order, log 15). In WAKE and HOLD_UP a pocket-changing request of a pocket, and every CONFIG_WRITE,
CONFIG_STORE and JOURNAL_READ, are NOT_READY. In RUN a request that fails its phase test is BUSY for
START_CYCLE and WRONG_PHASE for the others, by the phase tests of R8, R24 to R28, R156 and R157; past it,
an undefined stage, reverse or auto-resume is BAD_ARG; and a JOURNAL_READ that finds no orphan and names
no pocket or no slot is BAD_ARG. -/
def Obligations.RefusedRequestsChangeNothing : Prop :=
  (∀ (dt : Nat) (tag kind : Byte) (payload : List Byte) (s : State), s.listening →
     payload.length ≤ 60 → 1 ≤ kind.toNat → kind.toNat ≤ 0x11 →
     payload.length ≠ [0, 1, 15, 3, 2, 1, 1, 1, 1, 1, 1, 1, 0, 2, 4, 0, 2].getD (kind.toNat - 1) 0 →
     exec (.frameReceived dt (cleanFrame kind tag payload)) s
       = .next (s.answered dt kind tag ⟨.badArg, []⟩)) ∧
  (∀ (dt : Nat) (tag b : Byte) (s : State), s.listening → 2 ≤ b.toNat →
     let badArg (kind : Byte) : Host.Outcome State Fault Refusal :=
       .next (s.answered dt kind tag ⟨.badArg, []⟩)
     exec (.pocket dt tag b) s = badArg 0x02#8
     ∧ (∀ t stage c x w d rt rev auto,
       exec (.startCycle dt tag b t stage c x w d rt rev auto) s = badArg 0x03#8)
     ∧ (∀ amount, exec (.extend dt tag b amount) s = badArg 0x04#8)
     ∧ (∀ stage, exec (.setStage dt tag b stage) s = badArg 0x05#8)
     ∧ exec (.endHeat dt tag b) s = badArg 0x06#8
     ∧ exec (.stop dt tag b) s = badArg 0x07#8
     ∧ exec (.continueCycle dt tag b) s = badArg 0x08#8
     ∧ exec (.plan dt tag b) s = badArg 0x09#8
     ∧ exec (.confirm dt tag b) s = badArg 0x0A#8
     ∧ exec (.decline dt tag b) s = badArg 0x0B#8
     ∧ (3 ≤ b.toNat → exec (.clearPocket dt tag b) s = badArg 0x0C#8)) ∧
  (∀ (dt : Nat) (tag : Byte) (p : PocketId) (s : State), s.listening → s.ss.power ≠ .run →
     let notReady (kind : Byte) : Host.Outcome State Fault Refusal :=
       .next (s.answered dt kind tag ⟨.notReady, []⟩)
     (∀ t stage c x w b rt rev auto,
       exec (.startCycle dt tag (pocketByte p) t stage c x w b rt rev auto) s = notReady 0x03#8)
     ∧ (∀ amount, exec (.extend dt tag (pocketByte p) amount) s = notReady 0x04#8)
     ∧ (∀ stage, exec (.setStage dt tag (pocketByte p) stage) s = notReady 0x05#8)
     ∧ exec (.endHeat dt tag (pocketByte p)) s = notReady 0x06#8
     ∧ exec (.stop dt tag (pocketByte p)) s = notReady 0x07#8
     ∧ exec (.continueCycle dt tag (pocketByte p)) s = notReady 0x08#8
     ∧ exec (.confirm dt tag (pocketByte p)) s = notReady 0x0A#8
     ∧ exec (.decline dt tag (pocketByte p)) s = notReady 0x0B#8
     ∧ exec (.clearPocket dt tag (pocketByte p)) s = notReady 0x0C#8
     ∧ (∀ g f v, exec (.configWrite dt tag g f v) s = notReady 0x0F#8)
     ∧ exec (.configStore dt tag) s = notReady 0x10#8
     ∧ (∀ q slot, exec (.journalRead dt tag q slot) s = notReady 0x11#8)) ∧
  (∀ (dt : Nat) (tag : Byte) (p : PocketId) (s : State), s.serving →
     let k := s.pocket p
     let wrong (kind : Byte) : Host.Outcome State Fault Refusal :=
       .next (s.answered dt kind tag ⟨.wrongPhase, []⟩)
     (k.phase ≠ .idle → k.phase ≠ .done → ∀ t stage c x w b rt rev auto,
       exec (.startCycle dt tag (pocketByte p) t stage c x w b rt rev auto) s
         = .next (s.answered dt 0x03#8 tag ⟨.busy, []⟩))
     ∧ (k.phase ∈ [.idle, .acRest, .acBurst, .done, .faultHold]
         ∨ (k.phase = .paused ∧ k.run.target ≠ .heat)
         ∨ (k.phase = .cool ∧ k.run.cause ≠ .target ∧ k.run.cause ≠ .appEnd) →
       ∀ amount, exec (.extend dt tag (pocketByte p) amount) s = wrong 0x04#8)
     ∧ (k.phase ∈ [.idle, .done, .held] →
       ∀ stage, exec (.setStage dt tag (pocketByte p) stage) s = wrong 0x05#8)
     ∧ (k.phase ∉ [.startWait, .spinup, .purge, .ignition, .heat, .heatWait] ∨ k.run.target ≠ .heat →
       exec (.endHeat dt tag (pocketByte p)) s = wrong 0x06#8)
     ∧ (k.phase ∈ [.idle, .done, .faultHold] →
       exec (.stop dt tag (pocketByte p)) s = wrong 0x07#8)
     ∧ (k.phase ≠ .paused ∨ (s.sense p).door.level = false →
       exec (.continueCycle dt tag (pocketByte p)) s = wrong 0x08#8)
     ∧ (k.phase ≠ .held → exec (.confirm dt tag (pocketByte p)) s = wrong 0x0A#8
       ∧ exec (.decline dt tag (pocketByte p)) s = wrong 0x0B#8)
     ∧ (k.phase = .idle ∨ k.phase = .done → ∀ t stage c x w b rt rev auto,
       2 ≤ stage.toNat ∨ 2 ≤ rev.toNat ∨ 2 ≤ auto.toNat →
       exec (.startCycle dt tag (pocketByte p) t stage c x w b rt rev auto) s
         = .next (s.answered dt 0x03#8 tag ⟨.badArg, []⟩))
     ∧ (k.phase ∉ [.idle, .done, .held] → ∀ stage, 2 ≤ stage.toNat →
       exec (.setStage dt tag (pocketByte p) stage) s
         = .next (s.answered dt 0x05#8 tag ⟨.badArg, []⟩))
     ∧ (s.ml.orphan = false → ∀ q slot, 2 ≤ q.toNat ∨ 124 ≤ slot.toNat →
       exec (.journalRead dt tag q slot) s
         = .next (s.answered dt 0x11#8 tag ⟨.badArg, []⟩)))

/-- CLEAR for a pocket empties its sticky faults; FAULT_HOLD goes to IDLE with a PHASE request; in any
other phase (the model's reading, log 16) a cool exit of FAULT_HOLD becomes DONE; the rest of the run
record stays. CLEAR naming the
part empties the four part faults, is answered OK in WAKE, RUN and HOLD_UP, and changes nothing else. -/
def Obligations.ClearEmptiesFaults : Prop :=
  (∀ (dt : Nat) (tag : Byte) (p : PocketId) (s : State), s.serving → s.slotServed →
     ∃ t, exec (.clearPocket dt tag (pocketByte p)) s = .next t
       ∧ t.time = s.time + dt ∧ answers s t 0x0C#8 tag ⟨.ok, []⟩ ∧ actsOnPocket p s t
       ∧ (t.pocket p).faults = ⟨false, false, false, false, false, false⟩
       ∧ ((s.pocket p).phase = .faultHold →
           (t.pocket p).phase = .idle ∧ (t.pocket p).run = (s.pocket p).run
           ∧ t.jc.queue = enqueue s.jc.queue p .phase t.time)
       ∧ ((s.pocket p).phase ≠ .faultHold →
           (t.pocket p).phase = (s.pocket p).phase ∧ t.jc.queue = s.jc.queue ∧ t.ssa = s.ssa
           ∧ (t.pocket p).run = { (s.pocket p).run with
               coolExit := if (s.pocket p).run.coolExit = .faultHold then .done
                 else (s.pocket p).run.coolExit })) ∧
  (∀ (dt : Nat) (tag : Byte) (s : State), s.listening →
     exec (.clearPart dt tag) s = .next
       { s.answered dt 0x0C#8 tag ⟨.ok, []⟩ with
         ss := { s.ss with
           storeWeak := false, backupLost := false, configDefaulted := false, journalFault := none } })

/-- START_CYCLE in IDLE or DONE with defined choices: the run record is cleared and takes the clamped
arguments, the sticky faults stay, the pocket enters START_WAIT (and leaves it at once for SPINUP where
the door is closed and the line NORMAL), a START request is posted, and the reply returns the values
taken with UNPROTECTED. -/
def Obligations.StartCycleBeginsACycle : Prop :=
  ∀ (dt : Nat) (tag : Byte) (p : PocketId) (T C x W Rt : Half) (B : Byte) (stage rev auto : Bool)
    (s : State), s.serving → (s.pocket p).phase = .idle ∨ (s.pocket p).phase = .done →
    let t' := max 240 (min 57600 T.toNat)
    let c' := min 3600 C.toNat
    let x' := max (-40) (min 400 x.toInt)
    let w' := min 10800 W.toNat
    let b' := max 1 (min 40 B.toNat)
    let rt' := max 30 (min 600 Rt.toNat)
    ∃ t, exec (.startCycle dt tag (pocketByte p) T (if stage then 1 else 0) C x W B Rt
          (if rev then 1 else 0) (if auto then 1 else 0)) s = .next t
      ∧ t.time = s.time + dt ∧ actsOnPocket p s t
      ∧ answers s t 0x03#8 tag
          ⟨if t' = T.toNat ∧ c' = C.toNat ∧ x' = x.toInt ∧ w' = W.toNat ∧ b' = B.toNat
              ∧ rt' = Rt.toNat then .ok else .clamped,
            [pocketByte p] ++ le16Nat t' ++ [if stage then 1 else 0] ++ le16Nat c' ++ le16Int x'
              ++ le16Nat w' ++ [byteNat b'] ++ le16Nat rt'
              ++ [if rev then 1 else 0, if auto then 1 else 0,
                  if s.ss.journalFault.isSome then 1 else 0]⟩
      ∧ (t.pocket p).run =
          { target := .heat, coolExit := if 0 < w' then .antiCrease else .done, cause := .none,
            d := 0, t := t', stage := if stage then .reduced else .full, autoResume := auto,
            reverse := rev, h := 0, c := 0, coolTarget := c', thetaX := x', thetaRef := 0,
            tref := ⟨0, s.bd.epoch⟩, window := w', acStart := ⟨0, s.bd.epoch⟩, burst := b',
            rest := rt', tries := 0, trips := 0, copies := s.cfg.copies p }
      ∧ (t.pocket p).faults = (s.pocket p).faults
      ∧ (t.pocket p).phase
          = (if (s.sense p).door.level ∧ s.lm.line = .normal then .spinup else .startWait)
      ∧ (t.pocket p).timers.second = some (t.time + 1000000)
      ∧ (t.pocket p).timers.periodic = some (t.time + s.cfg.period * 1000000)
      ∧ (t.pocket p).lastBurstReverse = false
      ∧ t.jc.queue = enqueue s.jc.queue p .start t.time

/-- EXTEND raises T by the clamped amount, clamped to 57,600, and leaves D; in every accepted phase but
COOL and HELD only T changes; in HELD the plan's remaining credit and estimated seconds follow. EXTEND
in COOL after TARGET or APP_END that raises T sends the pocket back to heat: target HEAT, no cause, c, D
and the cool exit kept; to PURGE for a gas pocket with a purge time, otherwise to IGNITION (here with
SENSOR clear and the interlock set holding, R68, R80). -/
def Obligations.ExtendRaisesTheTarget : Prop :=
  (∀ (dt : Nat) (tag : Byte) (p : PocketId) (amount : Half) (s : State), s.serving → s.slotServed →
     let k := s.pocket p
     let taken := max 1 (min 57600 amount.toNat)
     let t' := min 57600 (k.run.t + taken)
     let reply : Reply :=
       ⟨if taken = amount.toNat ∧ t' = k.run.t + taken then .ok else .clamped, le16Nat t'⟩
     (k.phase ∈ [.startWait, .spinup, .purge, .ignition, .heat, .heatWait]
         ∨ (k.phase = .paused ∧ k.run.target = .heat) →
       exec (.extend dt tag (pocketByte p) amount) s = .next
         { s.answered dt 0x04#8 tag reply with
           psq := s.psq.set p { k with run := { k.run with t := t' } } })
     ∧ (k.phase = .held →
       exec (.extend dt tag (pocketByte p) amount) s = .next
         { s.answered dt 0x04#8 tag reply with
           psq := s.psq.set p { k with run := { k.run with t := t' } }
           rp := s.rp.set p ((s.rp.get p).map fun pl => { pl with figures :=
             { pl.figures with
               remaining := t' - pl.figures.dPrime
               seconds := (t' - pl.figures.dPrime + 3) / 4 } }) })
     ∧ (k.phase = .cool → k.run.cause = .target ∨ k.run.cause = .appEnd → k.run.t = t' →
       exec (.extend dt tag (pocketByte p) amount) s = .next (s.answered dt 0x04#8 tag reply))) ∧
  (∀ (dt : Nat) (tag : Byte) (p : PocketId) (amount : Half) (s : State), s.serving →
     (s.pocket p).phase = .cool →
     (s.pocket p).run.cause = .target ∨ (s.pocket p).run.cause = .appEnd →
     (s.pocket p).run.t < min 57600 ((s.pocket p).run.t + max 1 (min 57600 amount.toNat)) →
     (s.pocket p).faults.sensor = false → s.interlock p = true →
     let taken := max 1 (min 57600 amount.toNat)
     let t' := min 57600 ((s.pocket p).run.t + taken)
     ∃ t, exec (.extend dt tag (pocketByte p) amount) s = .next t ∧ actsOnPocket p s t
       ∧ answers s t 0x04#8 tag
           ⟨if taken = amount.toNat ∧ t' = (s.pocket p).run.t + taken then .ok else .clamped,
             le16Nat t'⟩
       ∧ (t.pocket p).run = { (s.pocket p).run with
           t := min 57600 ((s.pocket p).run.t + max 1 (min 57600 amount.toNat))
           target := .heat, cause := .none }
       ∧ (t.pocket p).phase
           = (if (s.pocket p).run.copies.heatKind = .gas ∧ 0 < (s.pocket p).run.copies.purge
               then .purge else .ignition)
       ∧ (t.pocket p).motorRun = (s.pocket p).motorRun
       ∧ t.jc.queue = s.jc.queue)

/-- SET_STAGE writes the stage into the run record and changes nothing else. -/
def Obligations.SetStageWritesTheStage : Prop :=
  ∀ (dt : Nat) (tag : Byte) (p : PocketId) (reduced : Bool) (s : State), s.serving → s.slotServed →
    (s.pocket p).phase ∉ [.idle, .done, .held] →
    exec (.setStage dt tag (pocketByte p) (if reduced then 1 else 0)) s = .next
      { s.answered dt 0x05#8 tag ⟨.ok, []⟩ with
        psq := s.psq.set p { s.pocket p with
          run := { (s.pocket p).run with stage := if reduced then .reduced else .full } } }

/-- END_HEAT ends heat with cause APP_END: target COOL, c 0, the cool exit unchanged; PURGE to HEAT_WAIT
enter COOL at once with a PHASE request; START_WAIT and SPINUP keep their phase; HEAT_ENDED is posted
where its class is not masked and the queue has room. -/
def Obligations.EndHeatEndsHeat : Prop :=
  ∀ (dt : Nat) (tag : Byte) (p : PocketId) (s : State), s.serving → (s.pocket p).run.target = .heat →
    (s.pocket p).phase ∈ [.startWait, .spinup, .purge, .ignition, .heat, .heatWait] →
    ∃ t, exec (.endHeat dt tag (pocketByte p)) s = .next t
      ∧ t.time = s.time + dt ∧ answers s t 0x06#8 tag ⟨.ok, []⟩ ∧ actsOnPocket p s t
      ∧ (t.pocket p).run
          = { (s.pocket p).run with cause := .appEnd, target := .cool, c := 0 }
      ∧ (t.pocket p).faults = (s.pocket p).faults
      ∧ (if (s.pocket p).phase ∈ [.startWait, .spinup] then
          (t.pocket p).phase = (s.pocket p).phase ∧ t.jc.queue = s.jc.queue
        else
          (t.pocket p).phase = .cool ∧ (t.pocket p).motorRun = (s.pocket p).motorRun
          ∧ t.jc.queue = enqueue s.jc.queue p .phase t.time)
      ∧ (s.cfg.classMask = 0 → s.ml.events.length ≤ 14 →
          ⟨.heatEnded, some p, half s.bd.clock, 2#16⟩ ∈ t.ml.events)

/-- STOP, row by row of the table of R28. -/
def Obligations.StopActsByPhase : Prop :=
  ∀ (dt : Nat) (tag : Byte) (p : PocketId) (s : State), s.serving → s.slotServed →
    let k := s.pocket p
    (k.phase ∈ [.idle, .done, .faultHold] →
      exec (.stop dt tag (pocketByte p)) s = .next (s.answered dt 0x07#8 tag ⟨.wrongPhase, []⟩))
    ∧ (k.phase ∉ [.idle, .done, .faultHold, .recovering] →
      ∃ t, exec (.stop dt tag (pocketByte p)) s = .next t ∧ answers s t 0x07#8 tag ⟨.ok, []⟩
        ∧ keepsWorld s t ∧ keepsOther p s t
        ∧ (k.phase ∈ [.startWait, .spinup] → k.run.h = 0 → k.run.d = 0 →
            (t.pocket p).phase = .idle ∧ (t.pocket p).run = k.run)
        ∧ (k.phase ∈ [.startWait, .spinup] → 0 < k.run.h ∨ 0 < k.run.d →
            (t.pocket p).phase = k.phase
            ∧ (k.run.target = .heat → (t.pocket p).run = { k.run with
                cause := .stop, target := .cool, c := 0, coolExit := .done })
            ∧ (k.run.target = .cool → (t.pocket p).run = { k.run with
                cause := .stop, coolExit := .done }))
        ∧ (k.phase ∈ [.purge, .ignition, .heat, .heatWait] →
            (t.pocket p).phase = .cool ∧ (t.pocket p).run = { k.run with
              cause := .stop, target := .cool, c := 0, coolExit := .done })
        ∧ (k.phase = .cool → (t.pocket p).phase = .cool
            ∧ (t.pocket p).run = { k.run with cause := .stop, coolExit := .done })
        ∧ (k.phase ∈ [.acRest, .acBurst, .paused] →
            (t.pocket p).phase = .done ∧ (t.pocket p).run = k.run
            ∧ (t.pocket p).motorRun = false)
        ∧ (k.phase = .held → ∃ u, exec (.decline dt tag (pocketByte p)) s = .next u
            ∧ { t with ml := u.ml } = u ∧ t.ml.events = u.ml.events))

/-- CONTINUE in PAUSED with the door closed applies a plan computed from the live run record: with target
HEAT a RESUME_HEAT without hold reasons that takes D to D'; otherwise the cool decision, whose
RESUME_COOL takes c to c' and whose SKIP leads to the cool exit. -/
def Obligations.ContinueAppliesALivePlan : Prop :=
  ∀ (dt : Nat) (tag : Byte) (p : PocketId) (s : State), s.serving →
    (s.pocket p).phase = .paused → (s.sense p).door.level = true →
    let r := (s.pocket p).run
    let fig := liveFigures s.cfg s.bd (s.sense p) (s.pocket p)
    ∃ t pl, exec (.continueCycle dt tag (pocketByte p)) s = .next t
      ∧ answers s t 0x08#8 tag ⟨.ok, []⟩ ∧ keepsWorld s t ∧ keepsOther p s t
      ∧ (t.pocket p).faults = (s.pocket p).faults
      ∧ t.jc.queue = enqueue s.jc.queue p .resume t.time
      ∧ t.rp.get p = some pl ∧ t.rp.get p.other = s.rp.get p.other
      ∧ pl.applied = true ∧ pl.figures = fig ∧ pl.reasons = ⟨false, false, false, false, false⟩
      ∧ (r.target = .heat → pl.kind = .resumeHeat
          ∧ (t.pocket p).run = { r with d := r.d - min r.d fig.r }
          ∧ (t.pocket p).phase = (if s.lm.line = .normal then .spinup else .startWait)
          ∧ (t.pocket p).frozen = false)
      ∧ (r.target ≠ .heat → r.thetaX < fig.thetaN → pl.kind = .resumeCool
          ∧ (t.pocket p).run
              = { r with target := .cool, c := min r.c (r.coolTarget - s.cfg.cmin) }
          ∧ (t.pocket p).phase = (if s.lm.line = .normal then .spinup else .startWait)
          ∧ (t.pocket p).frozen = false)
      ∧ (r.target ≠ .heat → fig.thetaN ≤ r.thetaX → pl.kind = .skipToAntiCrease
          ∧ (r.coolExit = .antiCrease → 0 < r.window → (t.pocket p).phase = .acRest
              ∧ (t.pocket p).run
                  = { r with target := .antiCrease, acStart := ⟨s.bd.clock, s.bd.epoch⟩ })
          ∧ (r.coolExit = .done ∨ (r.coolExit = .antiCrease ∧ r.window = 0) →
              (t.pocket p).phase = .done ∧ (t.pocket p).run = r)
          ∧ (r.coolExit = .faultHold → (t.pocket p).phase = .faultHold ∧ (t.pocket p).run = r))

/-- CONFIRM in HELD recomputes the figures from the live run record and applies RESUME_HEAT at once,
whatever reasons hold: D becomes D', target HEAT, the pair released, START_WAIT (or SPINUP at once with
the door closed and the line NORMAL), a RESUME request. DECLINE in HELD: a load at or below θX finishes
in DONE with a PHASE request; a warmer one takes the act of ending heat with cause STOP, c becomes C -
Cmin, and it enters START_WAIT with target COOL and a RESUME request. D is unchanged. -/
def Obligations.HeldPlansAreDecided : Prop :=
  (∀ (dt : Nat) (tag : Byte) (p : PocketId) (s : State), s.serving → (s.pocket p).phase = .held →
     let r := (s.pocket p).run
     let fig := liveFigures s.cfg s.bd (s.sense p) (s.pocket p)
     ∃ t pl, exec (.confirm dt tag (pocketByte p)) s = .next t
       ∧ answers s t 0x0A#8 tag ⟨.ok, []⟩ ∧ keepsWorld s t ∧ keepsOther p s t
       ∧ t.rp.get p = some pl ∧ t.rp.get p.other = s.rp.get p.other
       ∧ pl.applied = true ∧ pl.kind = .resumeHeat ∧ pl.figures = fig
       ∧ (t.pocket p).run = { r with d := r.d - min r.d fig.r, target := .heat }
       ∧ (t.pocket p).faults = (s.pocket p).faults
       ∧ (t.pocket p).phase
           = (if (s.sense p).door.level ∧ s.lm.line = .normal then .spinup else .startWait)
       ∧ (t.pocket p).frozen = false
       ∧ t.jc.queue = enqueue s.jc.queue p .resume t.time) ∧
  (∀ (dt : Nat) (tag : Byte) (p : PocketId) (s : State), s.serving → (s.pocket p).phase = .held →
     let r := (s.pocket p).run
     let fig := liveFigures s.cfg s.bd (s.sense p) (s.pocket p)
     ∃ t pl, exec (.decline dt tag (pocketByte p)) s = .next t
       ∧ answers s t 0x0B#8 tag ⟨.ok, []⟩ ∧ keepsWorld s t ∧ keepsOther p s t
       ∧ t.rp.get p = some pl ∧ t.rp.get p.other = s.rp.get p.other
       ∧ pl.applied = true ∧ pl.figures = fig ∧ (t.pocket p).faults = (s.pocket p).faults
       ∧ (fig.thetaN ≤ r.thetaX → pl.kind = .finish ∧ (t.pocket p).phase = .done
           ∧ (t.pocket p).run = r ∧ t.jc.queue = enqueue s.jc.queue p .phase t.time)
       ∧ (r.thetaX < fig.thetaN → pl.kind = .resumeCool
           ∧ (t.pocket p).run = { r with
               cause := .stop, target := .cool, coolExit := .done
               c := r.coolTarget - s.cfg.cmin }
           ∧ (t.pocket p).phase
               = (if (s.sense p).door.level ∧ s.lm.line = .normal then .spinup else .startWait)
           ∧ (t.pocket p).frozen = false
           ∧ t.jc.queue = enqueue s.jc.queue p .resume t.time))

/-- A clean frame of a request, its bytes as the table of 12.2 lays them out with the check of R177 after
them, does to every state exactly what the request's own command does. The frames that wait in
the transmitter go out as characters of the same form, in their order: each carries its byte without an
error, and the mark on the first character of a frame alone (R158); nothing goes out in RESET and DARK. -/
def Obligations.CleanFramesAreTheirRequests : Prop :=
  (∀ (dt : Nat) (tag : Byte) (s : State),
    let frame (kind : Byte) (payload : List Byte) := exec (.frameReceived dt (cleanFrame kind tag payload)) s
    frame 0x01#8 [] = exec (.status dt tag) s
    ∧ (∀ p, frame 0x02#8 [p] = exec (.pocket dt tag p) s)
    ∧ (∀ p (t : Half) stage (c x w : Half) b (rt : Half) rev auto,
        frame 0x03#8 [p, t.extractLsb' 0 8, t.extractLsb' 8 8, stage, c.extractLsb' 0 8,
            c.extractLsb' 8 8, x.extractLsb' 0 8, x.extractLsb' 8 8, w.extractLsb' 0 8,
            w.extractLsb' 8 8, b, rt.extractLsb' 0 8, rt.extractLsb' 8 8, rev, auto]
          = exec (.startCycle dt tag p t stage c x w b rt rev auto) s)
    ∧ (∀ p (a : Half), frame 0x04#8 [p, a.extractLsb' 0 8, a.extractLsb' 8 8]
        = exec (.extend dt tag p a) s)
    ∧ (∀ p st, frame 0x05#8 [p, st] = exec (.setStage dt tag p st) s)
    ∧ (∀ p, frame 0x06#8 [p] = exec (.endHeat dt tag p) s)
    ∧ (∀ p, frame 0x07#8 [p] = exec (.stop dt tag p) s)
    ∧ (∀ p, frame 0x08#8 [p] = exec (.continueCycle dt tag p) s)
    ∧ (∀ p, frame 0x09#8 [p] = exec (.plan dt tag p) s)
    ∧ (∀ p, frame 0x0A#8 [p] = exec (.confirm dt tag p) s)
    ∧ (∀ p, frame 0x0B#8 [p] = exec (.decline dt tag p) s)
    ∧ (∀ sel, frame 0x0C#8 [sel] = exec (.clearPocket dt tag sel) s)
    ∧ frame 0x0C#8 [2#8] = exec (.clearPart dt tag) s
    ∧ frame 0x0D#8 [] = exec (.events dt tag) s
    ∧ (∀ g f, frame 0x0E#8 [g, f] = exec (.configRead dt tag g f) s)
    ∧ (∀ g f (v : Half), frame 0x0F#8 [g, f, v.extractLsb' 0 8, v.extractLsb' 8 8]
        = exec (.configWrite dt tag g f v) s)
    ∧ frame 0x10#8 [] = exec (.configStore dt tag) s
    ∧ ∀ p slot, frame 0x11#8 [p, slot] = exec (.journalRead dt tag p slot) s) ∧
  (∀ s : State,
     (s.ss.power.working = false → s.onTxd = [])
     ∧ (s.ss.power.working = true →
       s.onTxd = s.ml.tx.flatMap (fun f => f.chars)
       ∧ ∀ f ∈ s.ml.tx, f.chars.map (fun c => c.byte) = f.bytes
         ∧ f.chars.map (fun c => c.mark) = (List.range f.bytes.length).map (fun i => i == 0)
         ∧ ∀ c ∈ f.chars, c.noise = false ∧ c.framing = false))

/-- A complete frame is tested for LINE, CHECK, KIND and BUSY in this order, and the first test that
fails gives a REJECT with its cause and changes nothing else; a frame that passes all four becomes the
outstanding request. -/
def Obligations.CompleteFramesAreTestedInOrder : Prop :=
  ∀ (dt : Nat) (kind tag len check : LineChar) (payload : List LineChar) (s : State),
    s.ss.power.working = true → s.ml.rx ≠ .lineBreak → kind.mark = true →
    (∀ c ∈ tag :: len :: check :: payload, c.mark = false) → len.byte.toNat ≤ 60 →
    payload.length = len.byte.toNat →
    let chars := [kind, tag, len] ++ payload ++ [check]
    let covered := [kind.byte, tag.byte, len.byte] ++ payload.map (·.byte)
    let rejected (cause : RejectCause) : Host.Outcome State Fault Refusal :=
      .next { s with
        time := s.time + dt
        ml := { s.ml with rx := .idle }.sendReject kind.byte tag.byte cause }
    if chars.any (fun c => c.noise || c.framing) then
      exec (.frameReceived dt chars) s = rejected .line
    else if crc8 covered ≠ check.byte then exec (.frameReceived dt chars) s = rejected .check
    else if kind.byte.toNat < 1 ∨ 0x11 < kind.byte.toNat then
      exec (.frameReceived dt chars) s = rejected .kind
    else if s.ml.outstanding.isSome then exec (.frameReceived dt chars) s = rejected .busy
    else ∃ t o, exec (.frameReceived dt chars) s = .next t ∧ t.ml.rx = .idle
      ∧ t.ml.outstanding = some o ∧ o.kind = kind.byte ∧ o.tag = tag.byte

/-- A length above 60 is rejected at once with cause LENGTH and the receiver skips to the next mark,
whatever errors the characters carry. A REJECT carries the frame's kind plus 0x80, or 0xFF for a kind of
0x80 or above, the frame's tag, the status REJECT and the cause, and is dropped while another REJECT
waits behind the frame being sent. -/
def Obligations.OverlongFramesAreRejected : Prop :=
  (∀ (dt : Nat) (kind tag len : LineChar) (s : State), s.ss.power.working = true →
     s.ml.rx ≠ .lineBreak → kind.mark = true → tag.mark = false → len.mark = false →
     60 < len.byte.toNat →
     exec (.overlongFrameLength dt kind tag len) s = .next
       { s with
         time := s.time + dt
         ml := { s.ml with rx := .skipping }.sendReject kind.byte tag.byte .length }) ∧
  (∀ (l : Link) (kind tag : Byte) (cause : RejectCause),
     let body := [if kind.toNat < 0x80 then kind + 0x80#8 else 0xFF#8, tag, 2#8, 8#8,
       match cause with
       | .line => 1#8
       | .check => 2#8
       | .length => 3#8
       | .kind => 4#8
       | .busy => 5#8]
     l.sendReject kind tag cause =
       if l.tx.tail.any (fun f => f.reject) then l
       else { l with tx := l.tx ++ [⟨true, body ++ [crc8 body]⟩] })

/-- A gap discards the frame in assembly and touches nothing else; a break discards it too, empties the
transmitter, ends the outstanding request and makes a bus request still with the Journal Controller the
orphan and leaves the orphan as it was otherwise, and touches neither the event queue, whatever part of
an EVENTS reply was sent (log 38), nor the controller nor a pocket; the end of a break leaves
the receiver idle. -/
def Obligations.GapsAndBreaksResetTheLine : Prop :=
  (∀ (dt : Nat) (s : State) (bytes : List Byte) (e : Bool), s.ss.power.working = true →
    s.ml.rx = .receiving bytes e →
    exec (.frameGapTimeout dt) s
      = .next { s with time := s.time + dt, ml := { s.ml with rx := .idle } })
  ∧ (∀ (dt : Nat) (s : State), s.ss.power.working = true →
    ∃ t, exec (.lineBreak dt) s = .next t
      ∧ t = { s with
          time := s.time + dt
          ml := { s.ml with
            rx := .lineBreak, tx := [], outstanding := none, orphan := t.ml.orphan } }
      ∧ (s.ml.outstanding = none → t.ml.orphan = s.ml.orphan)
      ∧ ((∀ w ∈ s.jc.queue, w.ofLink = false) →
          (∀ b n ph, s.jc.engine ≠ .busy (.store b) n ph) →
          (∀ p i n ph, s.jc.engine ≠ .busy (.read p i) n ph) → t.ml.orphan = s.ml.orphan)
      ∧ (s.ml.outstanding.isSome → (s.jc.queue.any (fun w => w.ofLink)) → t.ml.orphan = true)
      ∧ (s.ml.outstanding.isSome → ∀ n ph, (∃ b, s.jc.engine = .busy (.store b) n ph)
          ∨ (∃ p i, s.jc.engine = .busy (.read p i) n ph) → t.ml.orphan = true))
  ∧ ∀ (dt : Nat) (s : State), s.ss.power.working = true → s.ml.rx = .lineBreak →
    exec (.lineBreakEnd dt) s
      = .next { s with time := s.time + dt, ml := { s.ml with rx := .idle } }

/-- An event posted is dropped under its mask, joins the tail while fewer than 16 are queued, and is
otherwise discarded with the lost flag set, and remembered against an EVENTS reply under way, whose
delivery then leaves the flag (R166, R168). ATTN is asserted exactly when the event queue is non-empty or
the lost flag is set, and is inactive in RESET and DARK (a function of the state, log 29). -/
def Obligations.EventsJoinTheQueueAndDriveAttn : Prop :=
  (∀ (s : State) (kind : EventKind) (p : Option PocketId) (arg : Half),
     let t := s.post kind p arg
     { t with ml := s.ml } = s
     ∧ (s.cfg.classMask.testBit kind.classBit = true → t = s)
     ∧ (s.cfg.classMask.testBit kind.classBit = false → s.ml.events.length < 16 →
         t.ml = { s.ml with
           events := s.ml.events ++ [⟨kind, p, BitVec.ofNat 16 s.bd.clock, arg⟩] })
     ∧ (s.cfg.classMask.testBit kind.classBit = false → 16 ≤ s.ml.events.length →
         (s.ml.outstanding = none → t.ml = { s.ml with lost := true })
         ∧ (∀ k tag, s.ml.outstanding = some ⟨k, tag, none⟩ → t.ml = { s.ml with lost := true })
         ∧ ∀ k tag ev, s.ml.outstanding = some ⟨k, tag, some ev⟩ →
           t.ml = { s.ml with
             lost := true
             outstanding := some ⟨k, tag, some { ev with discarded := true }⟩ })) ∧
  (∀ s : State,
     s.attn = true ↔ (s.ss.power ≠ .reset ∧ s.ss.power ≠ .dark ∧ (s.ml.events ≠ [] ∨ s.ml.lost = true)))

/-- A crossing sooner than 7.0 ms after the last accepted one is noise: it changes nothing but the peak
being measured. The first crossing after a wake, and one after a counted silence, only restart the
silence timer and the peak measure. An accepted crossing that ends a half-cycle of 7.0 to 11.5 ms with a
peak at least the low threshold is GOOD, below it LOW, and a longer one, later than 14 ms included (log
25), is MISSING; in RUN with the line staying NORMAL it changes the Line Monitor alone; a MISSING one in
NORMAL makes the line RIDE_THROUGH and changes no pocket, output or setting; and in QUALIFYING the GOOD
half-cycle that reaches Q makes the line NORMAL, posts LINE_NORMAL and begins the load sequence with the
configuration read. The silence timer's expiry in NORMAL counts one MISSING half-cycle, makes the line
RIDE_THROUGH and starts the timer again with 10 ms; no pocket, output or setting changes. -/
def Obligations.CrossingsAndSilencesDriveTheMonitor : Prop :=
  ((∀ (dt : Nat) (v : Byte) (s : State) (last : Nat), s.ss.power.working = true →
     s.lm.lastCrossing = some last → s.time + dt - last < 7000 →
     exec (.zeroCrossing dt v) s = .next
       { s with
         time := s.time + dt
         lm := { s.lm with peak := if s.lm.peak.toNat < v.toNat then v else s.lm.peak } })
   ∧ ∀ (dt : Nat) (v : Byte) (s : State), s.ss.power.working = true →
     s.lm.lastCrossing = none
       ∨ (s.lm.missed = true ∧ ∃ last, s.lm.lastCrossing = some last ∧ 7000 ≤ s.time + dt - last) →
     exec (.zeroCrossing dt v) s = .next
       { s with
         time := s.time + dt
         lm := { s.lm with
           lastCrossing := some (s.time + dt), silence := s.time + dt + 14000, missed := false
           peak := 0#8 } }) ∧
  ((∀ (dt : Nat) (v : Byte) (s : State) (last : Nat), s.ss.power = .run → s.lm.line = .normal →
     s.lm.lastCrossing = some last → s.lm.missed = false → 7000 ≤ s.time + dt - last →
     s.time + dt - last ≤ 11500 →
     let peak := max s.lm.peak.toNat v.toNat
     (s.cfg.lowThreshold ≤ peak →
       exec (.zeroCrossing dt v) s = .next
         { s with
           time := s.time + dt
           lm := { s.lm with
             goodRun := min 400 (s.lm.goodRun + 1), lowCount := 0, missingCount := 0
             lastCrossing := some (s.time + dt), silence := s.time + dt + 14000, peak := 0#8 } })
     ∧ (peak < s.cfg.lowThreshold → min 255 (s.lm.lowCount + 1) < s.cfg.nLow →
       exec (.zeroCrossing dt v) s = .next
         { s with
           time := s.time + dt
           lm := { s.lm with
             goodRun := 0, lowCount := min 255 (s.lm.lowCount + 1), missingCount := 0
             intervalSum := 0
             lastCrossing := some (s.time + dt), silence := s.time + dt + 14000, peak := 0#8 } }))
   ∧ (∀ (dt : Nat) (v : Byte) (s : State) (last : Nat), s.ss.power = .run → s.lm.line = .normal →
     s.lm.lastCrossing = some last → s.lm.missed = false → 11500 < s.time + dt - last →
     s.slotServed →
     ∃ t, exec (.zeroCrossing dt v) s = .next t
       ∧ t.lm = { s.lm with
           line := .rideThrough, goodRun := 0, lowCount := 0
           missingCount := min 255 (s.lm.missingCount + 1), intervalSum := 0
           lastCrossing := some (s.time + dt), silence := s.time + dt + 14000, peak := 0#8 }
       ∧ { t with lm := s.lm, ml := s.ml } = { s with time := s.time + dt }
       ∧ keepsLine s t
       ∧ (s.cfg.classMask = 0 → s.ml.events.length < 16 →
           t.ml.events = s.ml.events ++ [⟨.lineRide, none, half s.bd.clock,
             half (min 255 (s.lm.missingCount + 1))⟩]))
   ∧ ∀ (dt : Nat) (v : Byte) (s : State) (last : Nat), s.ss.power = .wake .qualify →
     s.lm.line = .qualifying → s.lm.lastCrossing = some last → s.lm.missed = false →
     7000 ≤ s.time + dt - last → s.time + dt - last ≤ 11500 →
     s.cfg.lowThreshold ≤ v.toNat → s.cfg.q ≤ min 400 (s.lm.goodRun + 1) →
     ∃ t, exec (.zeroCrossing dt v) s = .next t ∧ t.lm.line = .normal
       ∧ t.lm.freq = (if s.lm.intervalSum + (s.time + dt - last) < s.cfg.q * 9200 then .hz60 else .hz50)
       ∧ t.ss = { s.ss with power := .wake .load }
       ∧ t.jc = { s.jc with
           engine := .busy .configRead 1 .transfer, scan := some ⟨Pair.both ⟨false, none⟩, []⟩ }
       ∧ (s.cfg.classMask = 0 → s.ml.events.length < 16 →
           t.ml.events = s.ml.events
             ++ [⟨.lineNormal, none, half s.bd.clock, pairArg 0#8 t.lm.freq.code⟩])
       ∧ t.cfg = s.cfg ∧ t.bd = s.bd ∧ t.psq = s.psq ∧ t.ic = s.ic ∧ t.journal = s.journal) ∧
  (∀ (dt : Nat) (s : State), s.ss.power = .run → s.lm.line = .normal → s.lm.silence ≤ s.time + dt →
     s.slotServed →
     ∃ t, exec (.silenceTimerExpiry dt) s = .next t
       ∧ t.lm = { s.lm with
           line := .rideThrough, goodRun := 0, lowCount := 0
           missingCount := min 255 (s.lm.missingCount + 1), intervalSum := 0
           silence := s.lm.silence + 10000, missed := true }
       ∧ { t with lm := s.lm, ml := s.ml } = { s with time := s.time + dt }
       ∧ keepsLine s t
       ∧ (s.cfg.classMask = 0 → s.ml.events.length < 16 →
           t.ml.events = s.ml.events ++ [⟨.lineRide, none, half s.bd.clock,
             half (min 255 (s.lm.missingCount + 1))⟩]))

/-- A classified half-cycle updates the counts first and then the line state, by R87 to R92: each pair of
a line state and a class gives the state of the tables there, and qualification finds the frequency. -/
def Obligations.HalfCyclesMoveTheLineState : Prop :=
  ∀ (m : LineMonitor) (c : WorkingCopy) (interval : Nat),
    let good := m.classify c .good interval
    let low := m.classify c .low interval
    let missing := m.classify c .missing interval
    (good.goodRun = min 400 (m.goodRun + 1) ∧ good.lowCount = 0 ∧ good.missingCount = 0
      ∧ good.intervalSum
          = (if m.line = .qualifying then m.intervalSum + interval else m.intervalSum))
    ∧ (low.goodRun = 0 ∧ low.lowCount = min 255 (m.lowCount + 1) ∧ low.missingCount = 0
      ∧ low.intervalSum = 0)
    ∧ (missing.goodRun = 0 ∧ missing.lowCount = 0
      ∧ missing.missingCount = min 255 (m.missingCount + 1) ∧ missing.intervalSum = 0)
    ∧ good.line = (match m.line with
        | .qualifying => if c.q ≤ good.goodRun then .normal else .qualifying
        | .normal | .rideThrough => .normal
        | .lowLine => if c.nRec ≤ good.goodRun then .normal else .lowLine
        | .lost => .lost)
    ∧ low.line = (match m.line with
        | .qualifying => .qualifying
        | .normal | .rideThrough => if c.nLow ≤ low.lowCount then .lowLine else .normal
        | .lowLine => .lowLine
        | .lost => .lost)
    ∧ missing.line = (match m.line with
        | .qualifying => .qualifying
        | .normal => .rideThrough
        | .rideThrough => if c.nRt < missing.missingCount then .lost else .rideThrough
        | .lowLine => if c.nRt < missing.missingCount then .lost else .lowLine
        | .lost => .lost)
    ∧ good.freq = (if m.line = .qualifying ∧ c.q ≤ good.goodRun then
          (if good.intervalSum < c.q * 9200 then .hz60 else .hz50) else m.freq)
    ∧ low.freq = m.freq ∧ missing.freq = m.freq

/-- HOLD_UP entry, from RUN by a silence or a MISSING crossing that makes the line LOST or by VHU below
the write floor, and from WAKE/LOAD and WAKE/ARM by a LOST line: outputs inactive, MOTOR_REV forward,
start slot and queue empty, timers stopped, phases kept, the pair taken and frozen in running phases, LOSS
requested for them, queued service requests discarded and answered ABORTED, or without a reply for the
orphan, the load sequence abandoned, a read of it in flight ended by a stop condition and a retry wait or
a recovery with no act more (R142), door watches armed and cleared, arm timer stopped and return mark
clear. With no pocket in a running phase nothing joins the write queue, and the part is in DARK at that
instant when nothing is left to write and no transfer is in flight (R105); the composed ABORTED is then
lost unsent (log 37). -/
def Obligations.LossEntersHoldUp : Prop :=
  ∀ (dt : Nat) (v : Byte) (s : State),
    let inLoad : Bool := match s.jc.engine with
      | .busy .configRead _ _ | .busy (.slotRead _ _) _ _ => true
      | _ => false
    let watched (t : State) : Prop :=
      t.bd = { s.bd with watch :=
        ⟨{ s.bd.watch.u with armed := true, count := 0 },
         { s.bd.watch.l with armed := true, count := 0 }⟩ } ∧ t.journal = s.journal
      ∧ t.storeCut = s.storeCut
    let held (t : State) : Prop :=
      t.ss.power = .holdUp ∧ t.ss.armTimer = none ∧ t.ss.returnMark = false
      ∧ t.ssa = ⟨none, []⟩ ∧ t.cfg = s.cfg ∧ t.rp = s.rp ∧ t.ic = s.ic ∧ watched t
      ∧ t.jc.rings = s.jc.rings ∧ t.jc.scan = none
      ∧ t.jc.engine = (if inLoad then .free else s.jc.engine)
      ∧ (∀ p, (t.pocket p).phase = (s.pocket p).phase ∧ (t.pocket p).faults = (s.pocket p).faults
          ∧ (t.pocket p).motorRun = false ∧ (t.pocket p).motorRev = false
          ∧ (t.pocket p).timers = ⟨none, none, none, none, none, none, none, none, none⟩
          ∧ ((s.pocket p).phase.running = true → (t.pocket p).frozen = true)
          ∧ ((s.pocket p).phase.running = false ∨ (s.pocket p).faults.sensor = true
              ∨ (s.sense p).theta = none → (t.pocket p).run = (s.pocket p).run)
          ∧ ((s.pocket p).phase.running = true → (s.pocket p).faults.sensor = false →
              ∀ th, (s.sense p).theta = some th → (t.pocket p).run = { (s.pocket p).run with
                thetaRef := th, tref := ⟨s.bd.clock, s.bd.epoch⟩ })
          ∧ ((s.pocket p).phase.running = true →
              ∃ w ∈ t.jc.queue, w.what = .checkpoint p .loss)
          ∧ ((s.pocket p).phase.running = false →
              t.jc.queue.filter (fun w => w.ofPocket p) = s.jc.queue.filter (fun w => w.ofPocket p)))
      ∧ (∀ w ∈ t.jc.queue, w.ofLink = false)
      ∧ ((∀ w ∈ s.jc.queue, w.ofLink = false) → t.ml.tx = s.ml.tx ∧ t.ml.orphan = s.ml.orphan)
      ∧ ((∃ w ∈ s.jc.queue, w.ofLink = true) → s.ml.orphan = true →
          t.ml.tx = s.ml.tx ∧ t.ml.orphan = false)
      ∧ ((∃ w ∈ s.jc.queue, w.ofLink = true) → s.ml.orphan = false →
          ∀ o, s.ml.outstanding = some o →
            t.ml.tx = s.ml.tx ++ [⟨false, replyFrame o.kind o.tag ⟨.aborted, []⟩⟩])
    let entered (t : State) : Prop :=
      s.onLoss = (match s.jc.engine with
        | .busy .configRead _ .transfer | .busy (.slotRead _ _) _ .transfer => [.stop]
        | _ => []) ∧
      let idle := ∀ p, (s.pocket p).phase.running = false
      let spare := (∀ w ∈ s.jc.queue, w.ofLink = true) ∧ (s.jc.engine = .free ∨ inLoad = true)
      (¬ idle ∨ ¬ spare → held t)
      ∧ (idle → spare → t.ss.power = .dark ∧ watched t ∧ t.cfg = Config.defaults ∧ t.attn = false
          ∧ t.ml.tx = []
          ∧ ∀ p, (t.pocket p).motorRun = false ∧ (t.pocket p).motorRev = false)
    (s.ss.power = .run ∨ s.ss.power = .wake .load ∨ s.ss.power = .wake .arm →
      s.lm.line = .rideThrough ∨ s.lm.line = .lowLine →
      s.cfg.nRt < min 255 (s.lm.missingCount + 1) →
      (s.lm.silence ≤ s.time + dt →
        ∃ t, exec (.silenceTimerExpiry dt) s = .next t ∧ entered t
          ∧ (t.ss.power = .holdUp → t.lm.line = .lost))
      ∧ ∀ last, s.lm.lastCrossing = some last → s.lm.missed = false → 11500 < s.time + dt - last →
        ∃ t, exec (.zeroCrossing dt v) s = .next t ∧ entered t
          ∧ (t.ss.power = .holdUp → t.lm.line = .lost))
    ∧ (s.ss.power = .run → s.ss.atFloor = true → v.toNat < s.cfg.writeFloor →
      ∃ t, exec (.vhuBelowWriteFloor dt v) s = .next t ∧ t.ss.vhu = v ∧ entered t
        ∧ (t.ss.power = .holdUp → t.lm = s.lm))

/-- VHU falling below dark in WAKE, HOLD_UP or RESET enters DARK: the working domain is lost, its working
copy included, the Backup Domain and the pins stay, and of a checkpoint write or a configuration store in
flight in HOLD_UP exactly the acknowledged bytes stand in the journal memory; a store cut after some of
them leaves a block whose check fails (R176, log 34), and a cut slot gets no mark (log 43). A read, a
retry wait, a recovery, and whatever the engine held in RESET, leave the memory as it was; a read of the
load in flight ends with a stop condition (R142, log 41), and in DARK nothing is driven on the bus. -/
def Obligations.FallBelowDarkLosesTheWorkingDomain : Prop :=
  ∀ (dt : Nat) (v : Byte) (acked : Nat) (s : State),
    s.ss.power = .holdUp ∨ s.ss.power = .reset ∨ (∃ st, s.ss.power = .wake st) →
    s.ss.atDark = true → v.toNat < s.cfg.darkCode → s.journalSafe = true →
    ∃ t, exec (.vhuBelowDark dt v acked) s = .next t ∧ t.ss.power = .dark ∧ t.ss.vhu = v
      ∧ t.time = s.time + dt ∧ t.pins = s.pins ∧ t.bd = s.bd ∧ t.pending = s.pending
      ∧ t.cfg = Config.defaults
      ∧ t.jc.queue = [] ∧ t.jc.engine = .free ∧ t.ml.events = [] ∧ t.ml.tx = []
      ∧ t.ml.outstanding = none ∧ t.attn = false
      ∧ (∀ p, (t.pocket p).motorRun = false ∧ (t.pocket p).motorRev = false
          ∧ t.heatPermit p = false)
      ∧ (s.ss.power ≠ .reset → s.onLoss = (match s.jc.engine with
          | .busy .configRead _ .transfer | .busy (.slotRead _ _) _ .transfer => [.stop]
          | _ => []))
      ∧ t.onBus = []
      ∧ (∀ p slot seq image n, s.ss.power = .holdUp →
          s.jc.engine = .busy (.checkpoint p slot seq image) n .transfer → acked < image.length →
          ∀ a, Memory.read t.journal a =
            if slotAddress p slot ≤ a ∧ a < slotAddress p slot + acked then
              image.getD (a - slotAddress p slot) 0#8
            else Memory.read s.journal a)
      ∧ (∀ p slot seq image n, s.jc.engine = .busy (.checkpoint p slot seq image) n .transfer →
          t.storeCut = s.storeCut)
      ∧ (∀ block n, s.ss.power = .holdUp → s.jc.engine = .busy (.store block) n .transfer →
          acked < block.length →
          t.storeCut = (s.storeCut || decide (0 < acked))
          ∧ ∀ a, Memory.read t.journal a =
            if a < acked then block.getD a 0#8 else Memory.read s.journal a)
      ∧ (s.jc.engine = .free ∨ s.ss.power = .reset
          ∨ (∃ p i n ph, s.jc.engine = .busy (.read p i) n ph)
          ∨ (∃ p i n ph, s.jc.engine = .busy (.slotRead p i) n ph)
          ∨ (∃ n ph, s.jc.engine = .busy .configRead n ph)
          ∨ (∃ job n τ, s.jc.engine = .busy job n (.retryWait τ))
          ∨ (∃ job n, s.jc.engine = .busy job n .recovery) →
          t.journal = s.journal ∧ t.storeCut = s.storeCut)

/-- RST asserted outside DARK halts the part in RESET: outputs inactive, timers stopped, the phases, run
records, faults, plans and working copy kept unread, the door watches armed and cleared, and a checkpoint
write or a configuration store in flight cut after its acknowledged bytes, a store after some of them with
a block whose check fails (R176, log 34), a slot with no mark (log 43); a read, a retry wait and a
recovery leave the journal memory as it was, and in RESET nothing is driven on the journal bus; in DARK
only the pin changes. -/
def Obligations.RstHaltsThePart : Prop :=
  ∀ (dt acked : Nat) (s : State), s.pins.rst = false → s.journalSafe = true →
    (s.ss.power = .dark →
      exec (.rstAssert dt acked) s
        = .next { s with time := s.time + dt, pins := { s.pins with rst := true } })
    ∧ (s.ss.power ≠ .dark →
      ∃ t, exec (.rstAssert dt acked) s = .next t
        ∧ t.ss = { s.ss with power := .reset } ∧ t.pins = { s.pins with rst := true }
        ∧ (∀ p, t.pocket p = { s.pocket p with
            motorRun := false, motorRev := false
            timers := ⟨none, none, none, none, none, none, none, none, none⟩ })
        ∧ (∀ p, t.bd.watch.get p = { s.bd.watch.get p with armed := true, count := 0 })
        ∧ t.bd.clock = s.bd.clock ∧ t.bd.epoch = s.bd.epoch ∧ t.bd.valid = s.bd.valid
        ∧ t.attn = false ∧ (∀ p, t.heatPermit p = false)
        ∧ { t with
            ss := s.ss, pins := s.pins, psq := s.psq, bd := s.bd, journal := s.journal
            storeCut := s.storeCut }
            = { s with time := s.time + dt }
        ∧ t.onBus = [] ∧ t.onTxd = []
        ∧ (s.jc.engine = .free ∨ s.ss.power = .reset
            ∨ (∃ p i n ph, s.jc.engine = .busy (.read p i) n ph)
            ∨ (∃ p i n ph, s.jc.engine = .busy (.slotRead p i) n ph)
            ∨ (∃ n ph, s.jc.engine = .busy .configRead n ph)
            ∨ (∃ job n τ, s.jc.engine = .busy job n (.retryWait τ))
            ∨ (∃ job n, s.jc.engine = .busy job n .recovery) →
            t.journal = s.journal ∧ t.storeCut = s.storeCut)
        ∧ (∀ block n, s.ss.power.working = true → s.jc.engine = .busy (.store block) n .transfer →
            acked < block.length →
            t.storeCut = (s.storeCut || decide (0 < acked))
            ∧ ∀ a, Memory.read t.journal a =
              if a < acked then block.getD a 0#8 else Memory.read s.journal a)
        ∧ ∀ p slot seq image n, s.ss.power.working = true →
          s.jc.engine = .busy (.checkpoint p slot seq image) n .transfer → acked < image.length →
          t.storeCut = s.storeCut
          ∧ ∀ a, Memory.read t.journal a =
            if slotAddress p slot ≤ a ∧ a < slotAddress p slot + acked then
              image.getD (a - slotAddress p slot) 0#8
            else Memory.read s.journal a)

/-- In WAKE/ARM, VHU at or above the arm threshold enters RUN at once without a fault; the arm timer's
expiry below it enters RUN with STORE_WEAK, raised and posted with the VHU code, before the events of the
plans (the model's choice, log 14); either way each pending plan is applied. On entry into RUN a pending
plan restores the recovered faults, changes the run record as its kind requires, and takes the pocket to its
destination with a RESUME or PHASE request. -/
def Obligations.ArmEndsInRunWithPlansApplied : Prop :=
  (∀ (dt : Nat) (v : Byte) (s : State), s.ss.power = .wake .arm →
     let applied (t : State) : Prop :=
       t.ss.power = .run ∧ t.ss.armTimer = none
       ∧ (∀ p pl, s.rp.get p = some pl → t.rp.get p = some { pl with applied := true })
       ∧ t.cfg = s.cfg ∧ t.bd = s.bd ∧ t.ic = s.ic ∧ t.lm = s.lm ∧ t.journal = s.journal
       ∧ t.jc.rings = s.jc.rings ∧ t.pins = s.pins
     (s.cfg.armCode ≤ v.toNat →
       ∃ t, exec (.vhuReachesArm dt v) s = .next t ∧ t.ss.storeWeak = s.ss.storeWeak ∧ t.ss.vhu = v
         ∧ applied t)
     ∧ ∀ τ, s.ss.armTimer = some τ → τ ≤ s.time + dt → s.ss.vhu.toNat < s.cfg.armCode →
       ∃ t, exec (.armTimerExpiry dt) s = .next t ∧ t.ss.storeWeak = true ∧ t.ss.vhu = s.ss.vhu
         ∧ applied t) ∧
  (∀ (dt : Nat) (v : Byte) (p : PocketId) (pl : PlanRecord) (s : State), s.ss.power = .wake .arm →
     s.rp.get p = some pl → pl.applied = false → s.jc.queue = [] →
     let r := (s.pocket p).run
     let placed (t : State) : Prop :=
       (t.pocket p).faults = (match (s.pocket p).recovered with
           | .record _ _ f => f
           | _ => ⟨false, false, false, false, false, false⟩)
       ∧ (pl.kind = .resumeHeat → pl.dest = .startWait →
           (t.pocket p).run = { r with d := pl.figures.dPrime, target := pl.destTarget })
       ∧ (pl.kind = .resumeCool → pl.dest = .startWait →
           (t.pocket p).run = { r with c := pl.cPrime, target := pl.destTarget })
       ∧ (pl.kind = .holdHeat ∨ pl.kind = .stayHeld → pl.dest = .held →
           (t.pocket p).run = { r with target := pl.destTarget } ∧ (t.pocket p).phase = .held
           ∧ (t.pocket p).frozen = (s.pocket p).frozen)
       ∧ (pl.kind = .stayPaused → pl.dest = .paused →
           (t.pocket p).run = { r with target := pl.destTarget } ∧ (t.pocket p).phase = .paused
           ∧ (t.pocket p).frozen = (s.pocket p).frozen)
       ∧ (pl.kind = .skipToAntiCrease → pl.dest = .acRest →
           (t.pocket p).run
             = { r with target := .antiCrease, acStart := ⟨s.bd.clock, s.bd.epoch⟩ })
       ∧ (pl.kind = .resumeAntiCrease → pl.dest = .acRest →
           (t.pocket p).run = { r with target := .antiCrease })
       ∧ (pl.dest = .startWait → (t.pocket p).phase
           = (if (s.sense p).door.level ∧ s.lm.line = .normal then .spinup else .startWait)
           ∧ (t.pocket p).frozen = false)
       ∧ (pl.dest = .acRest → (t.pocket p).phase = .acRest ∧ (t.pocket p).frozen = false
           ∧ (t.pocket p).timers.rest = some (t.time + r.rest * 1000000))
       ∧ (pl.kind ∈ [.skipToAntiCrease, .finish, .stayFault, .stayDone, .stayIdle] →
           pl.dest ∈ [.done, .faultHold, .idle] →
           (t.pocket p).run = r ∧ (t.pocket p).phase = pl.dest)
       ∧ ∃ w ∈ t.jc.queue, w.what = .checkpoint p
           (if pl.dest = .startWait ∨ pl.dest = .acRest then .resume else .phase)
     (s.cfg.armCode ≤ v.toNat → ∃ t, exec (.vhuReachesArm dt v) s = .next t ∧ placed t)
     ∧ ∀ τ, s.ss.armTimer = some τ → τ ≤ s.time + dt → s.ss.vhu.toNat < s.cfg.armCode →
       ∃ t, exec (.armTimerExpiry dt) s = .next t ∧ placed t
         ∧ (s.cfg.classMask = 0 → s.ml.events.length < 16 →
             (⟨.storeWeak, none, half s.bd.clock, half s.ss.vhu.toNat⟩ : EventEntry) ∈ t.ml.events))

/-- The backup clock advances by one second in every power state, saturating, and nothing else changes.
The door watch with its fixed 50 ms filter: a settling watch takes the raw level without counting; a
candidate held for 50 ms changes the level, and an opening is counted while armed, saturating at 15. A
failure of the backup supply in DARK clears the marker and loses the clock, the epoch and the counts. -/
def Obligations.TheBackupDomainKeepsTimeAndDoors : Prop :=
  (∀ (dt : Nat) (s : State), s.bd.valid = true →
     exec (.backupClockSecond dt) s = .next
       { s with time := s.time + dt, bd := { s.bd with clock := min 4294967295 (s.bd.clock + 1) } }) ∧
  ((∀ (dt : Nat) (p : PocketId) (s : State) (since : Nat), s.bd.valid = true →
     ((s.bd.watch.get p).settling = some since → since + 50000 ≤ s.time + dt →
       exec (.doorWatchFilterExpiry dt p) s = .next
         { s with
           time := s.time + dt
           bd := { s.bd with watch := s.bd.watch.set p { s.bd.watch.get p with
             closed := (s.pins.contacts.get p).door, settling := none, cand := none } } })
     ∧ ((s.bd.watch.get p).settling = none → (s.bd.watch.get p).cand = some since →
       since + 50000 ≤ s.time + dt →
       exec (.doorWatchFilterExpiry dt p) s = .next
         { s with
           time := s.time + dt
           bd := { s.bd with watch := s.bd.watch.set p { s.bd.watch.get p with
             closed := !(s.bd.watch.get p).closed
             cand := none
             count := if (s.bd.watch.get p).closed = true ∧ (s.bd.watch.get p).armed = true then
               min 15 ((s.bd.watch.get p).count + 1) else (s.bd.watch.get p).count } } }))
   ∧ ∀ (dt : Nat) (s : State), s.ss.power = .dark →
     ∃ t, exec (.backupSupplyFailure dt) s = .next t ∧ t.bd.valid = false ∧ t.bd.clock = 0
       ∧ t.bd.epoch = 0 ∧ (∀ p, (t.bd.watch.get p).count = 0)
       ∧ { t with bd := s.bd } = { s with time := s.time + dt })

/-- A raw contact change moves the pin. In WAKE, RUN and HOLD_UP it makes a candidate of a level other than
the filtered one and abandons the candidate on the filtered one; a settling input has none. The door pin
does the same to the door watch of a powered Backup Domain, in DARK and RESET as well. Nothing else
changes; a level that the pin has already changes nothing but the time (log 24). -/
def Obligations.RawContactChangesMakeCandidates : Prop :=
  ∀ (dt : Nat) (p : PocketId) (i : ContactInput) (level : Bool) (s : State),
    let c := (s.sense p).contact i
    let w := s.bd.watch.get p
    let now := s.time + dt
    ((s.pins.contacts.get p).level i ≠ level →
      exec (.rawContactChange dt p i level) s = .next
        { s with
          time := now
          pins := { s.pins with
            contacts := s.pins.contacts.set p ((s.pins.contacts.get p).setLevel i level) }
          ic :=
            if s.ss.power ≠ .dark ∧ s.ss.power ≠ .reset ∧ c.settling = none then
              s.ic.set p ((s.sense p).setContact i
                { c with cand := if level = c.level then none else some now })
            else s.ic
          bd :=
            if i = .door ∧ s.bd.valid = true ∧ w.settling = none then
              { s.bd with watch := s.bd.watch.set p { w with
                cand := if level = w.closed then none else some now } }
            else s.bd })
    ∧ ((s.pins.contacts.get p).level i = level →
      exec (.rawContactChange dt p i level) s = .next { s with time := now })

/-- A candidate held for its filter time becomes the filtered level; in RUN the change of DOOR, AIRFLOW and
HILIMIT posts INPUT_CHANGED (before the pocket's own postings, log 14) and that of HEAT_FB posts no
INPUT_CHANGED, and nothing at all outside a gas trial; in WAKE and HOLD_UP the level alone changes. The
filtered level of a settling input takes the raw level when the filter time has passed, posting nothing;
outside RUN nothing else changes. -/
def Obligations.ContactsFilterAndSettle : Prop :=
  (∀ (dt : Nat) (p : PocketId) (i : ContactInput) (since : Nat) (s : State),
     s.ss.power.working = true → ((s.sense p).contact i).settling = none →
     ((s.sense p).contact i).cand = some since → since + s.cfg.filter p i * 1000 ≤ s.time + dt →
     let level := !((s.sense p).contact i).level
     let ic := s.ic.set p ((s.sense p).setContact i ⟨level, none, none⟩)
     (s.ss.power ≠ .run →
       exec (.contactFilterExpiry dt p i) s = .next { s with time := s.time + dt, ic := ic })
     ∧ (s.ss.power = .run →
       ∃ t, exec (.contactFilterExpiry dt p i) s = .next t ∧ t.ic = ic
         ∧ keepsWorld { s with ic := ic } t ∧ keepsOther p s t ∧ keepsLine s t ∧ t.rp = s.rp
         ∧ (i ≠ .heatFb → s.cfg.classMask = 0 → s.ml.events.length < 16 →
             (⟨.inputChanged, some p, half s.bd.clock,
               pairArg (inputCode i) (if level then 1#8 else 0#8)⟩ : EventEntry) ∈ t.ml.events)
         ∧ (i = .heatFb → ∀ e ∈ t.ml.events, e.kind = .inputChanged → e ∈ s.ml.events))
     ∧ (s.ss.power = .run → i = .heatFb → s.slotServed →
       level = false ∨ (s.pocket p).phase ≠ .ignition ∨ (s.pocket p).timers.trial = none →
       exec (.contactFilterExpiry dt p i) s = .next { s with time := s.time + dt, ic := ic })) ∧
  (∀ (dt : Nat) (p : PocketId) (i : ContactInput) (since : Nat) (s : State),
     s.ss.power.working = true → ((s.sense p).contact i).settling = some since →
     since + s.cfg.filter p i * 1000 ≤ s.time + dt →
     let ic := s.ic.set p ((s.sense p).setContact i
       ⟨(s.pins.contacts.get p).level i, none, none⟩)
     ((s.ss.power ≠ .run ∨ s.slotServed ∧ (s.pocket p).phase ≠ .startWait
         ∧ (s.pocket p).phase ≠ .heatWait) →
       exec (.settlingTimerExpiry dt p i) s = .next { s with time := s.time + dt, ic := ic })
     ∧ ∃ t, exec (.settlingTimerExpiry dt p i) s = .next t ∧ t.ic = ic
         ∧ (t.pocket p).run.d = (s.pocket p).run.d)

/-- A door opening taken in RUN pauses a pocket in SPINUP to COOL: motor off, timers stopped, its start
requests gone, the pair taken and frozen, PAUSED with a PHASE request, everything else of the run record
kept; in AC_REST, AC_BURST and DONE it leads to IDLE with a PHASE request; in the other phases it changes
no phase. -/
def Obligations.DoorOpeningsPause : Prop :=
  ∀ (dt : Nat) (p : PocketId) (since : Nat) (s : State), s.ss.power = .run →
    (s.sense p).door.settling = none → (s.sense p).door.cand = some since →
    (s.sense p).door.level = true → since + s.cfg.filter p .door * 1000 ≤ s.time + dt →
    let r := (s.pocket p).run
    ∃ t, exec (.contactFilterExpiry dt p .door) s = .next t
      ∧ ((s.pocket p).phase ∈ [.spinup, .purge, .ignition, .heat, .heatWait, .cool] →
          (t.pocket p).phase = .paused ∧ (t.pocket p).motorRun = false ∧ t.heatPermit p = false
          ∧ (t.pocket p).timers = ⟨none, none, none, none, none, none, none, none, none⟩
          ∧ (t.pocket p).frozen = true
          ∧ (t.pocket p).run = (match (s.sense p).theta with
              | some th => if (s.pocket p).faults.sensor then r
                  else { r with thetaRef := th, tref := ⟨s.bd.clock, s.bd.epoch⟩ }
              | none => r)
          ∧ (∀ q ∈ t.ssa.queue, q.pocket ≠ p)
          ∧ (∀ g, t.ssa.slot = some g → g.request.pocket ≠ p)
          ∧ t.jc.queue = enqueue s.jc.queue p .phase t.time)
      ∧ ((s.pocket p).phase ∈ [.acRest, .acBurst, .done] →
          (t.pocket p).phase = .idle ∧ (t.pocket p).run = r ∧ (t.pocket p).motorRun = false
          ∧ t.jc.queue = enqueue s.jc.queue p .phase t.time)
      ∧ ((s.pocket p).phase ∈ [.startWait, .held, .faultHold, .idle, .paused] →
          (t.pocket p).phase = (s.pocket p).phase ∧ (t.pocket p).run = r
          ∧ t.jc.queue = s.jc.queue)

/-- A TACH rise begins a pulse and a fall ends it; a pulse that has stayed high for the filter time is
accepted once: the turning window restarts, and the residue and the revolution count go on by R37; a
pulse already accepted, or none, or one short of the filter time is not accepted and nothing but the time
changes (log 24). The filter time is read at the acceptance, and the accepted instant is the command's, which
is the model's choice for a filter time changed while the pulse is high (log 44). In RESET and DARK an edge
moves the pin alone. -/
def Obligations.TachPulsesAreCounted : Prop :=
  (∀ (dt : Nat) (p : PocketId) (level : Bool) (s : State), s.ss.power.working = true →
    s.pins.tach.get p ≠ level →
    exec (.tachEdge dt p level) s = .next
      { s with
        time := s.time + dt
        pins := { s.pins with tach := s.pins.tach.set p level }
        ic := s.ic.set p { s.sense p with
          tachPulse := if level then some ⟨s.time + dt, false⟩ else none } })
  ∧ (∀ (dt : Nat) (p : PocketId) (level : Bool) (s : State), s.ss.power.working = false →
    s.pins.tach.get p ≠ level →
    exec (.tachEdge dt p level) s = .next
      { s with time := s.time + dt, pins := { s.pins with tach := s.pins.tach.set p level } })
  ∧ (∀ (dt : Nat) (p : PocketId) (since : Nat) (s : State),
    (s.sense p).tachPulse = none ∨ (s.sense p).tachPulse = some ⟨since, true⟩
      ∨ (s.time + dt < since + s.cfg.tachFilter p * 1000
        ∧ (s.sense p).tachPulse = some ⟨since, false⟩) →
    exec (.tachPulseAccepted dt p) s = .next { s with time := s.time + dt })
  ∧ ∀ (dt : Nat) (p : PocketId) (since : Nat) (s : State), s.ss.power.working = true →
    (s.sense p).tachPulse = some ⟨since, false⟩ →
    since + s.cfg.tachFilter p * 1000 ≤ s.time + dt →
    let ic := s.ic.set p { s.sense p with
      tachPulse := some ⟨since, true⟩, lastPulse := some (s.time + dt)
      residue := if s.cfg.ppr p ≤ (s.sense p).residue + 1 then 0 else (s.sense p).residue + 1
      revs := if s.cfg.ppr p ≤ (s.sense p).residue + 1 then (s.sense p).revs + 1
        else (s.sense p).revs }
    (s.ss.power ≠ .run ∨ s.slotServed ∧ (s.pocket p).phase ≠ .spinup
        ∧ (s.pocket p).phase ≠ .acBurst →
      exec (.tachPulseAccepted dt p) s = .next { s with time := s.time + dt, ic := ic })
    ∧ (s.ss.power = .run → (s.pocket p).phase = .spinup →
      ∃ t, exec (.tachPulseAccepted dt p) s = .next t ∧ t.ic = ic)

/-- The first accepted pulse after the grant is rotation proof in SPINUP: with AIRFLOW proven the pocket
leaves for PURGE, IGNITION or COOL by its target; without, the airflow grace starts. In AC_BURST the
first pulse restarts the count, and the pulse that brings the count to B ends the burst in AC_REST, or in
DONE once the window is reached. -/
def Obligations.PulsesProveAndEndMotion : Prop :=
  ∀ (dt : Nat) (p : PocketId) (since : Nat) (s : State), s.ss.power = .run → s.slotServed →
    (s.sense p).tachPulse = some ⟨since, false⟩ →
    since + s.cfg.tachFilter p * 1000 ≤ s.time + dt →
    let k := s.pocket p
    let revs := if s.cfg.ppr p ≤ (s.sense p).residue + 1 then (s.sense p).revs + 1
      else (s.sense p).revs
    ∃ t, exec (.tachPulseAccepted dt p) s = .next t
      ∧ (k.phase = .spinup → k.motorRun = true → k.proven = false →
          (t.pocket p).motorRun = true
          ∧ ((s.sense p).airflow.level = false →
              (t.pocket p).phase = .spinup ∧ (t.pocket p).proven = true
              ∧ (t.pocket p).timers.startProof = none
              ∧ (t.pocket p).timers.airflowGrace
                  = some (t.time + s.cfg.airflowGrace p * 1000000))
          ∧ ((s.sense p).airflow.level = true → k.run.target ≠ .heat →
              (t.pocket p).phase = .cool ∧ (t.pocket p).run = k.run
              ∧ t.jc.queue = enqueue s.jc.queue p .phase t.time)
          ∧ ((s.sense p).airflow.level = true → k.run.target = .heat → k.faults.sensor = false →
              s.interlock p = true → (t.pocket p).run = k.run ∧ (t.pocket p).phase
                = (if k.run.copies.heatKind = .gas ∧ 0 < k.run.copies.purge then .purge
                  else .ignition)))
      ∧ (k.phase = .acBurst → k.firstPulse = false →
          (t.pocket p).phase = .acBurst ∧ (t.pocket p).firstPulse = true
          ∧ (t.pocket p).timers.burstProof = none
          ∧ (t.sense p).revs = 0 ∧ (t.sense p).residue = 0)
      ∧ (k.phase = .acBurst → k.firstPulse = true → k.run.burst ≤ revs.toNat →
          (t.pocket p).phase = (if k.windowReached then .done else .acRest)
          ∧ (t.pocket p).motorRun = false)
      ∧ (k.phase = .acBurst → k.firstPulse = true → revs.toNat < k.run.burst →
          (t.pocket p).phase = .acBurst ∧ (t.pocket p).run = k.run)

/-- A drum stall, from the expiry of the start proof or burst proof timer or of the turning window of a
proven running drum: DRUM_STALL is set, the motor stops, the pocket enters FAULT_HOLD with a PHASE
request, and the run record stays whole. An expiry of the window without a running motor, or before
proof, only ends TURNING. -/
def Obligations.DrumStallsLockThePocketOut : Prop :=
  ∀ (dt : Nat) (p : PocketId) (τ : Nat) (s : State), s.ss.power = .run →
    let k := s.pocket p
    let stalled (t : State) : Prop :=
      (t.pocket p).phase = .faultHold ∧ (t.pocket p).motorRun = false
      ∧ (t.pocket p).motorRev = k.motorRev
      ∧ t.heatPermit p = false ∧ (t.pocket p).faults = { k.faults with drumStall := true }
      ∧ (t.pocket p).run = k.run ∧ keepsOther p s t ∧ t.journal = s.journal ∧ t.cfg = s.cfg
      ∧ t.rp = s.rp ∧ (∀ q ∈ t.ssa.queue, q.pocket ≠ p)
      ∧ (∀ g, t.ssa.slot = some g → g.request.pocket ≠ p)
      ∧ t.jc.queue = enqueue s.jc.queue p .phase t.time
    (k.timers.startProof = some τ → τ ≤ s.time + dt →
      ∃ t, exec (.startProofTimerExpiry dt p) s = .next t ∧ t.ic = s.ic ∧ stalled t)
    ∧ (k.timers.burstProof = some τ → τ ≤ s.time + dt →
      ∃ t, exec (.burstProofTimerExpiry dt p) s = .next t ∧ t.ic = s.ic ∧ stalled t)
    ∧ ((s.sense p).lastPulse = some τ → τ + s.cfg.turningWindow p * 100000 ≤ s.time + dt →
      k.motorRun = true → (k.phase = .spinup → k.proven = true) →
      (k.phase = .acBurst → k.firstPulse = true) →
      ∃ t, exec (.turningWindowExpiry dt p) s = .next t
        ∧ t.ic = s.ic.set p { s.sense p with lastPulse := none } ∧ stalled t)
    ∧ ((s.sense p).lastPulse = some τ → τ + s.cfg.turningWindow p * 100000 ≤ s.time + dt →
      k.motorRun = false ∨ (k.phase = .spinup ∧ k.proven = false)
        ∨ (k.phase = .acBurst ∧ k.firstPulse = false) →
      exec (.turningWindowExpiry dt p) s = .next
        { s with time := s.time + dt, ic := s.ic.set p { s.sense p with lastPulse := none } })

/-- A converter code becomes a temperature by the table of ascending codes (R38): θ_0 below c_0, θ_8 above
c_8, and between them the point of the interval it lies in plus the truncated part of the way to the next,
clamped into -40 to 400. A good conversion joins the four-entry sample set, sets θ to the floor of the mean
from the fourth used sample on, and raises the good run; a fault sample sets the good run to 0 and leaves the
rest. Outside RUN nothing else changes. In RUN a fault sample sets SENSOR, which ends heat when it was clear,
and the eighth good sample in a row clears it (R40, R41, R80). -/
def Obligations.ConversionsFilterTheTemperature : Prop :=
  (∀ (codes temps : List Int) (c : Int), codes.length = 9 → codes.Pairwise (· < ·) →
    let cc (i : Nat) : Int := codes.getD i 0
    let th (i : Nat) : Int := temps.getD i 0
    let clamped (x : Int) : Int := max (-40) (min 400 x)
    (c < cc 0 → convert codes temps c = clamped (th 0))
    ∧ (cc 8 < c → convert codes temps c = clamped (th 8))
    ∧ ∀ i < 8, cc i ≤ c → c < cc (i + 1) ∨ i = 7 ∧ c = cc 8 →
      convert codes temps c
        = clamped (th i + Int.tdiv ((th (i + 1) - th i) * (c - cc i)) (cc (i + 1) - cc i))) ∧
  ∀ (dt : Nat) (p : PocketId) (code : BitVec 10) (s : State), s.ss.power.working = true →
    (s.sense p).nextConversion ≤ s.time + dt →
    let k := s.sense p
    let faulty := code.toNat ≤ 7 ∨ 1016 ≤ code.toNat
    let temp := convert ((s.cfg.part.drop 13).take 9) ((s.cfg.part.drop 22).take 9) (code.toNat : Int)
    let samples := (if k.samples.length < 4 then k.samples else k.samples.drop 1) ++ [temp]
    let used := min 4 (k.used + 1)
    let next := k.nextConversion + 250000
    let k' : Sensing :=
      if faulty then { k with nextConversion := next, goodRun := 0 }
      else { k with
        nextConversion := next, samples := samples, used := used, goodRun := min 8 (k.goodRun + 1)
        theta := if used = 4 then some (Int.fdiv samples.sum 4) else k.theta }
    (s.ss.power ≠ .run → exec (.temperatureConversion dt p code) s
      = .next { s with time := s.time + dt, ic := s.ic.set p k' })
    ∧ (s.ss.power = .run →
      ∃ t, exec (.temperatureConversion dt p code) s = .next t ∧ t.ic = s.ic.set p k'
        ∧ keepsOther p s t ∧ t.journal = s.journal ∧ t.rp = s.rp
        ∧ (faulty → (t.pocket p).faults.sensor = true
            ∧ ((s.pocket p).faults.sensor = false →
                (s.pocket p).phase ∈ [.purge, .ignition, .heat, .heatWait] →
                (t.pocket p).phase = .cool ∧ (t.pocket p).run = { (s.pocket p).run with
                  cause := .sensor, target := .cool, c := 0 }))
        ∧ (¬ faulty → (s.pocket p).faults.sensor = true →
            (t.pocket p).faults.sensor = decide (k.goodRun < 7)))

/-- TEMP_HIGH, at a temperature sample in HEAT that finds θ at or above its limit with SENSOR clear and
the mark clear: the mark is set and the action carried out: REPORT stays in HEAT, END_HEAT ends heat with
cause GUARD and the cool exit unchanged, HOLD also sets GUARD_HOLD and the cool exit FAULT_HOLD. -/
def Obligations.TempHighTripsByItsAction : Prop :=
  ∀ (dt : Nat) (p : PocketId) (code : BitVec 10) (s : State), s.ss.power = .run →
    (s.sense p).nextConversion ≤ s.time + dt → 8 ≤ code.toNat → code.toNat ≤ 1015 →
    (s.pocket p).phase = .heat → (s.pocket p).faults.sensor = false →
    let k := s.pocket p
    ∃ t, exec (.temperatureConversion dt p code) s = .next t
      ∧ (∀ th, (t.sense p).theta = some th →
          (th < s.cfg.tempHighLimit p ∨ k.tempHighTripped = true → t.pocket p = k)
          ∧ (s.cfg.tempHighLimit p ≤ th → k.tempHighTripped = false →
            (t.pocket p).tempHighTripped = true
            ∧ (match s.cfg.guardAction p .tempHigh with
              | .report => t.pocket p = { k with tempHighTripped := true }
              | .endHeat => (t.pocket p).phase = .cool ∧ (t.pocket p).faults = k.faults
                  ∧ (t.pocket p).run = { k.run with cause := .guard, target := .cool, c := 0 }
              | .hold => (t.pocket p).phase = .cool
                  ∧ (t.pocket p).faults = { k.faults with guardHold := true }
                  ∧ (t.pocket p).run = { k.run with
                      cause := .guard, target := .cool, c := 0, coolExit := .faultHold })))
      ∧ ((t.sense p).theta = none → t.pocket p = k)

/-- A failure of the interlock set in IGNITION or HEAT moves the pocket to HEAT_WAIT with its motor running
and its run record kept but for a counted trip: AIRFLOW lost starts the heat grace; a first or second
HILIMIT trip is counted and sets HIGH_LIMIT; a third ends heat with cause LIMIT; LOW_LINE takes both
pockets there. In PURGE and HEAT_WAIT a trip is counted in place, AIRFLOW lost starts the heat grace and
stops the purge timer, and AIRFLOW regained stops the grace, and starts the purge timer full in PURGE.
HEAT_WAIT is left for IGNITION with a HEAT_START when the whole set holds again, here by AIRFLOW, by
HILIMIT or by the line, with SENSOR clear. AIRFLOW proven within the grace of a proven SPINUP leaves it by
the target. -/
def Obligations.InterlockFailuresInterruptHeat : Prop :=
  (∀ (dt : Nat) (p : PocketId) (since : Nat) (i : ContactInput) (s : State), s.ss.power = .run →
     (s.pocket p).phase = .heat ∨ (s.pocket p).phase = .ignition → i = .airflow ∨ i = .hilimit →
     ((s.sense p).contact i).settling = none → ((s.sense p).contact i).cand = some since →
     ((s.sense p).contact i).level = true → since + s.cfg.filter p i * 1000 ≤ s.time + dt →
     let k := s.pocket p
     ∃ t, exec (.contactFilterExpiry dt p i) s = .next t ∧ t.heatPermit p = false
       ∧ (t.pocket p).motorRun = k.motorRun
       ∧ (i = .airflow → (t.pocket p).phase = .heatWait ∧ (t.pocket p).run = k.run
           ∧ (t.pocket p).faults = k.faults ∧ t.jc.queue = s.jc.queue
           ∧ (t.pocket p).timers.heatGrace
               = some (t.time + s.cfg.airflowGrace p * 1000000))
       ∧ (i = .hilimit → (t.pocket p).faults = { k.faults with highLimit := true }
           ∧ (k.run.trips < 2 → (t.pocket p).phase = .heatWait
               ∧ (t.pocket p).run = { k.run with trips := k.run.trips + 1 })
           ∧ (k.run.trips = 2 → (t.pocket p).phase = .cool
               ∧ (t.pocket p).run = { k.run with
                   trips := 3, cause := .limit, target := .cool, c := 0 }))) ∧
  (∀ (dt : Nat) (v : Byte) (s : State) (last : Nat), s.ss.power = .run → s.lm.line = .normal →
     s.lm.lastCrossing = some last → s.lm.missed = false → 7000 ≤ s.time + dt - last →
     s.time + dt - last ≤ 11500 → max s.lm.peak.toNat v.toNat < s.cfg.lowThreshold →
     s.cfg.nLow ≤ min 255 (s.lm.lowCount + 1) →
     ∃ t, exec (.zeroCrossing dt v) s = .next t ∧ t.lm.line = .lowLine
       ∧ ∀ p, (t.pocket p).run = (s.pocket p).run ∧ (t.pocket p).faults = (s.pocket p).faults
         ∧ ((s.pocket p).phase = .heat ∨ (s.pocket p).phase = .ignition →
             (t.pocket p).phase = .heatWait ∧ t.heatPermit p = false
             ∧ (t.pocket p).motorRun = (s.pocket p).motorRun
             ∧ (t.pocket p).timers.heatGrace = (if (s.sense p).airflow.level = true then none
                 else some (t.time + s.cfg.airflowGrace p * 1000000)))) ∧
  (∀ (dt : Nat) (p : PocketId) (since : Nat) (i : ContactInput) (s : State), s.ss.power = .run →
     i = .airflow ∨ i = .hilimit →
     ((s.sense p).contact i).settling = none → ((s.sense p).contact i).cand = some since →
     since + s.cfg.filter p i * 1000 ≤ s.time + dt → s.slotServed →
     let k := s.pocket p
     let was := ((s.sense p).contact i).level
     let grace := some (s.time + dt + s.cfg.airflowGrace p * 1000000)
     let sound : Prop := (s.lm.line = .normal ∨ s.lm.line = .rideThrough)
       ∧ (i = .airflow → (s.sense p).hilimit.level = true)
       ∧ (i = .hilimit → (s.sense p).airflow.level = true)
     ∃ t, exec (.contactFilterExpiry dt p i) s = .next t
       ∧ (t.pocket p).motorRun = k.motorRun ∧ keepsOther p s t
       ∧ (was = true → i = .hilimit → k.phase = .purge ∨ k.phase = .heatWait →
           (t.pocket p).faults = { k.faults with highLimit := true }
           ∧ (k.run.trips < 2 → (t.pocket p).phase = k.phase
               ∧ (t.pocket p).run = { k.run with trips := k.run.trips + 1 }
               ∧ (t.pocket p).timers = k.timers ∧ t.jc.queue = s.jc.queue)
           ∧ (k.run.trips = 2 → (t.pocket p).phase = .cool
               ∧ t.jc.queue = enqueue s.jc.queue p .phase t.time
               ∧ (t.pocket p).run = { k.run with
                   trips := 3, cause := .limit, target := .cool, c := 0 }))
       ∧ (was = true → i = .airflow → k.phase = .purge →
           t.pocket p = { k with timers := { k.timers with purge := none, heatGrace := grace } })
       ∧ (was = true → i = .airflow → k.phase = .heatWait →
           t.pocket p = { k with timers := { k.timers with heatGrace := grace } })
       ∧ (was = false → i = .airflow → k.phase = .purge →
           t.pocket p = { k with timers := { k.timers with
             purge := some (s.time + dt + k.run.copies.purge * 1000000), heatGrace := none } })
       ∧ (was = false → i = .airflow → k.phase = .heatWait → ¬ sound →
           t.pocket p = { k with timers := { k.timers with heatGrace := none } })
       ∧ (was = false → i = .hilimit → k.phase = .heatWait → ¬ sound → t.pocket p = k)
       ∧ (was = false → k.phase = .heatWait → sound → k.faults.sensor = false →
           (t.pocket p).phase = .ignition ∧ (t.pocket p).run = k.run
           ∧ (⟨p, .heatStart⟩ ∈ t.ssa.queue
             ∨ ∃ g, t.ssa.slot = some g ∧ g.request = ⟨p, .heatStart⟩))
       ∧ (was = false → i = .airflow → k.phase = .spinup → k.proven = true →
           (k.run.target ≠ .heat → (t.pocket p).phase = .cool ∧ (t.pocket p).run = k.run
             ∧ t.jc.queue = enqueue s.jc.queue p .phase t.time)
           ∧ (k.run.target = .heat → k.faults.sensor = false → sound →
             (t.pocket p).run = k.run ∧ (t.pocket p).phase
               = (if k.run.copies.heatKind = .gas ∧ 0 < k.run.copies.purge then .purge
                 else .ignition)))
       ∧ (was = false → i = .airflow → k.phase = .spinup → k.proven = false → t.pocket p = k)) ∧
  (∀ (dt : Nat) (v : Byte) (s : State) (last : Nat), s.ss.power = .run → s.lm.line = .lowLine →
     s.lm.lastCrossing = some last → s.lm.missed = false → 7000 ≤ s.time + dt - last →
     s.time + dt - last ≤ 11500 → s.cfg.lowThreshold ≤ max s.lm.peak.toNat v.toNat →
     s.cfg.nRec ≤ min 400 (s.lm.goodRun + 1) →
     ∃ t, exec (.zeroCrossing dt v) s = .next t ∧ t.lm.line = .normal
       ∧ ∀ p, (s.pocket p).phase = .heatWait → (s.pocket p).faults.sensor = false →
         (s.sense p).airflow.level = true → (s.sense p).hilimit.level = true →
         (t.pocket p).phase = .ignition ∧ (t.pocket p).run = (s.pocket p).run
         ∧ (t.pocket p).motorRun = (s.pocket p).motorRun
         ∧ (⟨p, .heatStart⟩ ∈ t.ssa.queue
           ∨ ∃ g, t.ssa.slot = some g ∧ g.request = ⟨p, .heatStart⟩))

/-- HEAT_PERMIT is asserted exactly while the conditions of R63 hold. -/
def Obligations.HeatPermitHoldsExactlyUnderItsConditions : Prop :=
  ∀ (p : PocketId) (s : State), s.heatPermit p = true ↔
    ((s.pocket p).phase = .heat
      ∨ ((s.pocket p).phase = .ignition ∧ ∃ g, s.ssa.slot = some g ∧ g.request = ⟨p, .heatStart⟩))
    ∧ s.ss.power = .run ∧ (s.lm.line = .normal ∨ s.lm.line = .rideThrough)
    ∧ (s.sense p).door.level = true ∧ (s.sense p).lastPulse.isSome = true
    ∧ (s.sense p).airflow.level = true ∧ (s.sense p).hilimit.level = true

/-- An expiry of the pocket timer in HEAT: the timer repeats; D rises by 4 or 2 to at most T when the
line is NORMAL and HEAT_FB asserted; h counts with the permit; D reaching T ends heat with cause TARGET;
short of it, h at its limit trips RUN_LONG once, by its action, and cooling begins in that second
(R13's order, log 23). -/
def Obligations.PocketSecondsAccrueCredit : Prop :=
  ∀ (dt : Nat) (p : PocketId) (τ : Nat) (s : State), s.ss.power = .run →
    (s.pocket p).phase = .heat → (s.pocket p).timers.second = some τ → τ ≤ s.time + dt →
    let k := s.pocket p
    let d' := if s.lm.line = .normal ∧ (s.sense p).heatFb.level = true then
      min k.run.t (k.run.d + (match k.run.stage with | .full => 4 | .reduced => 2)) else k.run.d
    let h' := if s.heatPermit p = true then min 65535 (k.run.h + 1) else k.run.h
    let c' := if (s.sense p).lastPulse.isSome then 1 else 0
    ∃ t, exec (.pocketTimerExpiry dt p) s = .next t ∧ keepsWorld s t ∧ keepsOther p s t
      ∧ keepsLine s t ∧ t.rp = s.rp
      ∧ ((t.pocket p).phase ∈ [.heat, .cool] →
          (t.pocket p).timers.second = some (τ + 1000000))
      ∧ (d' = k.run.t → (t.pocket p).phase = .cool ∧ t.jc.queue = enqueue s.jc.queue p .phase t.time
          ∧ (t.pocket p).run = { k.run with
              d := d', h := h', cause := .target, target := .cool, c := 0 })
      ∧ (d' ≠ k.run.t → h' < s.cfg.runLongLimit p ∨ k.runLongTripped = true →
          t.jc.queue = s.jc.queue ∧ t.pocket p = { k with
            run := { k.run with d := d', h := h' }
            timers := { k.timers with second := some (τ + 1000000) } })
      ∧ (d' ≠ k.run.t → s.cfg.runLongLimit p ≤ h' → k.runLongTripped = false →
          (t.pocket p).runLongTripped = true
          ∧ (match s.cfg.guardAction p .runLong with
            | .report => (t.pocket p).phase = .heat
                ∧ (t.pocket p).run = { k.run with d := d', h := h' }
            | .endHeat => (t.pocket p).faults = k.faults
                ∧ (t.pocket p).run = { (t.pocket p).run with cause := .guard, d := d', h := h' }
                ∧ (1 < k.run.coolTarget → 1 < k.run.copies.cmax → (t.pocket p).phase = .cool
                  ∧ (t.pocket p).run = { k.run with
                    d := d', h := h', cause := .guard, target := .cool, c := c' })
            | .hold => (t.pocket p).faults = { k.faults with guardHold := true }
                ∧ (t.pocket p).run = { (t.pocket p).run with cause := .guard, d := d', h := h' }
                ∧ (1 < k.run.coolTarget → 1 < k.run.copies.cmax → (t.pocket p).phase = .cool
                  ∧ (t.pocket p).run = { k.run with
                    d := d', h := h', cause := .guard, target := .cool, c := c'
                    coolExit := .faultHold })))

/-- An expiry of the pocket timer in COOL counts a second when the drum is TURNING; cooling ends on c and
θ, on c alone under SENSOR, or on Cmax; it leaves by the cool exit; otherwise the pocket stays. -/
def Obligations.PocketSecondsEndCooling : Prop :=
  ∀ (dt : Nat) (p : PocketId) (τ : Nat) (s : State), s.ss.power = .run →
    (s.pocket p).phase = .cool → (s.pocket p).timers.second = some τ → τ ≤ s.time + dt →
    let k := s.pocket p
    let c' := if (s.sense p).lastPulse.isSome then min 65535 (k.run.c + 1) else k.run.c
    let normalEnd := k.run.coolTarget ≤ c' ∧ (k.faults.sensor = true
      ∨ ∃ th, (s.sense p).theta = some th ∧ th ≤ k.run.thetaX)
    ∃ t, exec (.pocketTimerExpiry dt p) s = .next t ∧ keepsWorld s t ∧ keepsOther p s t
      ∧ t.rp = s.rp ∧ (t.pocket p).faults = k.faults
      ∧ (¬ normalEnd → c' < k.run.copies.cmax →
          (t.pocket p).phase = .cool ∧ (t.pocket p).run = { k.run with c := c' }
          ∧ t.jc.queue = s.jc.queue)
      ∧ (normalEnd ∨ k.run.copies.cmax ≤ c' →
          t.jc.queue = enqueue s.jc.queue p .phase t.time
          ∧ (k.run.coolExit = .done → (t.pocket p).phase = .done
              ∧ (t.pocket p).run = { k.run with c := c' })
          ∧ (k.run.coolExit = .faultHold → (t.pocket p).phase = .faultHold
              ∧ (t.pocket p).run = { k.run with c := c' })
          ∧ (k.run.coolExit = .antiCrease → 0 < k.run.window → (t.pocket p).phase = .acRest
              ∧ (t.pocket p).timers.rest = some (t.time + k.run.rest * 1000000)
              ∧ (t.pocket p).run = { k.run with
                  c := c', target := .antiCrease, acStart := ⟨s.bd.clock, s.bd.epoch⟩ }))

/-- An expiry of the pocket timer in AC_REST with the window reached leads to DONE with a PHASE request,
and in AC_BURST sets the mark and lets the burst run on; with the window open, and in START_WAIT, SPINUP,
PURGE, IGNITION and HEAT_WAIT, only the timer itself moves: neither credit nor heat seconds (R76). An
expiry of the periodic timer posts a PERIODIC request and starts the timer again with P. -/
def Obligations.WindowsAndCheckpointsAreTimed : Prop :=
  (∀ (dt : Nat) (p : PocketId) (τ : Nat) (s : State), s.ss.power = .run → s.slotServed →
     (s.pocket p).timers.second = some τ → τ ≤ s.time + dt →
     let k := s.pocket p
     let k' := { k with timers := { k.timers with second := some (τ + 1000000) } }
     let reached := k.run.acStart.epoch ≠ s.bd.epoch ∨ k.run.window ≤ s.bd.clock - k.run.acStart.clock
     (k.phase = .acRest → reached →
       ∃ t, exec (.pocketTimerExpiry dt p) s = .next t ∧ keepsWorld s t ∧ keepsOther p s t
         ∧ (t.pocket p).phase = .done ∧ (t.pocket p).run = k.run
         ∧ (∀ q ∈ t.ssa.queue, q.pocket ≠ p) ∧ t.jc.queue = enqueue s.jc.queue p .phase t.time)
     ∧ (k.phase = .acBurst → reached →
       exec (.pocketTimerExpiry dt p) s = .next
         { s with time := s.time + dt, psq := s.psq.set p { k' with windowReached := true } })
     ∧ ((k.phase = .acRest ∨ k.phase = .acBurst) ∧ ¬ reached
         ∨ k.phase ∈ [.startWait, .spinup, .purge, .ignition, .heatWait] →
       exec (.pocketTimerExpiry dt p) s = .next
         { s with time := s.time + dt, psq := s.psq.set p k' })) ∧
  (∀ (dt : Nat) (p : PocketId) (τ : Nat) (s : State), s.ss.power = .run →
     (s.pocket p).timers.periodic = some τ → τ ≤ s.time + dt →
     exec (.periodicTimerExpiry dt p) s = .next
       { s with
         time := s.time + dt
         jc := { s.jc with queue := enqueue s.jc.queue p .periodic (s.time + dt) }
         psq := s.psq.set p { s.pocket p with timers := { (s.pocket p).timers with
           periodic := some (s.time + dt + s.cfg.period * 1000000) } } })

/-- A blocked vent, by the airflow grace in SPINUP or the heat grace in PURGE and HEAT_WAIT: VENT_BLOCKED
is set and the pocket enters COOL with its motor running; with target HEAT heat ends with cause VENT and
cool exit FAULT_HOLD, and with target COOL the exit and the cause stay. -/
def Obligations.BlockedVentsSendToCool : Prop :=
  ∀ (dt : Nat) (p : PocketId) (τ : Nat) (s : State), s.ss.power = .run → τ ≤ s.time + dt →
    let k := s.pocket p
    let vented (t : State) : Prop :=
      (t.pocket p).phase = .cool ∧ (t.pocket p).motorRun = k.motorRun
      ∧ (t.pocket p).faults = { k.faults with ventBlocked := true }
      ∧ t.jc.queue = enqueue s.jc.queue p .phase t.time ∧ actsOnPocket p s t ∧ keepsLine s t
    (k.timers.airflowGrace = some τ → k.phase = .spinup →
      ∃ t, exec (.airflowGraceExpiry dt p) s = .next t ∧ vented t
        ∧ (k.run.target = .heat → (t.pocket p).run = { k.run with
            cause := .vent, target := .cool, c := 0, coolExit := .faultHold })
        ∧ (k.run.target = .cool → (t.pocket p).run = k.run))
    ∧ (k.timers.heatGrace = some τ → k.phase = .purge ∨ k.phase = .heatWait →
      ∃ t, exec (.heatGraceExpiry dt p) s = .next t ∧ vented t
        ∧ (t.pocket p).run = { k.run with
            cause := .vent, target := .cool, c := 0, coolExit := .faultHold })

/-- The purge complete leads to IGNITION: with SENSOR clear and the interlock set holding a HEAT_START
is posted, and granted at once where the slot is free; a failing interlock leads on to HEAT_WAIT, and
SENSOR ends heat. A failed gas trial raises tries used; below the copy of tries the pocket goes to
PURGE, or to IGNITION with purge time 0; at it, IGNITION_LOCKOUT is set and heat ends with cause
IGNITION and cool exit FAULT_HOLD. -/
def Obligations.PurgeAndTrialsLeadOn : Prop :=
  (∀ (dt : Nat) (p : PocketId) (τ : Nat) (s : State), s.ss.power = .run → (s.pocket p).phase = .purge →
     (s.pocket p).timers.purge = some τ → τ ≤ s.time + dt →
     let k := s.pocket p
     ∃ t, exec (.purgeTimerExpiry dt p) s = .next t ∧ actsOnPocket p s t ∧ keepsLine s t
       ∧ (t.pocket p).motorRun = k.motorRun
       ∧ (k.faults.sensor = false → s.interlock p = true →
           (t.pocket p).phase = .ignition ∧ (t.pocket p).run = k.run ∧ t.jc.queue = s.jc.queue
           ∧ (⟨p, .heatStart⟩ ∈ t.ssa.queue ∨ ∃ g, t.ssa.slot = some g ∧ g.request = ⟨p, .heatStart⟩)
           ∧ (s.ssa.slot = none → s.ssa.queue = [] → k.run.copies.heatKind = .gas →
               t.ssa.slot = some ⟨⟨p, .heatStart⟩, t.time, none⟩
               ∧ (t.pocket p).timers.trial
                   = some (t.time + k.run.copies.trial * 1000000)))
       ∧ (k.faults.sensor = false → s.interlock p = false →
           (t.pocket p).phase = .heatWait ∧ (t.pocket p).run = k.run)
       ∧ (k.faults.sensor = true → (t.pocket p).phase = .cool ∧ (t.pocket p).run = { k.run with
           cause := .sensor, target := .cool, c := 0 })) ∧
  (∀ (dt : Nat) (p : PocketId) (τ : Nat) (s : State), s.ss.power = .run →
     (s.pocket p).phase = .ignition → (s.pocket p).timers.trial = some τ → τ ≤ s.time + dt →
     (s.pocket p).run.copies.heatKind = .gas → (s.pocket p).run.tries < 3 →
     let k := s.pocket p
     let n := k.run.tries + 1
     ∃ t, exec (.ignitionTrialExpiry dt p) s = .next t ∧ actsOnPocket p s t ∧ keepsLine s t
       ∧ (t.pocket p).motorRun = k.motorRun
       ∧ (s.cfg.classMask = 0 → s.ml.events.length < 16 →
           (⟨.ignitionFailed, some p, half s.bd.clock, half n⟩ : EventEntry) ∈ t.ml.events)
       ∧ (n < k.run.copies.tries → k.faults.sensor = false → s.interlock p = true →
           (t.pocket p).run = { k.run with tries := n } ∧ (t.pocket p).faults = k.faults
           ∧ (t.pocket p).phase = (if 0 < k.run.copies.purge then .purge else .ignition))
       ∧ (k.run.copies.tries ≤ n →
           (t.pocket p).phase = .cool
           ∧ (t.pocket p).faults = { k.faults with ignitionLockout := true }
           ∧ (t.pocket p).run = { k.run with
               tries := n, cause := .ignition, target := .cool, c := 0, coolExit := .faultHold }))

/-- Entry into HEAT, at flame proof of a gas pocket under trial or at the end of an electric hold: tries
used 0, both guards' marks cleared, the slot freed (and given on to the oldest waiting request),
HEAT_ESTABLISHED with the number of the trial or 0, and a PHASE request. The start queue holds no request
twice, which every step keeps (EveryStepKeepsTheQueues). -/
def Obligations.HeatIsEstablished : Prop :=
  ∀ (dt : Nat) (p : PocketId) (s : State), s.ss.power = .run → (s.pocket p).phase = .ignition →
    s.ssa.queue.Nodup →
    let k := s.pocket p
    let others := s.ssa.queue.filter (fun r => r ≠ ⟨p, .heatStart⟩)
    let lit (t : State) (trial : Nat) : Prop :=
      (t.pocket p).phase = .heat ∧ (t.pocket p).run = { k.run with tries := 0 }
      ∧ (t.pocket p).tempHighTripped = false ∧ (t.pocket p).runLongTripped = false
      ∧ (t.pocket p).motorRun = k.motorRun ∧ (t.pocket p).faults = k.faults
      ∧ (others = [] → t.ssa = ⟨none, []⟩)
      ∧ (∀ r rest, others = r :: rest →
          t.ssa = ⟨some ⟨r, t.time,
            (match r.kind, (s.pocket r.pocket).run.copies.heatKind with
             | .motorStart, _ => some (t.time + s.cfg.hm * 1000000)
             | .heatStart, .electric => some (t.time + s.cfg.he * 1000000)
             | .heatStart, .gas => none)⟩, rest⟩
          ∧ (r.kind = .motorStart → r.pocket ≠ p → (s.pocket r.pocket).phase = .spinup →
              (t.pocket r.pocket).motorRun = true))
      ∧ t.jc.queue = enqueue s.jc.queue p .phase t.time
      ∧ (s.cfg.classMask = 0 → s.ml.events.length < 15 →
          (⟨.heatEstablished, some p, half s.bd.clock, half trial⟩ : EventEntry) ∈ t.ml.events)
    (∀ g since, s.ssa.slot = some g → g.request = ⟨p, .heatStart⟩ → k.run.copies.heatKind = .gas →
      k.timers.trial.isSome = true → (s.sense p).heatFb.settling = none →
      (s.sense p).heatFb.level = false → (s.sense p).heatFb.cand = some since →
      since + s.cfg.filter p .heatFb * 1000 ≤ s.time + dt →
      ∃ t, exec (.contactFilterExpiry dt p .heatFb) s = .next t ∧ lit t (k.run.tries + 1))
    ∧ ∀ since τ, s.ssa.slot = some ⟨⟨p, .heatStart⟩, since, some τ⟩ → τ ≤ s.time + dt →
      k.run.copies.heatKind = .electric →
      ∃ t, exec (.heatStartHoldEnd dt) s = .next t ∧ lit t 0 ∧ actsOnPocket p s t

/-- A start request, of either kind, joins the tail of the queue behind a held slot, unless one of its
pocket and kind waits: then nothing is queued; a motor-start
hold's end frees the slot, and the oldest waiting request is granted at once with its own hold: Hm or He
seconds, and none for a gas heat start. The rest timer's expiry with the door closed posts a
MOTOR_START, which waits while the slot is held and starts the burst at once when it is free; with the
door open the pocket enters IDLE with a PHASE request. -/
def Obligations.StartsShareTheSlot : Prop :=
  (∀ (dt : Nat) (p : PocketId) (since τ : Nat) (s : State), s.ss.power = .run →
     s.ssa.slot = some ⟨⟨p, .motorStart⟩, since, some τ⟩ → τ ≤ s.time + dt → s.ssa.queue.Nodup →
     (s.ssa.queue = [] → exec (.motorStartHoldEnd dt) s
       = .next { s with time := s.time + dt, ssa := ⟨none, []⟩ })
     ∧ ∀ r rest, s.ssa.queue = r :: rest →
       ∃ t, exec (.motorStartHoldEnd dt) s = .next t
         ∧ t.ssa = ⟨some ⟨r, s.time + dt, (match r.kind, (s.pocket r.pocket).run.copies.heatKind with
             | .motorStart, _ => some (s.time + dt + s.cfg.hm * 1000000)
             | .heatStart, .electric => some (s.time + dt + s.cfg.he * 1000000)
             | .heatStart, .gas => none)⟩, rest⟩
         ∧ (t.pocket r.pocket).run = (s.pocket r.pocket).run ∧ t.pocket r.pocket.other = s.pocket r.pocket.other
         ∧ t.jc = s.jc ∧ t.journal = s.journal
         ∧ (r.kind = .motorStart → (s.pocket r.pocket).phase = .spinup →
             (t.pocket r.pocket).motorRun = true ∧ (t.pocket r.pocket).motorRev = false
             ∧ (t.pocket r.pocket).timers.startProof
                 = some (t.time + s.cfg.startProof r.pocket * 1000000))
         ∧ (r.kind = .motorStart → (s.pocket r.pocket).phase = .acRest →
             (t.pocket r.pocket).phase = .acBurst ∧ (t.pocket r.pocket).motorRun = true
             ∧ (t.pocket r.pocket).motorRev
                 = ((s.pocket r.pocket).run.reverse && !(s.pocket r.pocket).lastBurstReverse)
             ∧ (t.pocket r.pocket).lastBurstReverse = (t.pocket r.pocket).motorRev
             ∧ (t.pocket r.pocket).windowReached = false
             ∧ (t.pocket r.pocket).timers.burstProof
                 = some (t.time + s.cfg.startProof r.pocket * 1000000))) ∧
  (∀ (dt : Nat) (p : PocketId) (τ : Nat) (s : State), s.ss.power = .run → (s.pocket p).phase = .acRest →
     (s.pocket p).timers.rest = some τ → τ ≤ s.time + dt →
     ∃ t, exec (.restTimerExpiry dt p) s = .next t ∧ actsOnPocket p s t ∧ keepsLine s t
       ∧ (t.pocket p).run = (s.pocket p).run
       ∧ ((s.sense p).door.level = true → s.ssa.slot ≠ none → ⟨p, .motorStart⟩ ∉ s.ssa.queue →
           (t.pocket p).phase = .acRest ∧ t.ssa = { s.ssa with queue := s.ssa.queue ++ [⟨p, .motorStart⟩] })
       ∧ ((s.sense p).door.level = true → s.ssa.slot ≠ none → ⟨p, .motorStart⟩ ∈ s.ssa.queue →
           (t.pocket p).phase = .acRest ∧ t.ssa = s.ssa)
       ∧ ((s.sense p).door.level = true → s.ssa.slot = none → s.ssa.queue = [] →
           (t.pocket p).phase = .acBurst ∧ (t.pocket p).motorRun = true)
       ∧ ((s.sense p).door.level = false →
           (t.pocket p).phase = .idle ∧ t.jc.queue = enqueue s.jc.queue p .phase t.time)) ∧
  (∀ (dt : Nat) (p : PocketId) (τ : Nat) (s : State), s.ss.power = .run → (s.pocket p).phase = .purge →
     (s.pocket p).timers.purge = some τ → τ ≤ s.time + dt → (s.pocket p).faults.sensor = false →
     s.interlock p = true → s.ssa.slot ≠ none →
     ∃ t, exec (.purgeTimerExpiry dt p) s = .next t ∧ (t.pocket p).phase = .ignition
       ∧ t.ssa = (if ⟨p, .heatStart⟩ ∈ s.ssa.queue then s.ssa
           else { s.ssa with queue := s.ssa.queue ++ [⟨p, .heatStart⟩] }))

/-- The request chosen from the write queue is of the highest priority, then of the oldest age, then
pocket U's (R116, R119). With the bus free in RUN, and for a pocket's write in HOLD_UP with VHU at or
above the write floor, it leaves the queue and starts: a pocket's write with its snapshot, at the ring's
next slot with its next sequence, the pair taken first in a running phase; a store with the block of the
working copy as it stands; a service read; each with its transfer on the bus (R121, R130, R132; the device
address by its name, log 41). A write to a ring that is EXHAUSTED or UNREADABLE is refused: it leaves the
queue without a transfer, JOURNAL_FAULT is set, and posted if it was clear, and the controller chooses
again at the same instant. In HOLD_UP a start that finds VHU below the write floor discards the whole
queue, and HOLD_UP ends in DARK with the return mark clear. Where HOLD_UP ends in WAKE or in DARK the
model's choices of logs 17, 27 and 37 stand in it. -/
def Obligations.JournalRequestsStart : Prop :=
  (∀ queue : List WriteRequest,
     let rank : WriteKind → Nat
       | .checkpoint _ .loss => 1
       | .checkpoint _ .start | .checkpoint _ .phase | .checkpoint _ .resume => 2
       | .checkpoint _ .periodic => 3
       | .store | .read _ _ => 4
     (queue = [] → chooseRequest queue = none)
     ∧ (queue ≠ [] → (chooseRequest queue).isSome = true)
     ∧ ∀ w, chooseRequest queue = some w → w ∈ queue ∧ ∀ x ∈ queue,
       rank w.what < rank x.what
       ∨ (rank w.what = rank x.what ∧ (w.age < x.age
         ∨ (w.age = x.age ∧ (w.ofPocket .U = true ∨ x.ofPocket .U = false))))) ∧
  (∀ (dt : Nat) (w : WriteRequest) (s : State),
     s.ss.power = .run ∨ (s.ss.power = .holdUp ∧ s.cfg.writeFloor ≤ s.ss.vhu.toNat) →
     s.jc.engine = .free → chooseRequest s.jc.queue = some w → ∀ p kind, w.what = .checkpoint p kind →
     ((s.jc.rings.get p).condition = .writable →
       ∃ t, exec (.checkpointWriteStart dt) s = .next t
         ∧ t.jc = { s.jc with
             queue := s.jc.queue.erase w
             engine := .busy (.checkpoint p (s.jc.rings.get p).nextSlot (s.jc.rings.get p).nextSeq
               (CheckpointRecord.encode
                 { pocket := p, seq := (s.jc.rings.get p).nextSeq, kind := kind
                   phase := (s.pocket p).phase.recorded (s.pocket p).run.target
                   run := (t.pocket p).run, faults := (s.pocket p).faults
                   clock := s.bd.clock, epoch := s.bd.epoch
                   trefForeign := (t.pocket p).run.tref.epoch != s.bd.epoch
                   acForeign := (s.pocket p).run.acStart.epoch != s.bd.epoch })) 1 .transfer }
         ∧ (∀ slot seq image, t.jc.engine = .busy (.checkpoint p slot seq image) 1 .transfer →
             t.onBus = [.start, .addressWrite, .send (byteNat (slotAddress p slot / 256)),
                 .send (byteNat (slotAddress p slot % 256))]
               ++ image.map (fun b => .send b) ++ [.stop])
         ∧ (t.pocket p).run =
             (match (s.sense p).theta with
              | some th =>
                if (s.pocket p).phase.running ∧ (s.pocket p).frozen = false
                    ∧ (s.pocket p).faults.sensor = false then
                  { (s.pocket p).run with thetaRef := th, tref := ⟨s.bd.clock, s.bd.epoch⟩ }
                else (s.pocket p).run
              | none => (s.pocket p).run)
         ∧ { t with jc := s.jc, psq := s.psq } = { s with time := s.time + dt }
         ∧ t.pocket p.other = s.pocket p.other)
     ∧ ∀ cause, ((s.jc.rings.get p).condition = .exhausted ∧ cause = .exhausted)
         ∨ ((s.jc.rings.get p).condition = .unreadable ∧ cause = .unreadable) →
       let set : State := { s with
         jc := { s.jc with queue := s.jc.queue.erase w }
         ss := { s.ss with journalFault := some (cause, .ring p) } }
       let refused : State :=
         if s.ss.journalFault = none then
           set.post .journalFault (some p) (pairArg cause.code (match p with | .U => 0#8 | .L => 1#8))
         else set
       (s.jc.queue.erase w ≠ [] →
         exec (.checkpointWriteStart dt) s = exec (.checkpointWriteStart dt) refused)
       ∧ (s.jc.queue.erase w = [] →
         (s.ss.power = .run →
           exec (.checkpointWriteStart dt) s = .next { refused with time := s.time + dt })
         ∧ (s.ss.power = .holdUp → ∃ t, exec (.checkpointWriteStart dt) s = .next t
             ∧ holdUpLeads { refused with time := s.time + dt } t))) ∧
  (∀ (dt : Nat) (w : WriteRequest) (s : State), s.ss.power = .run → s.jc.engine = .free →
     chooseRequest s.jc.queue = some w →
     (w.what = .store →
       ∃ t, exec (.configStoreStart dt) s = .next t
         ∧ t = { s with
             time := s.time + dt
             jc := { s.jc with
               queue := s.jc.queue.erase w
               engine := .busy (.store (composeBlock s.cfg)) 1 .transfer } }
         ∧ t.onBus = [.start, .addressWrite, .send 0#8, .send 0#8]
           ++ (composeBlock s.cfg).map (fun b => .send b) ++ [.stop])
     ∧ ∀ p i, w.what = .read p i →
       ∃ t, exec (.journalReadStart dt) s = .next t
         ∧ t = { s with
             time := s.time + dt
             jc := { s.jc with
               queue := s.jc.queue.erase w, engine := .busy (.read p i) 1 .transfer } }
         ∧ t.onBus = [.start, .addressWrite, .send (byteNat (slotAddress p i / 256)),
             .send (byteNat (slotAddress p i % 256)), .repeatedStart, .addressRead]
           ++ List.replicate 63 (.receive true) ++ [.receive false, .stop]) ∧
  (∀ (dt : Nat) (s : State), s.ss.power = .holdUp → s.jc.engine = .free → s.jc.queue ≠ [] →
     s.ss.vhu.toNat < s.cfg.writeFloor →
     ∃ t, exec (.checkpointWriteStart dt) s = .next t ∧ t.jc.queue = [] ∧ t.jc.engine = .free
       ∧ t.journal = s.journal
       ∧ (s.ss.returnMark = false → t.ss.power = .dark ∧ t.bd = s.bd)
       ∧ (s.ss.returnMark = true → s.ss.vhu.toNat < s.cfg.wakeCode → t.ss.power = .holdUp))

/-- A completed write stands in its slot, byte for byte, and advances its ring alone; a completed store
stands in the configuration block and answers OK; a completed read answers with the slot's bytes by R179.
Every other byte of the memory stays. In HOLD_UP the same is done, and HOLD_UP goes on or ends by what is
left (R105, R106; a reply composed at the instant of DARK is lost unsent, log 37): with nothing queued and
nothing in flight it ends in DARK when the return mark is clear, and in WAKE when the mark is set and VHU
is at or above the wake threshold. A GOOD half-cycle sets the mark and a MISSING one clears it, which may
end HOLD_UP at that instant, and so may VHU when it reaches the wake threshold. A WAKE so entered has the
model's choices of logs 17 and 27, and the slot a read answers with is judged by its bytes alone (log 43).
-/
def Obligations.CompletionsStoreAndReply : Prop :=
  (∀ (dt n : Nat) (s : State), s.ss.power = .run → s.journalSafe = true →
    (∀ p slot seq image, s.jc.engine = .busy (.checkpoint p slot seq image) n .transfer →
      ∃ t, exec (.checkpointWriteComplete dt) s = .next t
        ∧ (∀ a, Memory.read t.journal a =
            if slotAddress p slot ≤ a ∧ a < slotAddress p slot + image.length then
              image.getD (a - slotAddress p slot) 0#8
            else Memory.read s.journal a)
        ∧ t.jc.rings = s.jc.rings.set p
            ⟨some (slot, seq), slot + 1, (if seq = 4294967295 then seq else seq + 1),
              (if seq = 4294967295 then .exhausted else .writable)⟩
        ∧ t.jc.engine = .free
        ∧ { t with jc := { s.jc with engine := t.jc.engine, rings := t.jc.rings }, journal := s.journal }
            = { s with time := s.time + dt, jc := t.jc })
    ∧ (∀ block o, s.jc.engine = .busy (.store block) n .transfer → s.ml.orphan = false →
      s.ml.outstanding = some o →
      ∃ t, exec (.configStoreComplete dt) s = .next t
        ∧ (∀ a, Memory.read t.journal a =
            if a < block.length then block.getD a 0#8 else Memory.read s.journal a)
        ∧ t.storeCut = false
        ∧ { t with journal := s.journal, storeCut := s.storeCut } = { s with
            time := s.time + dt
            jc := { s.jc with engine := .free }
            ml := { s.ml with tx := s.ml.tx ++ [⟨false, replyFrame o.kind o.tag ⟨.ok, []⟩⟩] } })
    ∧ (∀ p i o, s.jc.engine = .busy (.read p i) n .transfer → s.ml.orphan = false →
      s.ml.outstanding = some o →
      let bytes := Memory.readBytes s.journal (slotAddress p i) 64
      exec (.journalReadComplete dt) s = .next
        { s with
          time := s.time + dt
          jc := { s.jc with engine := .free }
          ml := { s.ml with tx := s.ml.tx ++ [⟨false, replyFrame o.kind o.tag ⟨.ok,
            [byteNat i.val ||| (if p = .L then 0x80#8 else 0#8),
             (match readRecord p bytes with
              | .ok _ => 0#8
              | .error .badMark => 1#8
              | .error .badPocket => 2#8
              | .error .badCheck => 3#8
              | .error .badField => 4#8)
              ||| (if (s.jc.rings.get p).newest.map (·.1) = some i then 0x80#8 else 0#8)]
            ++ bytes.take 54 ++ (bytes.drop 62).take 2
            ++ [byteNat (((bytes.drop 54).take 8).countP (· != 0#8))]⟩⟩] } })
    ∧ ∀ block, s.jc.engine = .busy (.store block) n .transfer → s.ml.orphan = true →
      ∃ t, exec (.configStoreComplete dt) s = .next t ∧ t.ml = { s.ml with orphan := false }) ∧
  (∀ (dt n : Nat) (s : State), s.ss.power = .holdUp →
    (∀ p slot seq image, s.jc.engine = .busy (.checkpoint p slot seq image) n .transfer →
      ∃ t, exec (.checkpointWriteComplete dt) s = .next t
        ∧ holdUpLeads { s with
            time := s.time + dt
            journal := Memory.writeBytes s.journal (slotAddress p slot) image
            jc := { s.jc with
              engine := .free
              rings := s.jc.rings.set p
                ⟨some (slot, seq), slot + 1, (if seq = 4294967295 then seq else seq + 1),
                  (if seq = 4294967295 then .exhausted else .writable)⟩ } } t)
    ∧ (∀ block o, s.jc.engine = .busy (.store block) n .transfer → s.ml.orphan = false →
      s.ml.outstanding = some o →
      ∃ t, exec (.configStoreComplete dt) s = .next t
        ∧ holdUpLeads { s with
            time := s.time + dt
            journal := Memory.writeBytes s.journal 0 block
            storeCut := false
            jc := { s.jc with engine := .free }
            ml := { s.ml with tx := s.ml.tx ++ [⟨false, replyFrame o.kind o.tag ⟨.ok, []⟩⟩] } } t)
    ∧ ∀ p i o, s.jc.engine = .busy (.read p i) n .transfer → s.ml.orphan = false →
      s.ml.outstanding = some o →
      ∃ t, exec (.journalReadComplete dt) s = .next t
        ∧ holdUpLeads { s with
            time := s.time + dt
            jc := { s.jc with engine := .free }
            ml := { s.ml with tx := s.ml.tx ++ [⟨false, replyFrame o.kind o.tag ⟨.ok,
              slotReport p i ((s.jc.rings.get p).newest.map (·.1) == some i)
                (Memory.readBytes s.journal (slotAddress p i) 64)⟩⟩] } } t) ∧
  (∀ (dt : Nat) (v : Byte) (s : State), s.ss.power = .holdUp →
    let marked (t : State) (mark : Bool) : Prop :=
      holdUpLeads { s with
        time := s.time + dt, lm := t.lm, ml := t.ml, ss := { s.ss with returnMark := mark } } t
      ∧ (t.ss.power = .holdUp → keepsLine s t)
    (∀ last, s.lm.lastCrossing = some last → s.lm.missed = false → 7000 ≤ s.time + dt - last →
      (s.time + dt - last ≤ 11500 → s.cfg.lowThreshold ≤ max s.lm.peak.toNat v.toNat →
        ∃ t, exec (.zeroCrossing dt v) s = .next t ∧ marked t true)
      ∧ (11500 < s.time + dt - last →
        ∃ t, exec (.zeroCrossing dt v) s = .next t ∧ marked t false))
    ∧ (s.lm.silence ≤ s.time + dt →
      ∃ t, exec (.silenceTimerExpiry dt) s = .next t ∧ marked t false)
    ∧ ∃ t, exec (.vhuReachesWake dt v) s = .next t
      ∧ holdUpLeads { s with
          time := s.time + dt
          ss := { s.ss with
            vhu := v
            atWake := decide (s.cfg.wakeCode ≤ v.toNat)
            atFloor := s.ss.atFloor || s.cfg.writeFloor ≤ v.toNat
            atDark := s.ss.atDark || s.cfg.darkCode ≤ v.toNat } } t)

/-- A first or second failed attempt of any job leaves the acknowledged bytes of a write and of a store,
whose block's check then fails (R176, log 34), and an unchanged memory for a read; it raises the attempt
count, posts JOURNAL_RETRY for the pocket of the ring written or none, and waits 1 ms; the wait's end
starts the attempt. A NO_ACK abandons the transfer with a stop condition, on each of the three attempts
(R123). A bus timeout leads to recovery, SDA released, nine clock pulses and a stop, whose end starts the
next attempt at once. A third failure of a checkpoint write discards the request with JOURNAL_FAULT set
and posted and an unchanged ring; of a store or a service read it also answers STORE_FAILED, or nothing
for the orphan, and the event carries no pocket (log 36); in HOLD_UP, HOLD_UP then goes on or ends by what
is left (in DARK with a reply lost unsent, log 37; in WAKE by the choices of logs 17 and 27). Of the
configuration read it gives the defaults with CONFIG_DEFAULTED before the event is posted (log 40); of a
slot read it makes the ring UNREADABLE, with its event before those of the scan's end (log 40), and ring L
follows ring U, or the scan ends, here with VHU below the arm threshold. -/
def Obligations.FailedAttemptsAreRetriedTwice : Prop :=
  (∀ (dt acked n : Nat) (p : PocketId) (slot : Fin 124) (seq : Nat) (image : List Byte) (s : State),
    s.ss.power = .run ∨ s.ss.power = .holdUp → s.journalSafe = true → acked < image.length →
    let job : Job := .checkpoint p slot seq image
    let place : Byte := match p with
      | .U => 0#8
      | .L => 1#8
    let stored (t : State) : Prop := ∀ a, Memory.read t.journal a =
      if slotAddress p slot ≤ a ∧ a < slotAddress p slot + acked then
        image.getD (a - slotAddress p slot) 0#8
      else Memory.read s.journal a
    let rest (t : State) : Prop := t.psq = s.psq ∧ t.cfg = s.cfg ∧ t.bd = s.bd ∧ t.rp = s.rp
      ∧ t.ssa = s.ssa ∧ t.jc.rings = s.jc.rings ∧ t.jc.queue = s.jc.queue ∧ keepsLine s t
    let retried (t : State) (cause : Byte) : Prop :=
      s.cfg.classMask = 0 → s.ml.events.length < 16 → t.ml.events = s.ml.events
        ++ [⟨.journalRetry, some p, half s.bd.clock, pairArg (byteNat (n + 1)) cause⟩]
    let told (t : State) (cause : Byte) : Prop :=
      s.cfg.classMask = 0 → s.ml.events.length < 16 → t.ml.events = s.ml.events
        ++ [⟨.journalFault, some p, half s.bd.clock, pairArg cause place⟩]
    let leads (t : State) (journal : List Host.Cell) (cause : JournalCause) : Prop :=
      holdUpLeads { s with
        time := s.time + dt, journal := journal, ml := t.ml
        ss := { s.ss with journalFault := some (cause, .ring p) }
        jc := { s.jc with engine := .free } } t
    (s.jc.engine = .busy job n .transfer → n < 3 →
      s.onNoAck = [.stop]
      ∧ ∃ t, exec (.attemptNoAck dt acked) s = .next t ∧ stored t ∧ rest t ∧ retried t 1#8
        ∧ t.jc.engine = .busy job (n + 1) (.retryWait (s.time + dt + 1000))
        ∧ t.onBus = [.stop] ∧ t.storeCut = s.storeCut)
    ∧ (s.jc.engine = .busy job 3 .transfer →
      s.onNoAck = [.stop] ∧
      ∃ t, exec (.attemptNoAck dt acked) s = .next t ∧ stored t
        ∧ (s.ss.power = .run → rest t ∧ t.jc.engine = .free ∧ told t 1#8
          ∧ t.ss = { s.ss with journalFault := some (.noAck, .ring p) })
        ∧ (s.ss.power = .holdUp → leads t t.journal .noAck
          ∧ (t.ss.power = .holdUp → rest t ∧ told t 1#8)))
    ∧ (∀ τ, s.jc.engine = .busy job n (.retryWait τ) → τ ≤ s.time + dt →
      exec (.retryWaitExpiry dt) s = .next
        { s with time := s.time + dt, jc := { s.jc with engine := .busy job n .transfer } })
    ∧ (s.jc.engine = .busy job n .transfer →
      ∃ t, exec (.busTimeout dt acked) s = .next t ∧ stored t ∧ rest t
        ∧ t.jc.engine = .busy job n .recovery
        ∧ t.onBus = [.releaseSda, .clockPulse, .clockPulse, .clockPulse, .clockPulse, .clockPulse,
            .clockPulse, .clockPulse, .clockPulse, .clockPulse, .stop])
    ∧ (s.jc.engine = .busy job n .recovery → n < 3 →
      ∃ t, exec (.recoveryEnd dt) s = .next t ∧ t.journal = s.journal ∧ rest t ∧ retried t 2#8
        ∧ t.jc.engine = .busy job (n + 1) .transfer)
    ∧ (s.jc.engine = .busy job 3 .recovery →
      ∃ t, exec (.recoveryEnd dt) s = .next t ∧ t.journal = s.journal
        ∧ (s.ss.power = .run → rest t ∧ t.jc.engine = .free ∧ told t 2#8
          ∧ t.ss = { s.ss with journalFault := some (.timeout, .ring p) })
        ∧ (s.ss.power = .holdUp → leads t s.journal .timeout
          ∧ (t.ss.power = .holdUp → rest t ∧ told t 2#8)))) ∧
  (∀ (dt acked n : Nat) (job : Job) (s : State), s.ss.power.working = true → s.journalSafe = true →
    (∀ p slot seq image, job ≠ .checkpoint p slot seq image) →
    (∀ block, job = .store block → acked < block.length) →
    let stored (t : State) : Prop :=
      (∀ block, job = .store block →
        t.storeCut = (s.storeCut || decide (0 < acked))
        ∧ ∀ a, Memory.read t.journal a =
          if a < acked then block.getD a 0#8 else Memory.read s.journal a)
      ∧ ((∀ block, job ≠ .store block) → t.journal = s.journal ∧ t.storeCut = s.storeCut)
    let retried (t : State) (cause : Byte) (ph : EnginePhase) : Prop :=
      t.jc = { s.jc with engine := .busy job (n + 1) ph } ∧ t.ss = s.ss ∧ t.cfg = s.cfg
      ∧ t.psq = s.psq ∧ keepsLine s t
      ∧ (s.cfg.classMask = 0 → s.ml.events.length < 16 → t.ml.events = s.ml.events
          ++ [⟨.journalRetry, none, half s.bd.clock, pairArg (byteNat (n + 1)) cause⟩])
    (n < 3 → s.jc.engine = .busy job n .transfer →
      s.onNoAck = [.stop]
      ∧ ∃ t, exec (.attemptNoAck dt acked) s = .next t ∧ stored t
        ∧ retried t 1#8 (.retryWait (s.time + dt + 1000)) ∧ t.onBus = [.stop])
    ∧ (s.jc.engine = .busy job n .transfer →
      ∃ t, exec (.busTimeout dt acked) s = .next t ∧ stored t
        ∧ t.jc = { s.jc with engine := .busy job n .recovery } ∧ t.ss = s.ss ∧ t.ml = s.ml)
    ∧ (n < 3 → s.jc.engine = .busy job n .recovery →
      ∃ t, exec (.recoveryEnd dt) s = .next t ∧ t.journal = s.journal ∧ t.storeCut = s.storeCut
        ∧ retried t 2#8 .transfer)
    ∧ ∀ place, (∃ block, job = .store block) ∧ place = .configBlock
        ∨ (∃ p i, job = .read p i) ∧ place = .serviceRead →
      let spent (t : State) (cause : JournalCause) (causeCode : Byte) : Prop :=
        let code : Byte := if place = .configBlock then 2#8 else 3#8
        let ss := { s.ss with journalFault := some (cause, place) }
        let told : Prop :=
          t.psq = s.psq ∧ t.cfg = s.cfg ∧ t.bd = s.bd ∧ t.ml.orphan = false
          ∧ (s.ml.orphan = true → t.ml.tx = s.ml.tx)
          ∧ (s.ml.orphan = false → ∀ o, s.ml.outstanding = some o →
              t.ml.tx = s.ml.tx ++ [⟨false, replyFrame o.kind o.tag ⟨.storeFailed, []⟩⟩])
          ∧ (s.cfg.classMask = 0 → s.ml.events.length < 16 → t.ml.events = s.ml.events
              ++ [⟨.journalFault, none, half s.bd.clock, pairArg causeCode code⟩])
        (s.ss.power = .run → t.jc = { s.jc with engine := .free } ∧ t.ss = ss ∧ told)
        ∧ (s.ss.power = .holdUp →
          holdUpLeads { s with
            time := s.time + dt, journal := t.journal, storeCut := t.storeCut, ml := t.ml, ss := ss
            jc := { s.jc with engine := .free } } t
          ∧ (t.ss.power = .holdUp → told))
      s.ss.power = .run ∨ s.ss.power = .holdUp →
      (s.jc.engine = .busy job 3 .transfer →
        s.onNoAck = [.stop]
        ∧ ∃ t, exec (.attemptNoAck dt acked) s = .next t ∧ stored t ∧ spent t .noAck 1#8)
      ∧ (s.jc.engine = .busy job 3 .recovery →
        ∃ t, exec (.recoveryEnd dt) s = .next t ∧ t.journal = s.journal ∧ t.storeCut = s.storeCut
          ∧ spent t .timeout 2#8)) ∧
  (∀ (dt acked : Nat) (sc : Scan) (s : State), s.ss.power = .wake .load → s.jc.scan = some sc →
    let faulted (t : State) (cause : JournalCause) (place : JournalPlace) : Prop :=
      t.ss.journalFault = some (cause, place) ∧ t.journal = s.journal ∧ t.jc.queue = s.jc.queue
    let unread (t : State) (cause : JournalCause) : Prop :=
      faulted t cause .configBlock
      ∧ t.cfg = Config.defaults ∧ t.ss.configDefaulted = true
      ∧ (∀ p, t.pocket p = { s.pocket p with
          run := { (s.pocket p).run with copies := ⟨.gas, 30, 10, 3, 1200⟩ } })
      ∧ t.jc = { s.jc with engine := .busy (.slotRead .U 0) 1 .transfer }
      ∧ (s.ml.events.length < 16 → t.ml.events = s.ml.events
          ++ [⟨.journalFault, none, half s.bd.clock,
            pairArg (match cause with | .noAck => 1#8 | _ => 2#8) 2#8⟩])
    let ringU (t : State) (cause : JournalCause) : Prop :=
      faulted t cause (.ring .U) ∧ t.psq = s.psq ∧ t.cfg = s.cfg
      ∧ t.jc = { s.jc with
          engine := .busy (.slotRead .L 0) 1 .transfer
          scan := some { sc with rings := ⟨⟨true, none⟩, sc.rings.l⟩ } }
      ∧ (s.cfg.classMask = 0 → s.ml.events.length < 16 → t.ml.events = s.ml.events
          ++ [⟨.journalFault, some .U, half s.bd.clock,
            pairArg (match cause with | .noAck => 1#8 | _ => 2#8) 0#8⟩])
    let ringL (t : State) (cause : JournalCause) : Prop :=
      faulted t cause (.ring .L) ∧ t.cfg = s.cfg
      ∧ t.ss.power = .wake .arm ∧ t.jc.engine = .free ∧ t.jc.scan = none
      ∧ t.jc.rings.l = ⟨none, 0, 1, .unreadable⟩
      ∧ (∃ pl, t.rp.get .L = some pl ∧ pl.kind = .stayFault ∧ pl.dest = .faultHold)
      ∧ (s.cfg.classMask = 0 → s.ml.events.length < 16 →
          (⟨.journalFault, some .L, half s.bd.clock,
            pairArg (match cause with | .noAck => 1#8 | _ => 2#8) 1#8⟩ : EventEntry) ∈ t.ml.events)
    (s.jc.engine = .busy .configRead 3 .transfer →
      ∃ t, exec (.attemptNoAck dt acked) s = .next t ∧ unread t .noAck)
    ∧ (s.jc.engine = .busy .configRead 3 .recovery →
      ∃ t, exec (.recoveryEnd dt) s = .next t ∧ unread t .timeout)
    ∧ (∀ slot, s.jc.engine = .busy (.slotRead .U slot) 3 .transfer →
      ∃ t, exec (.attemptNoAck dt acked) s = .next t ∧ ringU t .noAck)
    ∧ (∀ slot, s.jc.engine = .busy (.slotRead .U slot) 3 .recovery →
      ∃ t, exec (.recoveryEnd dt) s = .next t ∧ ringU t .timeout)
    ∧ (∀ slot, s.jc.engine = .busy (.slotRead .L slot) 3 .transfer → s.ss.vhu.toNat < s.cfg.armCode →
      ∃ t, exec (.attemptNoAck dt acked) s = .next t ∧ ringL t .noAck)
    ∧ ∀ slot, s.jc.engine = .busy (.slotRead .L slot) 3 .recovery → s.ss.vhu.toNat < s.cfg.armCode →
      ∃ t, exec (.recoveryEnd dt) s = .next t ∧ ringL t .timeout)

/-- In WAKE/LOAD the configuration read replaces the working copy by R175, fills the cycle-bound copies,
with the defaults for a block that a cut store left (R176, log 34), compares VHU with the loaded
thresholds (R98, log 11) and begins the slot reads of ring U; the Input Conditioner stays as it was, which
is the model's choice where the load makes an expiry due at once (R33, log 35); a slot read, whose bytes
alone decide (log 43), offers a valid record to the ring's best slot and goes on to the next slot, or from
slot 123 of ring U to ring L. The end of the scan, here at the last slot of ring L: ring states built, run
records filled, an epoch that was 0 chosen (1 with no valid record, else the largest plus one, and past
65,535 the least that no valid record carries), BACKUP_LOST raised and posted then for a recovered record
that is neither IDLE nor DONE, the door watches disarmed, a plan for each pocket, the planner's decision
on what was recovered, and ARM entered with its timer; with VHU at or above the arm threshold RUN is
entered at that instant with each plan applied. -/
def Obligations.TheLoadSequenceEndsInArm : Prop :=
  (∀ (dt n : Nat) (sc : Scan) (s : State), s.ss.power = .wake .load → s.jc.scan = some sc →
     (s.jc.engine = .busy .configRead n .transfer →
       let bs := Memory.readBytes s.journal 0 512
       ∃ t, exec (.configurationReadComplete dt) s = .next t
         ∧ (t.cfg, t.ss.configDefaulted) = (
             let good := byteAt bs 0 = 0xA7#8 ∧ byteAt bs 1 = 178#8
               ∧ (crc16 (bs.take 180)).toNat = u16At bs 180
             let read := blockFields bs
             if good ∧ s.storeCut = false then (correctCopy read, s.ss.configDefaulted || (correctCopy read != read))
             else (Config.defaults, s.ss.configDefaulted || (byteAt bs 0 == 0xA7#8)))
         ∧ (∀ p, t.pocket p = { s.pocket p with
             run := { (s.pocket p).run with copies := t.cfg.copies p } })
         ∧ t.ss = { s.ss with
             configDefaulted := t.ss.configDefaulted
             atWake := s.ss.atWake && t.cfg.wakeCode ≤ s.ss.vhu.toNat
             atFloor := s.ss.atFloor || t.cfg.writeFloor ≤ s.ss.vhu.toNat
             atDark := s.ss.atDark || t.cfg.darkCode ≤ s.ss.vhu.toNat }
         ∧ t.jc = { s.jc with engine := .busy (.slotRead .U 0) 1 .transfer }
         ∧ t.onBus = [.start, .addressWrite, .send 2#8, .send 0#8, .repeatedStart, .addressRead]
             ++ List.replicate 63 (.receive true) ++ [.receive false, .stop]
         ∧ { t with cfg := s.cfg, ss := s.ss, psq := s.psq, jc := s.jc }
             = { s with time := s.time + dt })
     ∧ (∀ p slot, s.jc.engine = .busy (.slotRead p slot) n .transfer → (slot ≠ 123 ∨ p = .U) →
       let bs := Memory.readBytes s.journal (slotAddress p slot) 64
       exec (.slotReadComplete dt) s = .next
         { s with
           time := s.time + dt
           jc := { s.jc with
             engine := .busy (if slot = 123 then .slotRead .L 0 else .slotRead p (slot + 1)) 1 .transfer
             scan := some (match readRecord p bs with
               | .error _ => sc
               | .ok r =>
                 { rings := sc.rings.set p
                     (match (sc.rings.get p).best with
                      | some b => if r.seq < b.seq then sc.rings.get p
                          else { sc.rings.get p with best := some ⟨slot, r.seq, bs⟩ }
                      | none => { sc.rings.get p with best := some ⟨slot, r.seq, bs⟩ })
                   epochs := if r.epoch ∈ sc.epochs then sc.epochs else r.epoch :: sc.epochs }) } })) ∧
  (∀ (dt n : Nat) (sc : Scan) (s : State), s.ss.power = .wake .load → s.jc.scan = some sc →
     s.jc.engine = .busy (.slotRead .L 123) n .transfer →
     let sc' := sc.take .L 123 (Memory.readBytes s.journal (slotAddress .L 123) 64)
     let lost : Prop := s.bd.epoch = 0 ∧ ∃ p, (sc'.rings.get p).unreadable = false
       ∧ ∃ b, (sc'.rings.get p).best = some b
         ∧ ∃ r, readRecord p b.bytes = .ok r ∧ r.phase ≠ .idle ∧ r.phase ≠ .done
     let scanned (t : State) : Prop :=
       t.jc.engine = .free ∧ t.jc.scan = none
       ∧ t.cfg = s.cfg ∧ t.journal = s.journal ∧ t.ic = s.ic ∧ t.lm = s.lm
       ∧ (∀ p, t.jc.rings.get p = (
           if (sc'.rings.get p).unreadable then ⟨none, 0, 1, .unreadable⟩
           else match (sc'.rings.get p).best with
             | none => ⟨none, 0, 1, .writable⟩
             | some b => ⟨some (b.slot, b.seq), b.slot + 1,
                 (if b.seq = 4294967295 then b.seq else b.seq + 1),
                 (if b.seq = 4294967295 then .exhausted else .writable)⟩))
       ∧ (∀ p, t.bd.watch.get p = { s.bd.watch.get p with armed := false })
       ∧ t.bd.clock = s.bd.clock ∧ t.bd.valid = s.bd.valid
       ∧ (s.bd.epoch ≠ 0 → t.bd.epoch = s.bd.epoch)
       ∧ (s.bd.epoch = 0 → sc'.epochs = [] → t.bd.epoch = 1)
       ∧ (s.bd.epoch = 0 → ∀ m ∈ sc'.epochs, (∀ e ∈ sc'.epochs, e ≤ m) →
           (m < 65535 → t.bd.epoch = m + 1)
           ∧ (65535 ≤ m → 1 ∉ sc'.epochs → t.bd.epoch = 1)
           ∧ (65535 ≤ m → 1 ∈ sc'.epochs → 2 ≤ t.bd.epoch ∧ t.bd.epoch ∉ sc'.epochs
               ∧ ∀ e < t.bd.epoch, 2 ≤ e → e ∈ sc'.epochs))
       ∧ (lost → t.ss.backupLost = true
           ∧ (s.cfg.classMask = 0 → s.ml.events.length < 16 →
               (⟨.backupLost, none, half s.bd.clock, half t.bd.epoch⟩ : EventEntry) ∈ t.ml.events))
       ∧ (¬ lost → t.ss.backupLost = s.ss.backupLost)
     (s.ss.vhu.toNat < s.cfg.armCode →
       ∃ t, exec (.slotReadComplete dt) s = .next t ∧ scanned t
         ∧ t.ss.power = .wake .arm ∧ t.ss.armTimer = some (s.time + dt + 60000000)
         ∧ t.jc.queue = s.jc.queue ∧ t.ssa = s.ssa
         ∧ (∀ p, (t.pocket p).phase = (s.pocket p).phase ∧ (t.pocket p).faults = (s.pocket p).faults
             ∧ (t.pocket p).motorRun = (s.pocket p).motorRun)
         ∧ (∀ p, (sc'.rings.get p).unreadable = false → ∀ b r, (sc'.rings.get p).best = some b →
             readRecord p b.bytes = .ok r → (t.pocket p).run = r.run ∧ (t.pocket p).frozen = true
               ∧ (t.pocket p).recovered = .record r.kind r.phase r.faults)
         ∧ (∀ p, (sc'.rings.get p).unreadable = true → (t.pocket p).recovered = .unreadable
             ∧ ∃ pl, t.rp.get p = some pl ∧ pl.kind = .stayFault ∧ pl.dest = .faultHold)
         ∧ (∀ p, (sc'.rings.get p).unreadable = false → (sc'.rings.get p).best = none →
             (t.pocket p).run = (s.pocket p).run ∧ (t.pocket p).recovered = .none
             ∧ ∃ pl, t.rp.get p = some pl ∧ pl.kind = .stayIdle ∧ pl.dest = .idle)
         ∧ ∀ p, t.rp.get p = some (scanPlan s.cfg t.bd (s.sense p) (t.pocket p).run
             (t.pocket p).recovered (s.bd.watch.get p).count))
     ∧ (s.cfg.armCode ≤ s.ss.vhu.toNat →
       ∃ t, exec (.slotReadComplete dt) s = .next t ∧ scanned t
         ∧ t.ss.power = .run ∧ t.ss.armTimer = none ∧ t.ss.storeWeak = s.ss.storeWeak
         ∧ (∀ p, (t.pocket p).faults = (match (t.pocket p).recovered with
             | .record _ _ f => f
             | _ => ⟨false, false, false, false, false, false⟩))
         ∧ ∀ p, ∃ pl, t.rp.get p = some pl ∧ pl.applied = true
             ∧ pl.doorCount = (s.bd.watch.get p).count))

/-- A working copy that is whole, in range and in order loads back from its own block as the same copy
without CONFIG_DEFAULTED. A record whose run record is in range reads back from its 64 bytes as itself,
with its stamps in the record's epoch or, where the foreign flag is set, in epoch 0. -/
def Obligations.StoredDataReadsBack : Prop :=
  (∀ c : WorkingCopy, copySafe c = true →
     (composeBlock c).length = 512 ∧ loadBlock (composeBlock c) = (c, false)) ∧
  (∀ r : CheckpointRecord, r.run.inRange = true → 1 ≤ r.seq → r.seq < 4294967296 → 1 ≤ r.epoch →
     r.epoch < 65536 → r.clock < 4294967296 → r.run.h < 65536 → r.run.c < 65536 →
     r.run.tref.clock < 4294967296 → r.run.acStart.clock < 4294967296 →
     r.encode.length = 64 ∧ readRecord r.pocket r.encode = .ok { r with
       run := { r.run with
         tref := ⟨r.run.tref.clock, if r.trefForeign then 0 else r.epoch⟩
         acStart := ⟨r.run.acStart.clock, if r.acForeign then 0 else r.epoch⟩ } })

/-- In every plan over a working copy in range: the factor f is R145's, from the decay table and step S, 0
when E is UNKNOWN; θN is R146's in its four cases; R and D' are R147's; f is at most 256, θN at most θref,
R at most Rmax, and D' at most D. The live figures of CONTINUE, CONFIRM and DECLINE are those of the live
run record, with E by R111 and the distrust of R144. At the end of a scan the plan of a pocket is decided
by what was recovered: no record stays IDLE and an unreadable ring stays in FAULT_HOLD; a record in HEAT
resumes, or is held for the reasons of R148; in COOL the load at or below θX leads to the cool exit and a
warmer one resumes cooling; in ANTICREASE it finishes, or resumes with what is left of the window; and in
PAUSED, HELD, FAULT, DONE and IDLE it stays. -/
def Obligations.PlanFiguresStayInBounds : Prop :=
  (∀ (c : WorkingCopy) (run : RunRecord) (e : Option Nat) (theta : Option Int) (distrust : Bool),
    copySafe c = true →
    let g := figures c run e theta distrust
    let F (i : Nat) : Nat := (c.plan.getD (6 + i) 0).toNat
    let step : Nat := (c.plan.getD 1 0).toNat
    let ambient : Int := c.plan.getD 0 0
    g.e = e ∧ g.delta = (run.thetaRef - g.thetaN).toNat
      ∧ g.f = (match e with
        | none => 0
        | some e =>
          if 15 ≤ e / step then F 15
          else F (e / step) - (F (e / step) - F (e / step + 1)) * (e % step) / step)
      ∧ (e ≠ none → ambient < run.thetaRef →
          g.thetaN = ambient + (run.thetaRef - ambient) * g.f / 256)
      ∧ (e ≠ none → run.thetaRef ≤ ambient → g.thetaN = run.thetaRef)
      ∧ (e = none → distrust = false → ∀ th, theta = some th →
          g.thetaN = max (min ambient run.thetaRef) (min run.thetaRef th))
      ∧ (e = none → distrust = true ∨ theta = none → g.thetaN = min ambient run.thetaRef)
      ∧ g.f ≤ 256 ∧ g.thetaN ≤ run.thetaRef ∧ g.r ≤ c.rmax ∧ g.dPrime ≤ run.d
      ∧ g.dPrime = run.d - min run.d g.r ∧ g.remaining = run.t - g.dPrime
      ∧ g.seconds = (g.remaining + 3) / 4
      ∧ g.r = min c.rmax (((run.thetaRef - g.thetaN).toNat * c.reheatK + 15) / 16)) ∧
  (∀ (c : WorkingCopy) (b : Backup) (k : Sensing) (pocket : Pocket),
    liveFigures c b k pocket = figures c pocket.run
      (if pocket.run.tref.epoch = b.epoch ∧ b.epoch ≠ 0 then some (b.clock - pocket.run.tref.clock) else none)
      k.theta (decide (k.theta = none) || decide (k.goodRun = 0) || pocket.faults.sensor)) ∧
  (∀ (c : WorkingCopy) (b : Backup) (k : Sensing) (run : RunRecord) (door : Nat),
    let stay (kind : PlanKind) (dest : Phase) (target : Target) (g : Figures) : PlanRecord :=
      { applied := false, kind := kind, dest := dest, destTarget := target
        reasons := ⟨false, false, false, false, false⟩, figures := g, cPrime := 0, window := 0
        doorCount := door }
    scanPlan c b k run .none door = stay .stayIdle .idle run.target ⟨none, 0, 0, 0, 0, 0, 0, 0⟩
    ∧ scanPlan c b k run .unreadable door
      = stay .stayFault .faultHold run.target ⟨none, 0, 0, 0, 0, 0, 0, 0⟩
    ∧ ∀ (kind : RecordKind) (faults : FaultSet),
      let e : Option Nat :=
        if run.tref.epoch = b.epoch ∧ b.epoch ≠ 0 then some (b.clock - run.tref.clock) else none
      let g := figures c run e k.theta
        (decide (k.theta = none) || decide (k.goodRun = 0) || faults.sensor)
      let reasons (phase : RecordedPhase) : HoldReasons :=
        { unknownOutage := decide (e = none)
          longOutage := match e with
            | none => false
            | some e => decide (c.omax < e)
          doorInDark := decide (0 < door)
          staleRecord := decide (kind ≠ .loss
            ∧ (phase = .heat ∨ phase = .cool ∨ phase = .antiCrease))
          autoOff := decide (run.autoResume = false ∨ c.omax = 0) }
      let plan (phase : RecordedPhase) := scanPlan c b k run (.record kind phase faults) door
      (reasons .heat = ⟨false, false, false, false, false⟩ →
        plan .heat = stay .resumeHeat .startWait .heat g)
      ∧ (reasons .heat ≠ ⟨false, false, false, false, false⟩ →
        plan .heat = { stay .holdHeat .held .heat g with reasons := reasons .heat })
      ∧ (run.thetaX < g.thetaN → plan .cool = { stay .resumeCool .startWait .cool g with
          cPrime := min run.c (run.coolTarget - c.cmin) })
      ∧ (g.thetaN ≤ run.thetaX → run.coolExit = .antiCrease → 0 < run.window →
        plan .cool = stay .skipToAntiCrease .acRest .antiCrease g)
      ∧ (g.thetaN ≤ run.thetaX → run.coolExit = .done ∨ (run.coolExit = .antiCrease ∧ run.window = 0) →
        plan .cool = stay .skipToAntiCrease .done run.target g)
      ∧ (g.thetaN ≤ run.thetaX → run.coolExit = .faultHold →
        plan .cool = stay .skipToAntiCrease .faultHold run.target g)
      ∧ (let passed := b.clock - run.acStart.clock
         let ended : Prop :=
           e = none ∨ 0 < door ∨ run.acStart.epoch ≠ b.epoch ∨ run.window ≤ passed
         (ended → plan .antiCrease = stay .finish .done run.target g)
         ∧ (¬ ended → plan .antiCrease = { stay .resumeAntiCrease .acRest .antiCrease g with
             window := run.window - passed }))
      ∧ plan .paused = stay .stayPaused .paused run.target g
      ∧ plan .held = { stay .stayHeld .held .heat g with reasons := reasons .held }
      ∧ plan .fault = stay .stayFault .faultHold run.target g
      ∧ plan .done = stay .stayDone .done run.target g
      ∧ plan .idle = stay .stayIdle .idle run.target g)

/-- Every step keeps the journal memory canonical, and every write in flight inside it. -/
def Obligations.EveryStepKeepsTheJournalMemory : Prop :=
  ∀ s t : State, s.journalSafe = true → step s = .next t → t.journalSafe = true

/-- Every step keeps the working copy whole, in range and in order. -/
def Obligations.EveryStepKeepsTheWorkingCopy : Prop :=
  ∀ s t : State, copySafe s.cfg = true → step s = .next t → copySafe t.cfg = true

/-- Every step keeps D at most T, and every plan still to be applied within it. -/
def Obligations.EveryStepKeepsCreditWithinTarget : Prop :=
  ∀ s t : State, s.creditSafe .U = true → s.creditSafe .L = true → step s = .next t →
    t.creditSafe .U = true ∧ t.creditSafe .L = true

/-- Every step keeps the motor outputs inactive outside RUN. -/
def Obligations.EveryStepKeepsOutputsOffOutsideRun : Prop :=
  ∀ s t : State, s.outputsSafe = true → step s = .next t → t.outputsSafe = true

/-- Every step keeps the queues within their bounds: 16 events, one start request of each kind per
pocket and none waiting before a free slot in RUN, one write request per pocket, and one configuration or
service request, queued or in flight, which is the orphan or the outstanding request not yet answered, with
no reply in the transmitter but the outstanding request's. -/
def Obligations.EveryStepKeepsTheQueues : Prop :=
  ∀ s t : State, s.eventsSafe = true → s.queuesSafe = true → step s = .next t →
    t.eventsSafe = true ∧ t.queuesSafe = true

/-- Each of the properties that every step keeps holds right after reset. -/
def Obligations.ResetHasWhatEveryStepKeeps : Prop :=
  State.reset.journalSafe = true ∧ copySafe State.reset.cfg = true
    ∧ State.reset.creditSafe .U = true ∧ State.reset.creditSafe .L = true
    ∧ State.reset.outputsSafe = true ∧ State.reset.eventsSafe = true
    ∧ State.reset.queuesSafe = true
end

