-- ==== Sys2Proof/Laws/State.lean ====
section
/-!
SUPPORT. Laws/State.lean: what each plain update of State leaves unchanged, field by field, and what a
pocket or a sense reads after it. All hold by computation.
-/

namespace Sys2Proof.Machine

/-! ### advance -/

@[simp] theorem State.free_advance (s : State) (dt : Nat) : (s.advance dt).free = s.free := rfl
@[simp] theorem State.pending_advance (s : State) (dt : Nat) : (s.advance dt).pending = s.pending := rfl
@[simp] theorem State.pins_advance (s : State) (dt : Nat) : (s.advance dt).pins = s.pins := rfl
@[simp] theorem State.cfg_advance (s : State) (dt : Nat) : (s.advance dt).cfg = s.cfg := rfl
@[simp] theorem State.lm_advance (s : State) (dt : Nat) : (s.advance dt).lm = s.lm := rfl
@[simp] theorem State.ss_advance (s : State) (dt : Nat) : (s.advance dt).ss = s.ss := rfl
@[simp] theorem State.bd_advance (s : State) (dt : Nat) : (s.advance dt).bd = s.bd := rfl
@[simp] theorem State.ic_advance (s : State) (dt : Nat) : (s.advance dt).ic = s.ic := rfl
@[simp] theorem State.psq_advance (s : State) (dt : Nat) : (s.advance dt).psq = s.psq := rfl
@[simp] theorem State.ssa_advance (s : State) (dt : Nat) : (s.advance dt).ssa = s.ssa := rfl
@[simp] theorem State.jc_advance (s : State) (dt : Nat) : (s.advance dt).jc = s.jc := rfl
@[simp] theorem State.rp_advance (s : State) (dt : Nat) : (s.advance dt).rp = s.rp := rfl
@[simp] theorem State.ml_advance (s : State) (dt : Nat) : (s.advance dt).ml = s.ml := rfl
@[simp] theorem State.journal_advance (s : State) (dt : Nat) : (s.advance dt).journal = s.journal := rfl
@[simp] theorem State.storeCut_advance (s : State) (dt : Nat) : (s.advance dt).storeCut = s.storeCut := rfl

/-! ### setPocket -/

@[simp] theorem State.time_setPocket (s : State) (p : PocketId) (k : Pocket) : (s.setPocket p k).time = s.time := rfl
@[simp] theorem State.free_setPocket (s : State) (p : PocketId) (k : Pocket) : (s.setPocket p k).free = s.free := rfl
@[simp] theorem State.pending_setPocket (s : State) (p : PocketId) (k : Pocket) : (s.setPocket p k).pending = s.pending := rfl
@[simp] theorem State.pins_setPocket (s : State) (p : PocketId) (k : Pocket) : (s.setPocket p k).pins = s.pins := rfl
@[simp] theorem State.cfg_setPocket (s : State) (p : PocketId) (k : Pocket) : (s.setPocket p k).cfg = s.cfg := rfl
@[simp] theorem State.lm_setPocket (s : State) (p : PocketId) (k : Pocket) : (s.setPocket p k).lm = s.lm := rfl
@[simp] theorem State.ss_setPocket (s : State) (p : PocketId) (k : Pocket) : (s.setPocket p k).ss = s.ss := rfl
@[simp] theorem State.bd_setPocket (s : State) (p : PocketId) (k : Pocket) : (s.setPocket p k).bd = s.bd := rfl
@[simp] theorem State.ic_setPocket (s : State) (p : PocketId) (k : Pocket) : (s.setPocket p k).ic = s.ic := rfl
@[simp] theorem State.ssa_setPocket (s : State) (p : PocketId) (k : Pocket) : (s.setPocket p k).ssa = s.ssa := rfl
@[simp] theorem State.jc_setPocket (s : State) (p : PocketId) (k : Pocket) : (s.setPocket p k).jc = s.jc := rfl
@[simp] theorem State.rp_setPocket (s : State) (p : PocketId) (k : Pocket) : (s.setPocket p k).rp = s.rp := rfl
@[simp] theorem State.ml_setPocket (s : State) (p : PocketId) (k : Pocket) : (s.setPocket p k).ml = s.ml := rfl
@[simp] theorem State.journal_setPocket (s : State) (p : PocketId) (k : Pocket) : (s.setPocket p k).journal = s.journal := rfl
@[simp] theorem State.storeCut_setPocket (s : State) (p : PocketId) (k : Pocket) : (s.setPocket p k).storeCut = s.storeCut := rfl

/-! ### setRun -/

@[simp] theorem State.time_setRun (s : State) (p : PocketId) (r : RunRecord) : (s.setRun p r).time = s.time := rfl
@[simp] theorem State.free_setRun (s : State) (p : PocketId) (r : RunRecord) : (s.setRun p r).free = s.free := rfl
@[simp] theorem State.pending_setRun (s : State) (p : PocketId) (r : RunRecord) : (s.setRun p r).pending = s.pending := rfl
@[simp] theorem State.pins_setRun (s : State) (p : PocketId) (r : RunRecord) : (s.setRun p r).pins = s.pins := rfl
@[simp] theorem State.cfg_setRun (s : State) (p : PocketId) (r : RunRecord) : (s.setRun p r).cfg = s.cfg := rfl
@[simp] theorem State.lm_setRun (s : State) (p : PocketId) (r : RunRecord) : (s.setRun p r).lm = s.lm := rfl
@[simp] theorem State.ss_setRun (s : State) (p : PocketId) (r : RunRecord) : (s.setRun p r).ss = s.ss := rfl
@[simp] theorem State.bd_setRun (s : State) (p : PocketId) (r : RunRecord) : (s.setRun p r).bd = s.bd := rfl
@[simp] theorem State.ic_setRun (s : State) (p : PocketId) (r : RunRecord) : (s.setRun p r).ic = s.ic := rfl
@[simp] theorem State.ssa_setRun (s : State) (p : PocketId) (r : RunRecord) : (s.setRun p r).ssa = s.ssa := rfl
@[simp] theorem State.jc_setRun (s : State) (p : PocketId) (r : RunRecord) : (s.setRun p r).jc = s.jc := rfl
@[simp] theorem State.rp_setRun (s : State) (p : PocketId) (r : RunRecord) : (s.setRun p r).rp = s.rp := rfl
@[simp] theorem State.ml_setRun (s : State) (p : PocketId) (r : RunRecord) : (s.setRun p r).ml = s.ml := rfl
@[simp] theorem State.journal_setRun (s : State) (p : PocketId) (r : RunRecord) : (s.setRun p r).journal = s.journal := rfl
@[simp] theorem State.storeCut_setRun (s : State) (p : PocketId) (r : RunRecord) : (s.setRun p r).storeCut = s.storeCut := rfl

/-! ### setTimers -/

@[simp] theorem State.time_setTimers (s : State) (p : PocketId) (t : PocketTimers) : (s.setTimers p t).time = s.time := rfl
@[simp] theorem State.free_setTimers (s : State) (p : PocketId) (t : PocketTimers) : (s.setTimers p t).free = s.free := rfl
@[simp] theorem State.pending_setTimers (s : State) (p : PocketId) (t : PocketTimers) : (s.setTimers p t).pending = s.pending := rfl
@[simp] theorem State.pins_setTimers (s : State) (p : PocketId) (t : PocketTimers) : (s.setTimers p t).pins = s.pins := rfl
@[simp] theorem State.cfg_setTimers (s : State) (p : PocketId) (t : PocketTimers) : (s.setTimers p t).cfg = s.cfg := rfl
@[simp] theorem State.lm_setTimers (s : State) (p : PocketId) (t : PocketTimers) : (s.setTimers p t).lm = s.lm := rfl
@[simp] theorem State.ss_setTimers (s : State) (p : PocketId) (t : PocketTimers) : (s.setTimers p t).ss = s.ss := rfl
@[simp] theorem State.bd_setTimers (s : State) (p : PocketId) (t : PocketTimers) : (s.setTimers p t).bd = s.bd := rfl
@[simp] theorem State.ic_setTimers (s : State) (p : PocketId) (t : PocketTimers) : (s.setTimers p t).ic = s.ic := rfl
@[simp] theorem State.ssa_setTimers (s : State) (p : PocketId) (t : PocketTimers) : (s.setTimers p t).ssa = s.ssa := rfl
@[simp] theorem State.jc_setTimers (s : State) (p : PocketId) (t : PocketTimers) : (s.setTimers p t).jc = s.jc := rfl
@[simp] theorem State.rp_setTimers (s : State) (p : PocketId) (t : PocketTimers) : (s.setTimers p t).rp = s.rp := rfl
@[simp] theorem State.ml_setTimers (s : State) (p : PocketId) (t : PocketTimers) : (s.setTimers p t).ml = s.ml := rfl
@[simp] theorem State.journal_setTimers (s : State) (p : PocketId) (t : PocketTimers) : (s.setTimers p t).journal = s.journal := rfl
@[simp] theorem State.storeCut_setTimers (s : State) (p : PocketId) (t : PocketTimers) : (s.setTimers p t).storeCut = s.storeCut := rfl

/-! ### setSense -/

@[simp] theorem State.time_setSense (s : State) (p : PocketId) (k : Sensing) : (s.setSense p k).time = s.time := rfl
@[simp] theorem State.free_setSense (s : State) (p : PocketId) (k : Sensing) : (s.setSense p k).free = s.free := rfl
@[simp] theorem State.pending_setSense (s : State) (p : PocketId) (k : Sensing) : (s.setSense p k).pending = s.pending := rfl
@[simp] theorem State.pins_setSense (s : State) (p : PocketId) (k : Sensing) : (s.setSense p k).pins = s.pins := rfl
@[simp] theorem State.cfg_setSense (s : State) (p : PocketId) (k : Sensing) : (s.setSense p k).cfg = s.cfg := rfl
@[simp] theorem State.lm_setSense (s : State) (p : PocketId) (k : Sensing) : (s.setSense p k).lm = s.lm := rfl
@[simp] theorem State.ss_setSense (s : State) (p : PocketId) (k : Sensing) : (s.setSense p k).ss = s.ss := rfl
@[simp] theorem State.bd_setSense (s : State) (p : PocketId) (k : Sensing) : (s.setSense p k).bd = s.bd := rfl
@[simp] theorem State.psq_setSense (s : State) (p : PocketId) (k : Sensing) : (s.setSense p k).psq = s.psq := rfl
@[simp] theorem State.ssa_setSense (s : State) (p : PocketId) (k : Sensing) : (s.setSense p k).ssa = s.ssa := rfl
@[simp] theorem State.jc_setSense (s : State) (p : PocketId) (k : Sensing) : (s.setSense p k).jc = s.jc := rfl
@[simp] theorem State.rp_setSense (s : State) (p : PocketId) (k : Sensing) : (s.setSense p k).rp = s.rp := rfl
@[simp] theorem State.ml_setSense (s : State) (p : PocketId) (k : Sensing) : (s.setSense p k).ml = s.ml := rfl
@[simp] theorem State.journal_setSense (s : State) (p : PocketId) (k : Sensing) : (s.setSense p k).journal = s.journal := rfl
@[simp] theorem State.storeCut_setSense (s : State) (p : PocketId) (k : Sensing) : (s.setSense p k).storeCut = s.storeCut := rfl

/-! ### post -/

@[simp] theorem State.time_post (s : State) (e : EventKind) (p : Option PocketId) (a : Half) : (s.post e p a).time = s.time := rfl
@[simp] theorem State.free_post (s : State) (e : EventKind) (p : Option PocketId) (a : Half) : (s.post e p a).free = s.free := rfl
@[simp] theorem State.pending_post (s : State) (e : EventKind) (p : Option PocketId) (a : Half) : (s.post e p a).pending = s.pending := rfl
@[simp] theorem State.pins_post (s : State) (e : EventKind) (p : Option PocketId) (a : Half) : (s.post e p a).pins = s.pins := rfl
@[simp] theorem State.cfg_post (s : State) (e : EventKind) (p : Option PocketId) (a : Half) : (s.post e p a).cfg = s.cfg := rfl
@[simp] theorem State.lm_post (s : State) (e : EventKind) (p : Option PocketId) (a : Half) : (s.post e p a).lm = s.lm := rfl
@[simp] theorem State.ss_post (s : State) (e : EventKind) (p : Option PocketId) (a : Half) : (s.post e p a).ss = s.ss := rfl
@[simp] theorem State.bd_post (s : State) (e : EventKind) (p : Option PocketId) (a : Half) : (s.post e p a).bd = s.bd := rfl
@[simp] theorem State.ic_post (s : State) (e : EventKind) (p : Option PocketId) (a : Half) : (s.post e p a).ic = s.ic := rfl
@[simp] theorem State.psq_post (s : State) (e : EventKind) (p : Option PocketId) (a : Half) : (s.post e p a).psq = s.psq := rfl
@[simp] theorem State.ssa_post (s : State) (e : EventKind) (p : Option PocketId) (a : Half) : (s.post e p a).ssa = s.ssa := rfl
@[simp] theorem State.jc_post (s : State) (e : EventKind) (p : Option PocketId) (a : Half) : (s.post e p a).jc = s.jc := rfl
@[simp] theorem State.rp_post (s : State) (e : EventKind) (p : Option PocketId) (a : Half) : (s.post e p a).rp = s.rp := rfl
@[simp] theorem State.journal_post (s : State) (e : EventKind) (p : Option PocketId) (a : Half) : (s.post e p a).journal = s.journal := rfl
@[simp] theorem State.storeCut_post (s : State) (e : EventKind) (p : Option PocketId) (a : Half) : (s.post e p a).storeCut = s.storeCut := rfl

/-! ### postStart -/

@[simp] theorem State.time_postStart (s : State) (p : PocketId) (k : StartKind) : (s.postStart p k).time = s.time := rfl
@[simp] theorem State.free_postStart (s : State) (p : PocketId) (k : StartKind) : (s.postStart p k).free = s.free := rfl
@[simp] theorem State.pending_postStart (s : State) (p : PocketId) (k : StartKind) : (s.postStart p k).pending = s.pending := rfl
@[simp] theorem State.pins_postStart (s : State) (p : PocketId) (k : StartKind) : (s.postStart p k).pins = s.pins := rfl
@[simp] theorem State.cfg_postStart (s : State) (p : PocketId) (k : StartKind) : (s.postStart p k).cfg = s.cfg := rfl
@[simp] theorem State.lm_postStart (s : State) (p : PocketId) (k : StartKind) : (s.postStart p k).lm = s.lm := rfl
@[simp] theorem State.ss_postStart (s : State) (p : PocketId) (k : StartKind) : (s.postStart p k).ss = s.ss := rfl
@[simp] theorem State.bd_postStart (s : State) (p : PocketId) (k : StartKind) : (s.postStart p k).bd = s.bd := rfl
@[simp] theorem State.ic_postStart (s : State) (p : PocketId) (k : StartKind) : (s.postStart p k).ic = s.ic := rfl
@[simp] theorem State.psq_postStart (s : State) (p : PocketId) (k : StartKind) : (s.postStart p k).psq = s.psq := rfl
@[simp] theorem State.jc_postStart (s : State) (p : PocketId) (k : StartKind) : (s.postStart p k).jc = s.jc := rfl
@[simp] theorem State.rp_postStart (s : State) (p : PocketId) (k : StartKind) : (s.postStart p k).rp = s.rp := rfl
@[simp] theorem State.ml_postStart (s : State) (p : PocketId) (k : StartKind) : (s.postStart p k).ml = s.ml := rfl
@[simp] theorem State.journal_postStart (s : State) (p : PocketId) (k : StartKind) : (s.postStart p k).journal = s.journal := rfl
@[simp] theorem State.storeCut_postStart (s : State) (p : PocketId) (k : StartKind) : (s.postStart p k).storeCut = s.storeCut := rfl

/-! ### postRequest -/

@[simp] theorem State.time_postRequest (s : State) (p : PocketId) (k : RecordKind) : (s.postRequest p k).time = s.time := rfl
@[simp] theorem State.free_postRequest (s : State) (p : PocketId) (k : RecordKind) : (s.postRequest p k).free = s.free := rfl
@[simp] theorem State.pending_postRequest (s : State) (p : PocketId) (k : RecordKind) : (s.postRequest p k).pending = s.pending := rfl
@[simp] theorem State.pins_postRequest (s : State) (p : PocketId) (k : RecordKind) : (s.postRequest p k).pins = s.pins := rfl
@[simp] theorem State.cfg_postRequest (s : State) (p : PocketId) (k : RecordKind) : (s.postRequest p k).cfg = s.cfg := rfl
@[simp] theorem State.lm_postRequest (s : State) (p : PocketId) (k : RecordKind) : (s.postRequest p k).lm = s.lm := rfl
@[simp] theorem State.ss_postRequest (s : State) (p : PocketId) (k : RecordKind) : (s.postRequest p k).ss = s.ss := rfl
@[simp] theorem State.bd_postRequest (s : State) (p : PocketId) (k : RecordKind) : (s.postRequest p k).bd = s.bd := rfl
@[simp] theorem State.ic_postRequest (s : State) (p : PocketId) (k : RecordKind) : (s.postRequest p k).ic = s.ic := rfl
@[simp] theorem State.ssa_postRequest (s : State) (p : PocketId) (k : RecordKind) : (s.postRequest p k).ssa = s.ssa := rfl
@[simp] theorem State.rp_postRequest (s : State) (p : PocketId) (k : RecordKind) : (s.postRequest p k).rp = s.rp := rfl
@[simp] theorem State.ml_postRequest (s : State) (p : PocketId) (k : RecordKind) : (s.postRequest p k).ml = s.ml := rfl
@[simp] theorem State.journal_postRequest (s : State) (p : PocketId) (k : RecordKind) : (s.postRequest p k).journal = s.journal := rfl
@[simp] theorem State.storeCut_postRequest (s : State) (p : PocketId) (k : RecordKind) : (s.postRequest p k).storeCut = s.storeCut := rfl

/-! ### changePhase -/

@[simp] theorem State.time_changePhase (s : State) (p : PocketId) (ph : Phase) : (s.changePhase p ph).time = s.time := rfl
@[simp] theorem State.free_changePhase (s : State) (p : PocketId) (ph : Phase) : (s.changePhase p ph).free = s.free := rfl
@[simp] theorem State.pending_changePhase (s : State) (p : PocketId) (ph : Phase) : (s.changePhase p ph).pending = s.pending := rfl
@[simp] theorem State.pins_changePhase (s : State) (p : PocketId) (ph : Phase) : (s.changePhase p ph).pins = s.pins := rfl
@[simp] theorem State.cfg_changePhase (s : State) (p : PocketId) (ph : Phase) : (s.changePhase p ph).cfg = s.cfg := rfl
@[simp] theorem State.lm_changePhase (s : State) (p : PocketId) (ph : Phase) : (s.changePhase p ph).lm = s.lm := rfl
@[simp] theorem State.ss_changePhase (s : State) (p : PocketId) (ph : Phase) : (s.changePhase p ph).ss = s.ss := rfl
@[simp] theorem State.bd_changePhase (s : State) (p : PocketId) (ph : Phase) : (s.changePhase p ph).bd = s.bd := rfl
@[simp] theorem State.ic_changePhase (s : State) (p : PocketId) (ph : Phase) : (s.changePhase p ph).ic = s.ic := rfl
@[simp] theorem State.jc_changePhase (s : State) (p : PocketId) (ph : Phase) : (s.changePhase p ph).jc = s.jc := rfl
@[simp] theorem State.rp_changePhase (s : State) (p : PocketId) (ph : Phase) : (s.changePhase p ph).rp = s.rp := rfl
@[simp] theorem State.journal_changePhase (s : State) (p : PocketId) (ph : Phase) : (s.changePhase p ph).journal = s.journal := rfl
@[simp] theorem State.storeCut_changePhase (s : State) (p : PocketId) (ph : Phase) : (s.changePhase p ph).storeCut = s.storeCut := rfl

/-! ### enterPhase -/

@[simp] theorem State.time_enterPhase (s : State) (p : PocketId) (ph : Phase) : (s.enterPhase p ph).time = s.time := rfl
@[simp] theorem State.free_enterPhase (s : State) (p : PocketId) (ph : Phase) : (s.enterPhase p ph).free = s.free := rfl
@[simp] theorem State.pending_enterPhase (s : State) (p : PocketId) (ph : Phase) : (s.enterPhase p ph).pending = s.pending := rfl
@[simp] theorem State.pins_enterPhase (s : State) (p : PocketId) (ph : Phase) : (s.enterPhase p ph).pins = s.pins := rfl
@[simp] theorem State.cfg_enterPhase (s : State) (p : PocketId) (ph : Phase) : (s.enterPhase p ph).cfg = s.cfg := rfl
@[simp] theorem State.lm_enterPhase (s : State) (p : PocketId) (ph : Phase) : (s.enterPhase p ph).lm = s.lm := rfl
@[simp] theorem State.ss_enterPhase (s : State) (p : PocketId) (ph : Phase) : (s.enterPhase p ph).ss = s.ss := rfl
@[simp] theorem State.bd_enterPhase (s : State) (p : PocketId) (ph : Phase) : (s.enterPhase p ph).bd = s.bd := rfl
@[simp] theorem State.ic_enterPhase (s : State) (p : PocketId) (ph : Phase) : (s.enterPhase p ph).ic = s.ic := rfl
@[simp] theorem State.rp_enterPhase (s : State) (p : PocketId) (ph : Phase) : (s.enterPhase p ph).rp = s.rp := rfl
@[simp] theorem State.journal_enterPhase (s : State) (p : PocketId) (ph : Phase) : (s.enterPhase p ph).journal = s.journal := rfl
@[simp] theorem State.storeCut_enterPhase (s : State) (p : PocketId) (ph : Phase) : (s.enterPhase p ph).storeCut = s.storeCut := rfl

/-! ### holdPlan -/

@[simp] theorem State.time_holdPlan (s : State) (p : PocketId) (pl : PlanRecord) : (s.holdPlan p pl).time = s.time := rfl
@[simp] theorem State.free_holdPlan (s : State) (p : PocketId) (pl : PlanRecord) : (s.holdPlan p pl).free = s.free := rfl
@[simp] theorem State.pending_holdPlan (s : State) (p : PocketId) (pl : PlanRecord) : (s.holdPlan p pl).pending = s.pending := rfl
@[simp] theorem State.pins_holdPlan (s : State) (p : PocketId) (pl : PlanRecord) : (s.holdPlan p pl).pins = s.pins := rfl
@[simp] theorem State.cfg_holdPlan (s : State) (p : PocketId) (pl : PlanRecord) : (s.holdPlan p pl).cfg = s.cfg := rfl
@[simp] theorem State.lm_holdPlan (s : State) (p : PocketId) (pl : PlanRecord) : (s.holdPlan p pl).lm = s.lm := rfl
@[simp] theorem State.ss_holdPlan (s : State) (p : PocketId) (pl : PlanRecord) : (s.holdPlan p pl).ss = s.ss := rfl
@[simp] theorem State.bd_holdPlan (s : State) (p : PocketId) (pl : PlanRecord) : (s.holdPlan p pl).bd = s.bd := rfl
@[simp] theorem State.ic_holdPlan (s : State) (p : PocketId) (pl : PlanRecord) : (s.holdPlan p pl).ic = s.ic := rfl
@[simp] theorem State.psq_holdPlan (s : State) (p : PocketId) (pl : PlanRecord) : (s.holdPlan p pl).psq = s.psq := rfl
@[simp] theorem State.ssa_holdPlan (s : State) (p : PocketId) (pl : PlanRecord) : (s.holdPlan p pl).ssa = s.ssa := rfl
@[simp] theorem State.jc_holdPlan (s : State) (p : PocketId) (pl : PlanRecord) : (s.holdPlan p pl).jc = s.jc := rfl
@[simp] theorem State.journal_holdPlan (s : State) (p : PocketId) (pl : PlanRecord) : (s.holdPlan p pl).journal = s.journal := rfl
@[simp] theorem State.storeCut_holdPlan (s : State) (p : PocketId) (pl : PlanRecord) : (s.holdPlan p pl).storeCut = s.storeCut := rfl

/-! ### setPin -/

@[simp] theorem State.time_setPin (s : State) (p : PocketId) (i : ContactInput) (b : Bool) : (s.setPin p i b).time = s.time := rfl
@[simp] theorem State.free_setPin (s : State) (p : PocketId) (i : ContactInput) (b : Bool) : (s.setPin p i b).free = s.free := rfl
@[simp] theorem State.pending_setPin (s : State) (p : PocketId) (i : ContactInput) (b : Bool) : (s.setPin p i b).pending = s.pending := rfl
@[simp] theorem State.cfg_setPin (s : State) (p : PocketId) (i : ContactInput) (b : Bool) : (s.setPin p i b).cfg = s.cfg := rfl
@[simp] theorem State.lm_setPin (s : State) (p : PocketId) (i : ContactInput) (b : Bool) : (s.setPin p i b).lm = s.lm := rfl
@[simp] theorem State.ss_setPin (s : State) (p : PocketId) (i : ContactInput) (b : Bool) : (s.setPin p i b).ss = s.ss := rfl
@[simp] theorem State.bd_setPin (s : State) (p : PocketId) (i : ContactInput) (b : Bool) : (s.setPin p i b).bd = s.bd := rfl
@[simp] theorem State.ic_setPin (s : State) (p : PocketId) (i : ContactInput) (b : Bool) : (s.setPin p i b).ic = s.ic := rfl
@[simp] theorem State.psq_setPin (s : State) (p : PocketId) (i : ContactInput) (b : Bool) : (s.setPin p i b).psq = s.psq := rfl
@[simp] theorem State.ssa_setPin (s : State) (p : PocketId) (i : ContactInput) (b : Bool) : (s.setPin p i b).ssa = s.ssa := rfl
@[simp] theorem State.jc_setPin (s : State) (p : PocketId) (i : ContactInput) (b : Bool) : (s.setPin p i b).jc = s.jc := rfl
@[simp] theorem State.rp_setPin (s : State) (p : PocketId) (i : ContactInput) (b : Bool) : (s.setPin p i b).rp = s.rp := rfl
@[simp] theorem State.ml_setPin (s : State) (p : PocketId) (i : ContactInput) (b : Bool) : (s.setPin p i b).ml = s.ml := rfl
@[simp] theorem State.journal_setPin (s : State) (p : PocketId) (i : ContactInput) (b : Bool) : (s.setPin p i b).journal = s.journal := rfl
@[simp] theorem State.storeCut_setPin (s : State) (p : PocketId) (i : ContactInput) (b : Bool) : (s.setPin p i b).storeCut = s.storeCut := rfl

/-! ### noteVhu -/

@[simp] theorem State.time_noteVhu (s : State) (v : Byte) : (s.noteVhu v).time = s.time := rfl
@[simp] theorem State.free_noteVhu (s : State) (v : Byte) : (s.noteVhu v).free = s.free := rfl
@[simp] theorem State.pending_noteVhu (s : State) (v : Byte) : (s.noteVhu v).pending = s.pending := rfl
@[simp] theorem State.pins_noteVhu (s : State) (v : Byte) : (s.noteVhu v).pins = s.pins := rfl
@[simp] theorem State.cfg_noteVhu (s : State) (v : Byte) : (s.noteVhu v).cfg = s.cfg := rfl
@[simp] theorem State.lm_noteVhu (s : State) (v : Byte) : (s.noteVhu v).lm = s.lm := rfl
@[simp] theorem State.bd_noteVhu (s : State) (v : Byte) : (s.noteVhu v).bd = s.bd := rfl
@[simp] theorem State.ic_noteVhu (s : State) (v : Byte) : (s.noteVhu v).ic = s.ic := rfl
@[simp] theorem State.psq_noteVhu (s : State) (v : Byte) : (s.noteVhu v).psq = s.psq := rfl
@[simp] theorem State.ssa_noteVhu (s : State) (v : Byte) : (s.noteVhu v).ssa = s.ssa := rfl
@[simp] theorem State.jc_noteVhu (s : State) (v : Byte) : (s.noteVhu v).jc = s.jc := rfl
@[simp] theorem State.rp_noteVhu (s : State) (v : Byte) : (s.noteVhu v).rp = s.rp := rfl
@[simp] theorem State.ml_noteVhu (s : State) (v : Byte) : (s.noteVhu v).ml = s.ml := rfl
@[simp] theorem State.journal_noteVhu (s : State) (v : Byte) : (s.noteVhu v).journal = s.journal := rfl
@[simp] theorem State.storeCut_noteVhu (s : State) (v : Byte) : (s.noteVhu v).storeCut = s.storeCut := rfl

/-! ### recompare -/

/-- A comparison made afresh is a sample of the code that stands. -/
@[simp] theorem State.recompare_eq (s : State) : s.recompare = s.noteVhu s.ss.vhu := rfl
@[simp] theorem State.vhu_noteVhu (s : State) (v : Byte) : (s.noteVhu v).ss.vhu = v := rfl
@[simp] theorem State.power_noteVhu (s : State) (v : Byte) : (s.noteVhu v).ss.power = s.ss.power := rfl
@[simp] theorem State.armTimer_noteVhu (s : State) (v : Byte) :
    (s.noteVhu v).ss.armTimer = s.ss.armTimer := rfl
@[simp] theorem State.returnMark_noteVhu (s : State) (v : Byte) :
    (s.noteVhu v).ss.returnMark = s.ss.returnMark := rfl
@[simp] theorem State.journalFault_noteVhu (s : State) (v : Byte) :
    (s.noteVhu v).ss.journalFault = s.ss.journalFault := rfl

/-! ### startJob -/

@[simp] theorem State.time_startJob (s : State) (j : Job) : (s.startJob j).time = s.time := rfl
@[simp] theorem State.free_startJob (s : State) (j : Job) : (s.startJob j).free = s.free := rfl
@[simp] theorem State.pending_startJob (s : State) (j : Job) : (s.startJob j).pending = s.pending := rfl
@[simp] theorem State.pins_startJob (s : State) (j : Job) : (s.startJob j).pins = s.pins := rfl
@[simp] theorem State.cfg_startJob (s : State) (j : Job) : (s.startJob j).cfg = s.cfg := rfl
@[simp] theorem State.lm_startJob (s : State) (j : Job) : (s.startJob j).lm = s.lm := rfl
@[simp] theorem State.ss_startJob (s : State) (j : Job) : (s.startJob j).ss = s.ss := rfl
@[simp] theorem State.bd_startJob (s : State) (j : Job) : (s.startJob j).bd = s.bd := rfl
@[simp] theorem State.ic_startJob (s : State) (j : Job) : (s.startJob j).ic = s.ic := rfl
@[simp] theorem State.psq_startJob (s : State) (j : Job) : (s.startJob j).psq = s.psq := rfl
@[simp] theorem State.ssa_startJob (s : State) (j : Job) : (s.startJob j).ssa = s.ssa := rfl
@[simp] theorem State.rp_startJob (s : State) (j : Job) : (s.startJob j).rp = s.rp := rfl
@[simp] theorem State.ml_startJob (s : State) (j : Job) : (s.startJob j).ml = s.ml := rfl
@[simp] theorem State.journal_startJob (s : State) (j : Job) : (s.startJob j).journal = s.journal := rfl
@[simp] theorem State.storeCut_startJob (s : State) (j : Job) : (s.startJob j).storeCut = s.storeCut := rfl

/-! ### dequeue -/

@[simp] theorem State.time_dequeue (s : State) (w : WriteRequest) : (s.dequeue w).time = s.time := rfl
@[simp] theorem State.free_dequeue (s : State) (w : WriteRequest) : (s.dequeue w).free = s.free := rfl
@[simp] theorem State.pending_dequeue (s : State) (w : WriteRequest) : (s.dequeue w).pending = s.pending := rfl
@[simp] theorem State.pins_dequeue (s : State) (w : WriteRequest) : (s.dequeue w).pins = s.pins := rfl
@[simp] theorem State.cfg_dequeue (s : State) (w : WriteRequest) : (s.dequeue w).cfg = s.cfg := rfl
@[simp] theorem State.lm_dequeue (s : State) (w : WriteRequest) : (s.dequeue w).lm = s.lm := rfl
@[simp] theorem State.ss_dequeue (s : State) (w : WriteRequest) : (s.dequeue w).ss = s.ss := rfl
@[simp] theorem State.bd_dequeue (s : State) (w : WriteRequest) : (s.dequeue w).bd = s.bd := rfl
@[simp] theorem State.ic_dequeue (s : State) (w : WriteRequest) : (s.dequeue w).ic = s.ic := rfl
@[simp] theorem State.psq_dequeue (s : State) (w : WriteRequest) : (s.dequeue w).psq = s.psq := rfl
@[simp] theorem State.ssa_dequeue (s : State) (w : WriteRequest) : (s.dequeue w).ssa = s.ssa := rfl
@[simp] theorem State.rp_dequeue (s : State) (w : WriteRequest) : (s.dequeue w).rp = s.rp := rfl
@[simp] theorem State.ml_dequeue (s : State) (w : WriteRequest) : (s.dequeue w).ml = s.ml := rfl
@[simp] theorem State.journal_dequeue (s : State) (w : WriteRequest) : (s.dequeue w).journal = s.journal := rfl
@[simp] theorem State.storeCut_dequeue (s : State) (w : WriteRequest) : (s.dequeue w).storeCut = s.storeCut := rfl

/-! ### freeEngine -/

@[simp] theorem State.time_freeEngine (s : State) : (s.freeEngine).time = s.time := rfl
@[simp] theorem State.free_freeEngine (s : State) : (s.freeEngine).free = s.free := rfl
@[simp] theorem State.pending_freeEngine (s : State) : (s.freeEngine).pending = s.pending := rfl
@[simp] theorem State.pins_freeEngine (s : State) : (s.freeEngine).pins = s.pins := rfl
@[simp] theorem State.cfg_freeEngine (s : State) : (s.freeEngine).cfg = s.cfg := rfl
@[simp] theorem State.lm_freeEngine (s : State) : (s.freeEngine).lm = s.lm := rfl
@[simp] theorem State.ss_freeEngine (s : State) : (s.freeEngine).ss = s.ss := rfl
@[simp] theorem State.bd_freeEngine (s : State) : (s.freeEngine).bd = s.bd := rfl
@[simp] theorem State.ic_freeEngine (s : State) : (s.freeEngine).ic = s.ic := rfl
@[simp] theorem State.psq_freeEngine (s : State) : (s.freeEngine).psq = s.psq := rfl
@[simp] theorem State.ssa_freeEngine (s : State) : (s.freeEngine).ssa = s.ssa := rfl
@[simp] theorem State.rp_freeEngine (s : State) : (s.freeEngine).rp = s.rp := rfl
@[simp] theorem State.ml_freeEngine (s : State) : (s.freeEngine).ml = s.ml := rfl
@[simp] theorem State.journal_freeEngine (s : State) : (s.freeEngine).journal = s.journal := rfl
@[simp] theorem State.storeCut_freeEngine (s : State) : (s.freeEngine).storeCut = s.storeCut := rfl

/-! ### readSlot -/

@[simp] theorem State.time_readSlot (s : State) (p : PocketId) (i : Fin 124) (sc : Scan) : (s.readSlot p i sc).time = s.time := rfl
@[simp] theorem State.free_readSlot (s : State) (p : PocketId) (i : Fin 124) (sc : Scan) : (s.readSlot p i sc).free = s.free := rfl
@[simp] theorem State.pending_readSlot (s : State) (p : PocketId) (i : Fin 124) (sc : Scan) : (s.readSlot p i sc).pending = s.pending := rfl
@[simp] theorem State.pins_readSlot (s : State) (p : PocketId) (i : Fin 124) (sc : Scan) : (s.readSlot p i sc).pins = s.pins := rfl
@[simp] theorem State.cfg_readSlot (s : State) (p : PocketId) (i : Fin 124) (sc : Scan) : (s.readSlot p i sc).cfg = s.cfg := rfl
@[simp] theorem State.lm_readSlot (s : State) (p : PocketId) (i : Fin 124) (sc : Scan) : (s.readSlot p i sc).lm = s.lm := rfl
@[simp] theorem State.ss_readSlot (s : State) (p : PocketId) (i : Fin 124) (sc : Scan) : (s.readSlot p i sc).ss = s.ss := rfl
@[simp] theorem State.bd_readSlot (s : State) (p : PocketId) (i : Fin 124) (sc : Scan) : (s.readSlot p i sc).bd = s.bd := rfl
@[simp] theorem State.ic_readSlot (s : State) (p : PocketId) (i : Fin 124) (sc : Scan) : (s.readSlot p i sc).ic = s.ic := rfl
@[simp] theorem State.psq_readSlot (s : State) (p : PocketId) (i : Fin 124) (sc : Scan) : (s.readSlot p i sc).psq = s.psq := rfl
@[simp] theorem State.ssa_readSlot (s : State) (p : PocketId) (i : Fin 124) (sc : Scan) : (s.readSlot p i sc).ssa = s.ssa := rfl
@[simp] theorem State.rp_readSlot (s : State) (p : PocketId) (i : Fin 124) (sc : Scan) : (s.readSlot p i sc).rp = s.rp := rfl
@[simp] theorem State.ml_readSlot (s : State) (p : PocketId) (i : Fin 124) (sc : Scan) : (s.readSlot p i sc).ml = s.ml := rfl
@[simp] theorem State.journal_readSlot (s : State) (p : PocketId) (i : Fin 124) (sc : Scan) : (s.readSlot p i sc).journal = s.journal := rfl
@[simp] theorem State.storeCut_readSlot (s : State) (p : PocketId) (i : Fin 124) (sc : Scan) : (s.readSlot p i sc).storeCut = s.storeCut := rfl

/-! ### writeDone -/

@[simp] theorem State.time_writeDone (s : State) (p : PocketId) (i : Fin 124) (n : Nat) (bs : List Byte) : (s.writeDone p i n bs).time = s.time := rfl
@[simp] theorem State.free_writeDone (s : State) (p : PocketId) (i : Fin 124) (n : Nat) (bs : List Byte) : (s.writeDone p i n bs).free = s.free := rfl
@[simp] theorem State.pending_writeDone (s : State) (p : PocketId) (i : Fin 124) (n : Nat) (bs : List Byte) : (s.writeDone p i n bs).pending = s.pending := rfl
@[simp] theorem State.pins_writeDone (s : State) (p : PocketId) (i : Fin 124) (n : Nat) (bs : List Byte) : (s.writeDone p i n bs).pins = s.pins := rfl
@[simp] theorem State.cfg_writeDone (s : State) (p : PocketId) (i : Fin 124) (n : Nat) (bs : List Byte) : (s.writeDone p i n bs).cfg = s.cfg := rfl
@[simp] theorem State.lm_writeDone (s : State) (p : PocketId) (i : Fin 124) (n : Nat) (bs : List Byte) : (s.writeDone p i n bs).lm = s.lm := rfl
@[simp] theorem State.ss_writeDone (s : State) (p : PocketId) (i : Fin 124) (n : Nat) (bs : List Byte) : (s.writeDone p i n bs).ss = s.ss := rfl
@[simp] theorem State.bd_writeDone (s : State) (p : PocketId) (i : Fin 124) (n : Nat) (bs : List Byte) : (s.writeDone p i n bs).bd = s.bd := rfl
@[simp] theorem State.ic_writeDone (s : State) (p : PocketId) (i : Fin 124) (n : Nat) (bs : List Byte) : (s.writeDone p i n bs).ic = s.ic := rfl
@[simp] theorem State.psq_writeDone (s : State) (p : PocketId) (i : Fin 124) (n : Nat) (bs : List Byte) : (s.writeDone p i n bs).psq = s.psq := rfl
@[simp] theorem State.ssa_writeDone (s : State) (p : PocketId) (i : Fin 124) (n : Nat) (bs : List Byte) : (s.writeDone p i n bs).ssa = s.ssa := rfl
@[simp] theorem State.rp_writeDone (s : State) (p : PocketId) (i : Fin 124) (n : Nat) (bs : List Byte) : (s.writeDone p i n bs).rp = s.rp := rfl
@[simp] theorem State.ml_writeDone (s : State) (p : PocketId) (i : Fin 124) (n : Nat) (bs : List Byte) : (s.writeDone p i n bs).ml = s.ml := rfl

/-! ### clearPart -/

@[simp] theorem State.time_clearPart (s : State) : (s.clearPart).time = s.time := rfl
@[simp] theorem State.free_clearPart (s : State) : (s.clearPart).free = s.free := rfl
@[simp] theorem State.pending_clearPart (s : State) : (s.clearPart).pending = s.pending := rfl
@[simp] theorem State.pins_clearPart (s : State) : (s.clearPart).pins = s.pins := rfl
@[simp] theorem State.cfg_clearPart (s : State) : (s.clearPart).cfg = s.cfg := rfl
@[simp] theorem State.lm_clearPart (s : State) : (s.clearPart).lm = s.lm := rfl
@[simp] theorem State.bd_clearPart (s : State) : (s.clearPart).bd = s.bd := rfl
@[simp] theorem State.ic_clearPart (s : State) : (s.clearPart).ic = s.ic := rfl
@[simp] theorem State.psq_clearPart (s : State) : (s.clearPart).psq = s.psq := rfl
@[simp] theorem State.ssa_clearPart (s : State) : (s.clearPart).ssa = s.ssa := rfl
@[simp] theorem State.jc_clearPart (s : State) : (s.clearPart).jc = s.jc := rfl
@[simp] theorem State.rp_clearPart (s : State) : (s.clearPart).rp = s.rp := rfl
@[simp] theorem State.ml_clearPart (s : State) : (s.clearPart).ml = s.ml := rfl
@[simp] theorem State.journal_clearPart (s : State) : (s.clearPart).journal = s.journal := rfl
@[simp] theorem State.storeCut_clearPart (s : State) : (s.clearPart).storeCut = s.storeCut := rfl

/-! ### extendPlan -/

@[simp] theorem State.time_extendPlan (s : State) (p : PocketId) (n : Nat) : (s.extendPlan p n).time = s.time := rfl
@[simp] theorem State.free_extendPlan (s : State) (p : PocketId) (n : Nat) : (s.extendPlan p n).free = s.free := rfl
@[simp] theorem State.pending_extendPlan (s : State) (p : PocketId) (n : Nat) : (s.extendPlan p n).pending = s.pending := rfl
@[simp] theorem State.pins_extendPlan (s : State) (p : PocketId) (n : Nat) : (s.extendPlan p n).pins = s.pins := rfl
@[simp] theorem State.cfg_extendPlan (s : State) (p : PocketId) (n : Nat) : (s.extendPlan p n).cfg = s.cfg := rfl
@[simp] theorem State.lm_extendPlan (s : State) (p : PocketId) (n : Nat) : (s.extendPlan p n).lm = s.lm := rfl
@[simp] theorem State.ss_extendPlan (s : State) (p : PocketId) (n : Nat) : (s.extendPlan p n).ss = s.ss := rfl
@[simp] theorem State.bd_extendPlan (s : State) (p : PocketId) (n : Nat) : (s.extendPlan p n).bd = s.bd := rfl
@[simp] theorem State.ic_extendPlan (s : State) (p : PocketId) (n : Nat) : (s.extendPlan p n).ic = s.ic := rfl
@[simp] theorem State.psq_extendPlan (s : State) (p : PocketId) (n : Nat) : (s.extendPlan p n).psq = s.psq := rfl
@[simp] theorem State.ssa_extendPlan (s : State) (p : PocketId) (n : Nat) : (s.extendPlan p n).ssa = s.ssa := rfl
@[simp] theorem State.jc_extendPlan (s : State) (p : PocketId) (n : Nat) : (s.extendPlan p n).jc = s.jc := rfl
@[simp] theorem State.ml_extendPlan (s : State) (p : PocketId) (n : Nat) : (s.extendPlan p n).ml = s.ml := rfl
@[simp] theorem State.journal_extendPlan (s : State) (p : PocketId) (n : Nat) : (s.extendPlan p n).journal = s.journal := rfl
@[simp] theorem State.storeCut_extendPlan (s : State) (p : PocketId) (n : Nat) : (s.extendPlan p n).storeCut = s.storeCut := rfl

/-! ### setRx -/

@[simp] theorem State.time_setRx (s : State) (rx : Receiver) : (s.setRx rx).time = s.time := rfl
@[simp] theorem State.free_setRx (s : State) (rx : Receiver) : (s.setRx rx).free = s.free := rfl
@[simp] theorem State.pending_setRx (s : State) (rx : Receiver) : (s.setRx rx).pending = s.pending := rfl
@[simp] theorem State.pins_setRx (s : State) (rx : Receiver) : (s.setRx rx).pins = s.pins := rfl
@[simp] theorem State.cfg_setRx (s : State) (rx : Receiver) : (s.setRx rx).cfg = s.cfg := rfl
@[simp] theorem State.lm_setRx (s : State) (rx : Receiver) : (s.setRx rx).lm = s.lm := rfl
@[simp] theorem State.ss_setRx (s : State) (rx : Receiver) : (s.setRx rx).ss = s.ss := rfl
@[simp] theorem State.bd_setRx (s : State) (rx : Receiver) : (s.setRx rx).bd = s.bd := rfl
@[simp] theorem State.ic_setRx (s : State) (rx : Receiver) : (s.setRx rx).ic = s.ic := rfl
@[simp] theorem State.psq_setRx (s : State) (rx : Receiver) : (s.setRx rx).psq = s.psq := rfl
@[simp] theorem State.ssa_setRx (s : State) (rx : Receiver) : (s.setRx rx).ssa = s.ssa := rfl
@[simp] theorem State.jc_setRx (s : State) (rx : Receiver) : (s.setRx rx).jc = s.jc := rfl
@[simp] theorem State.rp_setRx (s : State) (rx : Receiver) : (s.setRx rx).rp = s.rp := rfl
@[simp] theorem State.journal_setRx (s : State) (rx : Receiver) : (s.setRx rx).journal = s.journal := rfl
@[simp] theorem State.storeCut_setRx (s : State) (rx : Receiver) : (s.setRx rx).storeCut = s.storeCut := rfl

/-! ### outstand -/

@[simp] theorem State.time_outstand (s : State) (k g : Byte) : (s.outstand k g).time = s.time := rfl
@[simp] theorem State.free_outstand (s : State) (k g : Byte) : (s.outstand k g).free = s.free := rfl
@[simp] theorem State.pending_outstand (s : State) (k g : Byte) : (s.outstand k g).pending = s.pending := rfl
@[simp] theorem State.pins_outstand (s : State) (k g : Byte) : (s.outstand k g).pins = s.pins := rfl
@[simp] theorem State.cfg_outstand (s : State) (k g : Byte) : (s.outstand k g).cfg = s.cfg := rfl
@[simp] theorem State.lm_outstand (s : State) (k g : Byte) : (s.outstand k g).lm = s.lm := rfl
@[simp] theorem State.ss_outstand (s : State) (k g : Byte) : (s.outstand k g).ss = s.ss := rfl
@[simp] theorem State.bd_outstand (s : State) (k g : Byte) : (s.outstand k g).bd = s.bd := rfl
@[simp] theorem State.ic_outstand (s : State) (k g : Byte) : (s.outstand k g).ic = s.ic := rfl
@[simp] theorem State.psq_outstand (s : State) (k g : Byte) : (s.outstand k g).psq = s.psq := rfl
@[simp] theorem State.ssa_outstand (s : State) (k g : Byte) : (s.outstand k g).ssa = s.ssa := rfl
@[simp] theorem State.jc_outstand (s : State) (k g : Byte) : (s.outstand k g).jc = s.jc := rfl
@[simp] theorem State.rp_outstand (s : State) (k g : Byte) : (s.outstand k g).rp = s.rp := rfl
@[simp] theorem State.journal_outstand (s : State) (k g : Byte) : (s.outstand k g).journal = s.journal := rfl
@[simp] theorem State.storeCut_outstand (s : State) (k g : Byte) : (s.outstand k g).storeCut = s.storeCut := rfl

/-! ### reject -/

@[simp] theorem State.time_reject (s : State) (k g : Byte) (c : RejectCause) : (s.reject k g c).time = s.time := rfl
@[simp] theorem State.free_reject (s : State) (k g : Byte) (c : RejectCause) : (s.reject k g c).free = s.free := rfl
@[simp] theorem State.pending_reject (s : State) (k g : Byte) (c : RejectCause) : (s.reject k g c).pending = s.pending := rfl
@[simp] theorem State.pins_reject (s : State) (k g : Byte) (c : RejectCause) : (s.reject k g c).pins = s.pins := rfl
@[simp] theorem State.cfg_reject (s : State) (k g : Byte) (c : RejectCause) : (s.reject k g c).cfg = s.cfg := rfl
@[simp] theorem State.lm_reject (s : State) (k g : Byte) (c : RejectCause) : (s.reject k g c).lm = s.lm := rfl
@[simp] theorem State.ss_reject (s : State) (k g : Byte) (c : RejectCause) : (s.reject k g c).ss = s.ss := rfl
@[simp] theorem State.bd_reject (s : State) (k g : Byte) (c : RejectCause) : (s.reject k g c).bd = s.bd := rfl
@[simp] theorem State.ic_reject (s : State) (k g : Byte) (c : RejectCause) : (s.reject k g c).ic = s.ic := rfl
@[simp] theorem State.psq_reject (s : State) (k g : Byte) (c : RejectCause) : (s.reject k g c).psq = s.psq := rfl
@[simp] theorem State.ssa_reject (s : State) (k g : Byte) (c : RejectCause) : (s.reject k g c).ssa = s.ssa := rfl
@[simp] theorem State.jc_reject (s : State) (k g : Byte) (c : RejectCause) : (s.reject k g c).jc = s.jc := rfl
@[simp] theorem State.rp_reject (s : State) (k g : Byte) (c : RejectCause) : (s.reject k g c).rp = s.rp := rfl
@[simp] theorem State.journal_reject (s : State) (k g : Byte) (c : RejectCause) : (s.reject k g c).journal = s.journal := rfl
@[simp] theorem State.storeCut_reject (s : State) (k g : Byte) (c : RejectCause) : (s.reject k g c).storeCut = s.storeCut := rfl

/-! ### What is read back -/

@[simp] theorem State.time_of_advance (s : State) (dt : Nat) : (s.advance dt).time = s.time + dt := rfl

@[simp] theorem State.pocket_setPocket_self (s : State) (p : PocketId) (k : Pocket) :
    (s.setPocket p k).pocket p = k := by cases p <;> rfl

@[simp] theorem State.pocket_setPocket_other (s : State) (p : PocketId) (k : Pocket) :
    (s.setPocket p k).pocket p.other = s.pocket p.other := by cases p <;> rfl

@[simp] theorem State.pocket_setRun_self (s : State) (p : PocketId) (r : RunRecord) :
    (s.setRun p r).pocket p = { s.pocket p with run := r } := by cases p <;> rfl

@[simp] theorem State.pocket_setRun_other (s : State) (p : PocketId) (r : RunRecord) :
    (s.setRun p r).pocket p.other = s.pocket p.other := by cases p <;> rfl

@[simp] theorem State.pocket_setTimers_self (s : State) (p : PocketId) (t : PocketTimers) :
    (s.setTimers p t).pocket p = { s.pocket p with timers := t } := by cases p <;> rfl

@[simp] theorem State.pocket_setTimers_other (s : State) (p : PocketId) (t : PocketTimers) :
    (s.setTimers p t).pocket p.other = s.pocket p.other := by cases p <;> rfl

@[simp] theorem State.sense_setSense_self (s : State) (p : PocketId) (k : Sensing) :
    (s.setSense p k).sense p = k := by cases p <;> rfl

@[simp] theorem State.sense_setSense_other (s : State) (p : PocketId) (k : Sensing) :
    (s.setSense p k).sense p.other = s.sense p.other := by cases p <;> rfl

@[simp] theorem State.pocket_changePhase_self (s : State) (p : PocketId) (ph : Phase) :
    (s.changePhase p ph).pocket p = (s.pocket p).move ph s.time s.cfg.period := by cases p <;> rfl

@[simp] theorem State.pocket_changePhase_other (s : State) (p : PocketId) (ph : Phase) :
    (s.changePhase p ph).pocket p.other = s.pocket p.other := by cases p <;> rfl

@[simp] theorem State.pocket_advance (s : State) (dt : Nat) (p : PocketId) :
    (s.advance dt).pocket p = s.pocket p := rfl

@[simp] theorem State.sense_advance (s : State) (dt : Nat) (p : PocketId) :
    (s.advance dt).sense p = s.sense p := rfl

@[simp] theorem State.inRun_advance (s : State) (dt : Nat) : (s.advance dt).inRun = s.inRun := rfl

@[simp] theorem State.pocket_post (s : State) (e : EventKind) (q : Option PocketId) (a : Half)
    (p : PocketId) : (s.post e q a).pocket p = s.pocket p := rfl

@[simp] theorem State.pocket_postStart (s : State) (q : PocketId) (k : StartKind) (p : PocketId) :
    (s.postStart q k).pocket p = s.pocket p := rfl

@[simp] theorem State.pocket_holdPlan (s : State) (q : PocketId) (pl : PlanRecord) (p : PocketId) :
    (s.holdPlan q pl).pocket p = s.pocket p := rfl

@[simp] theorem State.pocket_postRequest_other (s : State) (p : PocketId) (k : RecordKind) :
    (s.postRequest p k).pocket p.other = s.pocket p.other := by cases p <;> rfl

end Sys2Proof.Machine
end

