-- ==== Sys2Proof/Laws/Acts.lean ====
section
/-!
SUPPORT. Laws/Acts.lean: everything an act of one Pocket Sequencer can touch, said once. An act on pocket
p changes that pocket's sequencer but for its credit, the start slot, the write queue, and the event
queue; all else stays.
-/

namespace Sys2Proof.Machine

/-- What an act on pocket p leaves as it was. -/
structure ActsOn (p : PocketId) (s s' : State) : Prop where
  time : s'.time = s.time
  free : s'.free = s.free
  pending : s'.pending = s.pending
  pins : s'.pins = s.pins
  cfg : s'.cfg = s.cfg
  lm : s'.lm = s.lm
  ss : s'.ss = s.ss
  bd : s'.bd = s.bd
  ic : s'.ic = s.ic
  rp : s'.rp = s.rp
  journal : s'.journal = s.journal
  storeCut : s'.storeCut = s.storeCut
  other : s'.pocket p.other = s.pocket p.other
  rings : s'.jc.rings = s.jc.rings
  engine : s'.jc.engine = s.jc.engine
  scan : s'.jc.scan = s.jc.scan
  rx : s'.ml.rx = s.ml.rx
  tx : s'.ml.tx = s.ml.tx
  orphan : s'.ml.orphan = s.ml.orphan
  asked : (∀ o, s.ml.outstanding = some o → o.events = none) → s'.ml.outstanding = s.ml.outstanding
  events : s.ml.events.length ≤ 16 → s'.ml.events.length ≤ 16
  d : (s'.pocket p).run.d = (s.pocket p).run.d
  t : (s'.pocket p).run.t = (s.pocket p).run.t
  copies : (s'.pocket p).run.copies = (s.pocket p).run.copies

namespace ActsOn

theorem refl (p : PocketId) (s : State) : ActsOn p s s := by
  constructor <;> first | rfl | exact fun _ => rfl | exact id

theorem trans {p : PocketId} {a b c : State} (h : ActsOn p a b) (k : ActsOn p b c) : ActsOn p a c where
  time := k.time.trans h.time
  free := k.free.trans h.free
  pending := k.pending.trans h.pending
  pins := k.pins.trans h.pins
  cfg := k.cfg.trans h.cfg
  lm := k.lm.trans h.lm
  ss := k.ss.trans h.ss
  bd := k.bd.trans h.bd
  ic := k.ic.trans h.ic
  rp := k.rp.trans h.rp
  journal := k.journal.trans h.journal
  storeCut := k.storeCut.trans h.storeCut
  other := k.other.trans h.other
  rings := k.rings.trans h.rings
  engine := k.engine.trans h.engine
  scan := k.scan.trans h.scan
  rx := k.rx.trans h.rx
  tx := k.tx.trans h.tx
  orphan := k.orphan.trans h.orphan
  asked := fun ho => by
    have h1 := h.asked ho
    exact (k.asked (by rw [h1]; exact ho)).trans h1
  events := fun he => k.events (h.events he)
  d := k.d.trans h.d
  t := k.t.trans h.t
  copies := k.copies.trans h.copies

/-- The power state is the same after an act. -/
theorem inRun {p : PocketId} {s s' : State} (h : ActsOn p s s') : s'.inRun = s.inRun := by
  simp only [State.inRun, h.ss]

/-- The conditions the Input Conditioner gives are the same after an act. -/
theorem sense {p : PocketId} {s s' : State} (h : ActsOn p s s') (q : PocketId) :
    s'.sense q = s.sense q := by
  simp only [State.sense, h.ic]

end ActsOn

/-! ### Plain acts -/

theorem Link.length_post (l : Link) (m : Nat) (e : EventEntry) (h : l.events.length ≤ 16) :
    (l.post m e).events.length ≤ 16 := by
  unfold Link.post
  split
  · exact h
  · split
    · simp only [List.length_append, List.length_cons, List.length_nil]; omega
    · exact h

theorem Link.outstanding_post (l : Link) (m : Nat) (e : EventEntry)
    (h : ∀ o, l.outstanding = some o → o.events = none) :
    (l.post m e).outstanding = l.outstanding := by
  unfold Link.post
  split
  · rfl
  · split
    · rfl
    · cases ho : l.outstanding with
      | none => simp
      | some o => simp [h o ho]; cases o; simp_all

@[simp] theorem Link.rx_post (l : Link) (m : Nat) (e : EventEntry) : (l.post m e).rx = l.rx := by
  unfold Link.post; split <;> [rfl; (split <;> rfl)]

@[simp] theorem Link.tx_post (l : Link) (m : Nat) (e : EventEntry) : (l.post m e).tx = l.tx := by
  unfold Link.post; split <;> [rfl; (split <;> rfl)]

@[simp] theorem Link.orphan_post (l : Link) (m : Nat) (e : EventEntry) :
    (l.post m e).orphan = l.orphan := by
  unfold Link.post; split <;> [rfl; (split <;> rfl)]

theorem ActsOn.setPocket {p : PocketId} {a s : State} (h : ActsOn p a s) {k : Pocket}
    (hd : k.run.d = (s.pocket p).run.d) (ht : k.run.t = (s.pocket p).run.t)
    (hc : k.run.copies = (s.pocket p).run.copies) : ActsOn p a (s.setPocket p k) := by
  refine h.trans ?_
  constructor <;> first | rfl | exact fun _ => rfl | exact id | simp [hd, ht, hc]

theorem ActsOn.setRun {p : PocketId} {a s : State} (h : ActsOn p a s) {r : RunRecord}
    (hd : r.d = (s.pocket p).run.d) (ht : r.t = (s.pocket p).run.t)
    (hc : r.copies = (s.pocket p).run.copies) : ActsOn p a (s.setRun p r) := h.setPocket hd ht hc

theorem ActsOn.setTimers {p : PocketId} {a s : State} (h : ActsOn p a s) (t : PocketTimers) :
    ActsOn p a (s.setTimers p t) := h.setPocket (by rfl) (by rfl) (by rfl)

theorem ActsOn.post {p : PocketId} {a s : State} (h : ActsOn p a s) (e : EventKind)
    (q : Option PocketId) (k : Half) : ActsOn p a (s.post e q k) := by
  refine h.trans ?_
  constructor <;> first
    | rfl
    | exact fun h => Link.outstanding_post _ _ _ h
    | exact fun h => Link.length_post _ _ _ h
    | simp [State.post]

theorem ActsOn.postStart {p : PocketId} {a s : State} (h : ActsOn p a s) (k : StartKind) :
    ActsOn p a (s.postStart p k) := by
  refine h.trans ?_
  constructor <;> first | rfl | exact fun _ => rfl | exact id

theorem ActsOn.postRequest {p : PocketId} {a s : State} (h : ActsOn p a s) (k : RecordKind) :
    ActsOn p a (s.postRequest p k) := by
  refine h.trans ?_
  constructor <;> first | rfl | exact fun _ => rfl | exact id | (cases p <;> rfl)

theorem ActsOn.changePhase {p : PocketId} {a s : State} (h : ActsOn p a s) (ph : Phase) :
    ActsOn p a (s.changePhase p ph) := by
  refine h.trans ?_
  constructor <;> first
    | rfl
    | exact fun h => Link.outstanding_post _ _ _ h
    | exact fun h => Link.length_post _ _ _ h
    | (simp [State.changePhase]; done)
    | (cases p <;> rfl)

theorem ActsOn.enterPhase {p : PocketId} {a s : State} (h : ActsOn p a s) (ph : Phase) :
    ActsOn p a (s.enterPhase p ph) := by
  exact (h.changePhase ph).postRequest _

theorem ActsOn.setFault {p : PocketId} {a s : State} (h : ActsOn p a s) (f : PocketFault) :
    ActsOn p a (s.setFault p f) := by
  unfold State.setFault
  split
  · exact h
  · exact (h.setPocket (by rfl) (by rfl) (by rfl)).post _ _ _

theorem ActsOn.takeReference {p : PocketId} {a s : State} (h : ActsOn p a s) :
    ActsOn p a (s.takeReference p) := by
  unfold State.takeReference
  simp only
  split
  · exact h
  · split
    · exact h
    · exact h.setRun (by rfl) (by rfl) (by rfl)

/-! ### Heat -/

theorem ActsOn.endHeat {p : PocketId} {a s : State} (h : ActsOn p a s) (c : HeatCause) (hold : Bool) :
    ActsOn p a (s.endHeat p c hold) := by
  unfold State.endHeat
  simp only
  refine ActsOn.post ?_ _ _ _
  split
  · exact (h.setRun (by rfl) (by rfl) (by rfl)).enterPhase _
  · exact h.setRun (by rfl) (by rfl) (by rfl)

theorem ActsOn.enterHeatWait {p : PocketId} {a s : State} (h : ActsOn p a s) :
    ActsOn p a (s.enterHeatWait p) := by
  unfold State.enterHeatWait
  simp only
  split
  · exact h.changePhase _
  · exact (h.changePhase _).setTimers _

theorem ActsOn.enterIgnition {p : PocketId} {a s : State} (h : ActsOn p a s) :
    ActsOn p a (s.enterIgnition p) := by
  unfold State.enterIgnition
  simp only
  split
  · exact (h.changePhase _).endHeat _ _
  · split
    · exact (h.changePhase _).postStart _
    · exact (h.changePhase _).enterHeatWait

theorem ActsOn.enterPurge {p : PocketId} {a s : State} (h : ActsOn p a s) :
    ActsOn p a (s.enterPurge p) := by
  unfold State.enterPurge
  simp only
  split
  · exact (h.changePhase _).endHeat _ _
  · split <;> exact (h.changePhase _).setTimers _

theorem ActsOn.towardHeat {p : PocketId} {a s : State} (h : ActsOn p a s) :
    ActsOn p a (s.towardHeat p) := by
  unfold State.towardHeat
  simp only
  split
  · exact h.enterPurge
  · exact h.enterIgnition

theorem ActsOn.enterHeat {p : PocketId} {a s : State} (h : ActsOn p a s) :
    ActsOn p a (s.enterHeat p) := by
  unfold State.enterHeat
  exact (((h.changePhase _).setPocket (by rfl) (by rfl) (by rfl)).post _ _ _).postRequest _

theorem ActsOn.checkHeatWait {p : PocketId} {a s : State} (h : ActsOn p a s) :
    ActsOn p a (s.checkHeatWait p) := by
  unfold State.checkHeatWait
  split
  · exact h.enterIgnition
  · exact h

theorem ActsOn.ventBlocked {p : PocketId} {a s : State} (h : ActsOn p a s) :
    ActsOn p a (s.ventBlocked p) := by
  exact (h.setFault _).endHeat _ _

theorem ActsOn.guardTrip {p : PocketId} {a s : State} (h : ActsOn p a s) (g : Guard) :
    ActsOn p a (s.guardTrip p g) := by
  have hk : ActsOn p a (s.setPocket p ((s.pocket p).trip g)) := by
    cases g <;> exact h.setPocket (by rfl) (by rfl) (by rfl)
  unfold State.guardTrip
  simp only
  split
  · exact hk.post _ _ _
  · exact (hk.post _ _ _).endHeat _ _
  · exact ((hk.post _ _ _).setFault _).endHeat _ _

theorem ActsOn.evaluateGuard {p : PocketId} {a s : State} (h : ActsOn p a s) (g : Guard) (b : Bool) :
    ActsOn p a (s.evaluateGuard p g b) := by
  unfold State.evaluateGuard
  split
  · exact h.guardTrip g
  · exact h

/-! ### Motion and anti-crease -/

theorem ActsOn.drumStall {p : PocketId} {a s : State} (h : ActsOn p a s) :
    ActsOn p a (s.drumStall p) := by
  exact (h.setFault _).enterPhase _

theorem ActsOn.enterSpinup {p : PocketId} {a s : State} (h : ActsOn p a s) :
    ActsOn p a (s.enterSpinup p) := by
  exact (h.changePhase _).postStart _

theorem ActsOn.checkStartWait {p : PocketId} {a s : State} (h : ActsOn p a s) :
    ActsOn p a (s.checkStartWait p) := by
  unfold State.checkStartWait
  split
  · exact h.enterSpinup
  · exact h

theorem ActsOn.leaveSpinup {p : PocketId} {a s : State} (h : ActsOn p a s) :
    ActsOn p a (s.leaveSpinup p) := by
  unfold State.leaveSpinup
  split
  · exact h.towardHeat
  · exact h.enterPhase _
  · exact h.enterPhase _

theorem ActsOn.enterAcRest {p : PocketId} {a s : State} (h : ActsOn p a s) :
    ActsOn p a (s.enterAcRest p) := by
  exact (h.changePhase _).setPocket (by rfl) (by rfl) (by rfl)

theorem ActsOn.endCool {p : PocketId} {a s : State} (h : ActsOn p a s) :
    ActsOn p a (s.endCool p) := by
  unfold State.endCool
  simp only
  split
  · exact ((h.setRun (by rfl) (by rfl) (by rfl)).enterAcRest).postRequest _
  · exact h.enterPhase _
  · exact h.enterPhase _

theorem ActsOn.startBurst {p : PocketId} {a s : State} (h : ActsOn p a s) :
    ActsOn p a (s.startBurst p) := by
  exact (h.changePhase _).setPocket (by rfl) (by rfl) (by rfl)

theorem ActsOn.pauseDoor {p : PocketId} {a s : State} (h : ActsOn p a s) :
    ActsOn p a (s.pauseDoor p) := by
  exact (h.takeReference.setPocket (by rfl) (by rfl) (by rfl)).enterPhase _

/-! ### Acts of the commands -/

theorem ActsOn.doorOpened {p : PocketId} {a s : State} (h : ActsOn p a s) :
    ActsOn p a (s.doorOpened p) := by
  unfold State.doorOpened
  simp only
  split
  · exact h.pauseDoor
  · split
    · exact h.enterPhase _
    · exact h.enterPhase _
    · exact h.enterPhase _
    · exact h

theorem ActsOn.airflowProven {p : PocketId} {a s : State} (h : ActsOn p a s) :
    ActsOn p a (s.airflowProven p) := by
  unfold State.airflowProven
  simp only
  split
  · split
    · exact h.leaveSpinup
    · exact h
  · exact h.setTimers _
  · exact (h.setTimers _).checkHeatWait
  · exact h

theorem ActsOn.airflowLost {p : PocketId} {a s : State} (h : ActsOn p a s) :
    ActsOn p a (s.airflowLost p) := by
  unfold State.airflowLost
  simp only
  split
  · exact h.setTimers _
  · exact h.enterHeatWait
  · exact h.enterHeatWait
  · exact h.setTimers _
  · exact h

theorem ActsOn.highLimitTrip {p : PocketId} {a s : State} (h : ActsOn p a s) :
    ActsOn p a (s.highLimitTrip p) := by
  have hk : ActsOn p a ((s.setRun p { (s.pocket p).run with
      trips := min 3 ((s.pocket p).run.trips + 1) }).setFault p .highLimit) :=
    (h.setRun (by rfl) (by rfl) (by rfl)).setFault _
  unfold State.highLimitTrip
  simp only
  split
  · split
    · exact hk.endHeat _ _
    · split
      · exact hk.enterHeatWait
      · exact hk.enterHeatWait
      · exact hk
  · exact h

theorem ActsOn.flameSeen {p : PocketId} {a s : State} (h : ActsOn p a s) :
    ActsOn p a (s.flameSeen p) := by
  unfold State.flameSeen
  simp only
  split
  · exact h.enterHeat
  · exact h

theorem ActsOn.inputChanged {p : PocketId} {a s : State} (h : ActsOn p a s) (i : ContactInput) (b : Bool) :
    ActsOn p a (s.inputChanged p i b) := by
  unfold State.inputChanged
  split
  · exact h.checkStartWait
  · exact h.doorOpened
  · exact h.airflowProven
  · exact h.airflowLost
  · exact h.checkHeatWait
  · exact h.highLimitTrip
  · exact h.flameSeen
  · exact h

theorem ActsOn.postInput {p : PocketId} {a s : State} (h : ActsOn p a s) (i : ContactInput) (b : Bool) :
    ActsOn p a (s.postInput p i b) := by
  unfold State.postInput
  split
  · exact h
  all_goals exact h.post _ _ _

theorem ActsOn.rotationProof {p : PocketId} {a s : State} (h : ActsOn p a s) :
    ActsOn p a (s.rotationProof p) := by
  unfold State.rotationProof
  simp only
  split
  · exact (h.setPocket (by rfl) (by rfl) (by rfl)).leaveSpinup
  · exact (h.setPocket (by rfl) (by rfl) (by rfl)).setTimers _

theorem ActsOn.burstEnd {p : PocketId} {a s : State} (h : ActsOn p a s) :
    ActsOn p a (s.burstEnd p) := by
  unfold State.burstEnd
  split
  · exact h.enterPhase _
  · exact h.enterAcRest

theorem ActsOn.lineSound {p : PocketId} {a s : State} (h : ActsOn p a s) :
    ActsOn p a (s.lineSound p) := by
  exact h.checkStartWait.checkHeatWait

theorem ActsOn.lineLow {p : PocketId} {a s : State} (h : ActsOn p a s) :
    ActsOn p a (s.lineLow p) := by
  unfold State.lineLow
  split
  · exact h.enterHeatWait
  · exact h

theorem ActsOn.sensorAfter {p : PocketId} {a s : State} (h : ActsOn p a s) (code : Nat) :
    ActsOn p a (s.sensorAfter p code) := by
  unfold State.sensorAfter
  simp only
  split
  · split
    · exact h
    · split
      · exact ((h.setPocket (by rfl) (by rfl) (by rfl)).post _ _ _).endHeat _ _
      · exact (h.setPocket (by rfl) (by rfl) (by rfl)).post _ _ _
  · split
    · exact (h.setPocket (by rfl) (by rfl) (by rfl)).post _ _ _
    · exact h

theorem ActsOn.tempHighGuard {p : PocketId} {a s : State} (h : ActsOn p a s) :
    ActsOn p a (s.tempHighGuard p) := by
  unfold State.tempHighGuard
  split
  · exact h
  · exact h.evaluateGuard _ _

theorem ActsOn.runLongGuard {p : PocketId} {a s : State} (h : ActsOn p a s) :
    ActsOn p a (s.runLongGuard p) := by
  exact h.evaluateGuard _ _

theorem ActsOn.countHeat {p : PocketId} {a s : State} (h : ActsOn p a s) :
    ActsOn p a (s.countHeat p) := by
  unfold State.countHeat
  simp only
  split
  · exact h.setRun (by rfl) (by rfl) (by rfl)
  · exact h

theorem ActsOn.countCool {p : PocketId} {a s : State} (h : ActsOn p a s) :
    ActsOn p a (s.countCool p) := by
  unfold State.countCool
  simp only
  split
  · exact h.setRun (by rfl) (by rfl) (by rfl)
  · exact h

theorem ActsOn.coolEndTest {p : PocketId} {a s : State} (h : ActsOn p a s) :
    ActsOn p a (s.coolEndTest p) := by
  unfold State.coolEndTest
  simp only
  split
  · exact h.endCool
  · split
    · exact (h.post _ _ _).endCool
    · exact h

theorem ActsOn.coolStep {p : PocketId} {a s : State} (h : ActsOn p a s) :
    ActsOn p a (s.coolStep p) := by
  unfold State.coolStep
  split
  · exact h.countCool.coolEndTest
  · exact h

theorem ActsOn.windowTest {p : PocketId} {a s : State} (h : ActsOn p a s) :
    ActsOn p a (s.windowTest p) := by
  unfold State.windowTest
  split
  · split
    · exact h.enterPhase _
    · exact h.setPocket (by rfl) (by rfl) (by rfl)
    · exact h
  · exact h

theorem ActsOn.spinupVent {p : PocketId} {a s : State} (h : ActsOn p a s) :
    ActsOn p a (s.spinupVent p) := by
  unfold State.spinupVent
  simp only
  split
  · exact ((h.setFault _).endHeat _ _).enterPhase _
  · exact (h.setFault _).enterPhase _
  · exact (h.setFault _).enterPhase _

theorem ActsOn.lockout {p : PocketId} {a s : State} (h : ActsOn p a s) :
    ActsOn p a (s.lockout p) := by
  exact (h.setFault _).endHeat _ _

theorem ActsOn.trialFailed {p : PocketId} {a s : State} (h : ActsOn p a s) :
    ActsOn p a (s.trialFailed p) := by
  unfold State.trialFailed
  simp only
  split
  · exact ((h.setRun (by rfl) (by rfl) (by rfl)).post _ _ _).towardHeat
  · exact ((h.setRun (by rfl) (by rfl) (by rfl)).post _ _ _).lockout

/-! ### The start slot -/

/-- A change of the start slot alone is an act. -/
theorem ActsOn.setSlot {p : PocketId} {a s : State} (h : ActsOn p a s) (x : Arbiter) :
    ActsOn p a { s with ssa := x } := by
  refine h.trans ?_
  constructor <;> first | rfl | exact fun _ => rfl | exact id

theorem ActsOn.takeGrant {a s : State} {r : StartRequest} (h : ActsOn r.pocket a s) :
    ActsOn r.pocket a (s.takeGrant r) := by
  unfold State.takeGrant
  simp only
  split
  · exact h.setPocket (by rfl) (by rfl) (by rfl)
  · exact h.startBurst
  · split
    · exact h.setTimers _
    · exact h
  · exact h

/-- The arbiter acts on at most one pocket, that of the request it grants. -/
theorem State.arbitrate_acts (s : State) : ∃ p, ActsOn p s s.arbitrate := by
  unfold State.arbitrate
  split
  · rename_i r rest _ _ _
    exact ⟨r.pocket, ((ActsOn.refl _ s).setSlot _).takeGrant⟩
  · exact ⟨.U, ActsOn.refl _ s⟩

/-- Credit and target of every pocket are as before an act. -/
theorem ActsOn.credit {p : PocketId} {s s' : State} (h : ActsOn p s s') (q : PocketId) :
    (s'.pocket q).run.d = (s.pocket q).run.d ∧ (s'.pocket q).run.t = (s.pocket q).run.t := by
  by_cases hq : q = p
  · subst hq; exact ⟨h.d, h.t⟩
  · have : q = p.other := by cases p <;> cases q <;> first | rfl | exact absurd rfl hq
    subst this
    rw [h.other]; exact ⟨rfl, rfl⟩

end Sys2Proof.Machine
end

