-- ==== Sys2Proof/Laws/Frames.lean ====
section
/-!
SUPPORT. Laws/Frames.lean: from an act on one pocket, and from the grant of the start slot that may
follow it, to the frames in which the statements are written.
-/

namespace Sys2Proof.Machine

theorem ActsOn.keepsWorld {p : PocketId} {s t : State} (h : ActsOn p s t) : keepsWorld s t :=
  ⟨h.pending, h.free, h.pins, h.cfg, h.lm, h.ss, h.bd, h.ic, h.journal, h.storeCut, h.rings, h.engine,
    h.scan⟩

theorem keepsWorld.trans {a b c : State} (h : keepsWorld a b) (k : keepsWorld b c) : keepsWorld a c := by
  obtain ⟨h1, h2, h3, h4, h5, h6, h7, h8, h9, h10, h11, h12, h13⟩ := h
  obtain ⟨k1, k2, k3, k4, k5, k6, k7, k8, k9, k10, k11, k12, k13⟩ := k
  exact ⟨k1.trans h1, k2.trans h2, k3.trans h3, k4.trans h4, k5.trans h5, k6.trans h6, k7.trans h7,
    k8.trans h8, k9.trans h9, k10.trans h10, k11.trans h11, k12.trans h12,
    k13.trans h13⟩

/-- What a grant keeps of the pocket it goes to: the run record, the faults, and the phase but for the
burst that starts in AC_REST; and the write queue stays. -/
structure GrantKeeps (p : PocketId) (s t : State) : Prop where
  run : (t.pocket p).run = (s.pocket p).run
  faults : (t.pocket p).faults = (s.pocket p).faults
  phase : (s.pocket p).phase ≠ .acRest → (t.pocket p).phase = (s.pocket p).phase
  second : (t.pocket p).timers.second = (s.pocket p).timers.second
  periodic : (t.pocket p).timers.periodic = (s.pocket p).timers.periodic
  frozen : (s.pocket p).phase ≠ .acRest → (t.pocket p).frozen = (s.pocket p).frozen
  queue : t.jc.queue = s.jc.queue
  slot : t.ssa.slot = s.ssa.slot
  members : ∀ e ∈ s.ml.events, e ∈ t.ml.events

theorem Link.mem_post (l : Link) (m : Nat) (e x : EventEntry) (h : x ∈ l.events) :
    x ∈ (l.post m e).events := by
  unfold Link.post
  split
  · exact h
  · split
    · exact List.mem_append_left _ h
    · exact h

theorem takeGrant_keeps (s : State) (r : StartRequest) (g : Grant) (hs : s.ssa.slot = some g)
    (hg : g.request = r) : GrantKeeps r.pocket s (s.takeGrant r) := by
  obtain ⟨p, k⟩ := r
  dsimp only [State.takeGrant]
  split
  · constructor <;> first | rfl | exact fun _ => rfl | simp
  · rename_i h2
    constructor
    · cases p <;> simp [State.startBurst, State.changePhase, Pocket.move, State.setPocket, State.pocket, Pair.get, Pair.set]
    · cases p <;> simp [State.startBurst, State.changePhase, Pocket.move, State.setPocket, State.pocket, Pair.get, Pair.set]
    · exact fun h => absurd h2 h
    · cases p <;> simp_all [State.startBurst, State.changePhase, Pocket.move, PocketTimers.move, Phase.running, State.setPocket, State.pocket, Pair.get, Pair.set]
    · cases p <;> simp_all [State.startBurst, State.changePhase, Pocket.move, PocketTimers.move, Phase.running, State.setPocket, State.pocket, Pair.get, Pair.set]
    · exact fun h => absurd h2 h
    · rfl
    · simp [State.startBurst, State.changePhase, State.setPocket, Arbiter.leave, Arbiter.giveUp, hs, hg,
        Phase.dropsMotor]
    · exact fun e h => Link.mem_post _ _ _ _ h
  · split <;> constructor <;> first | rfl | exact fun _ => rfl | simp
  · constructor <;> first | rfl | exact fun _ => rfl | simp

/-- Everything a grant at the end of a command can do, for each pocket. -/
theorem arbitrate_keeps (s : State) (q : PocketId) :
    (s.arbitrate.pocket q).run = (s.pocket q).run
    ∧ (s.arbitrate.pocket q).faults = (s.pocket q).faults
    ∧ ((s.pocket q).phase ≠ .acRest → (s.arbitrate.pocket q).phase = (s.pocket q).phase
        ∧ (s.arbitrate.pocket q).frozen = (s.pocket q).frozen)
    ∧ (s.arbitrate.pocket q).timers.second = (s.pocket q).timers.second
    ∧ (s.arbitrate.pocket q).timers.periodic = (s.pocket q).timers.periodic
    ∧ s.arbitrate.jc.queue = s.jc.queue
    ∧ (∀ e ∈ s.ml.events, e ∈ s.arbitrate.ml.events)
    ∧ (s.arbitrate.grantedNow q = false → s.arbitrate.pocket q = s.pocket q) := by
  unfold State.arbitrate
  split
  · rename_i r rest h1 h2 h3
    have k := takeGrant_keeps { s with ssa := { slot := some ⟨r, s.time, s.holdEnd r⟩, queue := rest } } r
      ⟨r, s.time, s.holdEnd r⟩ rfl rfl
    have a : ActsOn r.pocket { s with ssa := { slot := some ⟨r, s.time, s.holdEnd r⟩, queue := rest } }
      ({ s with ssa := { slot := some ⟨r, s.time, s.holdEnd r⟩, queue := rest } }.takeGrant r) :=
      (ActsOn.refl r.pocket _).takeGrant
    by_cases hq : r.pocket = q
    · subst hq
      refine ⟨k.run, k.faults, fun h => ⟨k.phase h, k.frozen h⟩, k.second, k.periodic, k.queue, k.members, ?_⟩
      intro hg
      exfalso
      simp only [State.grantedNow, k.slot, a.time] at hg
      simp at hg
    · have ho : q = r.pocket.other := by revert hq; cases r.pocket <;> cases q <;> simp [PocketId.other]
      have hp := a.other
      rw [← ho] at hp
      refine ⟨by rw [hp]; rfl, by rw [hp]; rfl, fun _ => ⟨by rw [hp]; rfl, by rw [hp]; rfl⟩,
        by rw [hp]; rfl, by rw [hp]; rfl, k.queue, k.members, fun _ => hp⟩
  · exact ⟨rfl, rfl, fun _ => ⟨rfl, rfl⟩, rfl, rfl, rfl, fun _ h => h, fun _ => rfl⟩

/-- With the slot held, or nothing waiting, no grant is made. -/
theorem arbitrate_idle (s : State) (h : s.slotServed) : s.arbitrate = s := by
  unfold State.arbitrate
  split
  · rename_i r rest h1 h2 h3
    rw [h h2] at h3
    exact absurd h3 (by simp)
  · rfl

/-- An act on pocket p and the grant that may follow it. -/
theorem ActsOn.frame {p : PocketId} {s t : State} (h : ActsOn p s t) : actsOnPocket p s t.arbitrate := by
  obtain ⟨q, hq⟩ := t.arbitrate_acts
  obtain ⟨h1, h2, _, _, _, _, _, h8⟩ := arbitrate_keeps t p.other
  exact ⟨keepsWorld.trans h.keepsWorld hq.keepsWorld,
    ⟨h1.trans (by rw [h.other]), h2.trans (by rw [h.other]), fun hg => (h8 hg).trans h.other⟩,
    hq.rp.trans h.rp⟩

/-! ### A taken request -/

/-- The state in which a request taken dt later is carried out. -/
def State.asked (s : State) (dt : Nat) (kind tag : Byte) : State :=
  { s with time := s.time + dt, ml := { s.ml with rx := .idle, outstanding := some ⟨kind, tag, none⟩ } }

/-- A listening link carries a clean request out at once, but for a bus request. -/
theorem request_served (s : State) (dt : Nat) (tag : Byte) (r : Request) (h : s.listening) :
    (s.advance dt).request tag r = ((s.asked dt r.kind tag).serve r).settle := by
  obtain ⟨h1, h2, h3⟩ := h
  simp [State.advance, State.request, h1, h2, State.take, h3, State.outstand, State.asked]

/-- Serving is listening. -/
theorem State.serving.listening {s : State} (h : s.serving) : s.listening :=
  ⟨by rw [h.1]; rfl, h.2⟩

/-- A request that passes its tests in RUN and acts on pocket p: its time, its reply and its frame. -/
theorem ActsOn.replied {p : PocketId} {s u : State} {dt : Nat} {kind tag : Byte}
    (h : ActsOn p (s.asked dt kind tag) u) (r : Reply) :
    (u.carriedOut r).settle.time = s.time + dt ∧ answers s (u.carriedOut r).settle kind tag r
      ∧ actsOnPocket p s (u.carriedOut r).settle := by
  obtain ⟨q, hq⟩ := u.arbitrate_acts
  have ho : u.ml.outstanding = some ⟨kind, tag, none⟩ := h.asked (by simp [State.asked])
  have hb : u.arbitrate.ml.outstanding = some ⟨kind, tag, none⟩ :=
    (hq.asked (by simp [ho])).trans ho
  obtain ⟨f1, f2, f3⟩ := h.frame
  refine ⟨hq.time.trans h.time, ?_, f1, f2, f3⟩
  simp only [State.carriedOut, Served.settle, Link.reply, hb]
  exact ⟨hq.rx.trans h.rx, rfl, by rw [hq.tx, h.tx]; rfl, hq.orphan.trans h.orphan⟩

/-- What a carried out request leaves of the pockets is what the act left, but for the grant. -/
theorem carriedOut_keeps (u : State) (r : Reply) (q : PocketId) :
    ((u.carriedOut r).settle.pocket q).run = (u.pocket q).run
    ∧ ((u.carriedOut r).settle.pocket q).faults = (u.pocket q).faults
    ∧ ((u.pocket q).phase ≠ .acRest →
        ((u.carriedOut r).settle.pocket q).phase = (u.pocket q).phase
        ∧ ((u.carriedOut r).settle.pocket q).frozen = (u.pocket q).frozen)
    ∧ ((u.carriedOut r).settle.pocket q).timers.second = (u.pocket q).timers.second
    ∧ ((u.carriedOut r).settle.pocket q).timers.periodic = (u.pocket q).timers.periodic
    ∧ (u.carriedOut r).settle.jc.queue = u.jc.queue
    ∧ (u.carriedOut r).settle.rp = u.rp
    ∧ (∀ e ∈ u.ml.events, e ∈ (u.carriedOut r).settle.ml.events) := by
  obtain ⟨h1, h2, h3, h4, h5, h6, h7, _⟩ := arbitrate_keeps u q
  obtain ⟨q', hq⟩ := u.arbitrate_acts
  refine ⟨h1, h2, h3, h4, h5, h6, hq.rp, ?_⟩
  intro e he
  have := h7 e he
  simp only [State.carriedOut, Served.settle, Link.reply]
  split <;> exact this

end Sys2Proof.Machine
end

