-- ==== Sys2Proof/Laws/Memory.lean ====
section
/-!
SUPPORT. Laws/Memory.lean: every operation on the journal memory keeps its canonical form, and what a
byte reads as after a write.
-/

namespace Sys2Proof.Machine

theorem Memory.sortedFrom_mono {lo lo' : Nat} (h : lo' ≤ lo) {m : List Host.Cell}
    (hm : Memory.sortedFrom lo m = true) : Memory.sortedFrom lo' m = true := by
  cases m with
  | nil => rfl
  | cons c rest =>
    obtain ⟨a, b⟩ := c
    simp only [Memory.sortedFrom, Bool.and_eq_true, decide_eq_true_eq] at hm ⊢
    exact ⟨⟨⟨by omega, hm.1.1.2⟩, hm.1.2⟩, hm.2⟩

theorem Memory.sortedFrom_write {lo : Nat} {m : List Host.Cell} (hm : Memory.sortedFrom lo m = true)
    {a : Nat} (ha : lo ≤ a) (hs : a < Memory.size) (b : Byte) :
    Memory.sortedFrom lo (Memory.write m a b) = true := by
  induction m generalizing lo with
  | nil =>
    by_cases hb : b = Config.freshByte
    · simp [Memory.write, hb, Memory.sortedFrom]
    · simp [Memory.write, hb, Memory.sortedFrom, ha, hs]
  | cons c rest ih =>
    obtain ⟨a', b'⟩ := c
    simp only [Memory.sortedFrom, Bool.and_eq_true, decide_eq_true_eq] at hm
    obtain ⟨⟨⟨h1, h2⟩, h3⟩, h4⟩ := hm
    simp only [Memory.write]
    split
    · split
      · simp [Memory.sortedFrom, h1, h2, h4]; simpa using h3
      · rename_i hlt hb
        simp only [Memory.sortedFrom, Bool.and_eq_true, decide_eq_true_eq]
        exact ⟨⟨⟨ha, hs⟩, by simpa using hb⟩, ⟨⟨by omega, h2⟩, h3⟩, h4⟩
    · split
      · split
        · exact Memory.sortedFrom_mono (by omega) h4
        · rename_i heq hb
          subst heq
          simp only [Memory.sortedFrom, Bool.and_eq_true, decide_eq_true_eq]
          exact ⟨⟨⟨ha, hs⟩, by simpa using hb⟩, h4⟩
      · simp only [Memory.sortedFrom, Bool.and_eq_true, decide_eq_true_eq]
        exact ⟨⟨⟨h1, h2⟩, h3⟩, ih h4 (by omega)⟩

/-- A write of one byte keeps the canonical form. -/
theorem Memory.wf_write {m : List Host.Cell} (hm : Memory.wf m = true) {a : Nat}
    (hs : a < Memory.size) (b : Byte) : Memory.wf (Memory.write m a b) = true :=
  Memory.sortedFrom_write hm (Nat.zero_le _) hs b

/-- A write of bytes inside the memory keeps the canonical form. -/
theorem Memory.wf_writeBytes {m : List Host.Cell} (hm : Memory.wf m = true) {a : Nat} (bs : List Byte)
    (hs : a + bs.length ≤ Memory.size) : Memory.wf (Memory.writeBytes m a bs) = true := by
  induction bs generalizing m a with
  | nil => exact hm
  | cons b bs ih =>
    simp only [List.length_cons] at hs
    exact ih (Memory.wf_write hm (by omega) b) (by omega)

theorem Memory.read_of_sortedFrom {lo : Nat} {m : List Host.Cell}
    (hm : Memory.sortedFrom lo m = true) {a : Nat} (ha : a < lo) :
    Memory.read m a = Config.freshByte := by
  induction m generalizing lo with
  | nil => rfl
  | cons c rest ih =>
    obtain ⟨a', b'⟩ := c
    simp only [Memory.sortedFrom, Bool.and_eq_true, decide_eq_true_eq] at hm
    obtain ⟨⟨⟨h1, _⟩, _⟩, h4⟩ := hm
    rw [Memory.read, if_neg (by omega)]
    exact ih h4 (by omega)

theorem Memory.read_write_sorted {lo : Nat} {m : List Host.Cell}
    (hm : Memory.sortedFrom lo m = true) (a a' : Nat) (b : Byte) :
    Memory.read (Memory.write m a b) a' = if a' = a then b else Memory.read m a' := by
  induction m generalizing lo with
  | nil =>
    by_cases hb : b = Config.freshByte
    · simp [Memory.write, hb, Memory.read]
    · by_cases h : a' = a
      · simp [Memory.write, hb, Memory.read, h]
      · simp [Memory.write, hb, Memory.read, h, Ne.symm h]
  | cons c rest ih =>
    obtain ⟨x, y⟩ := c
    simp only [Memory.sortedFrom, Bool.and_eq_true, decide_eq_true_eq] at hm
    obtain ⟨⟨⟨h1, _⟩, _⟩, h4⟩ := hm
    simp only [Memory.write]
    split
    · rename_i hlt
      split
      · rename_i hb
        by_cases h : a' = a
        · subst h
          rw [if_pos rfl, Memory.read, if_neg (by omega), hb]
          exact Memory.read_of_sortedFrom h4 (by omega)
        · rw [if_neg h]
      · by_cases h : a' = a
        · simp [Memory.read, h]
        · simp [Memory.read, h, Ne.symm h]
    · split
      · rename_i heq
        subst heq
        split
        · rename_i hb
          by_cases h : a' = a
          · subst h
            rw [if_pos rfl, hb]
            exact Memory.read_of_sortedFrom h4 (by omega)
          · rw [if_neg h, Memory.read, if_neg (Ne.symm h)]
        · by_cases h : a' = a
          · simp [Memory.read, h]
          · simp [Memory.read, h, Ne.symm h]
      · by_cases hx : x = a'
        · subst hx
          rename_i hne
          rw [Memory.read, if_pos rfl, if_neg (by omega), Memory.read, if_pos rfl]
        · rw [Memory.read, if_neg hx, ih h4, Memory.read, if_neg hx]

/-- What a byte reads as after a byte was written. -/
theorem Memory.read_write {m : List Host.Cell} (hm : Memory.wf m = true) (a a' : Nat) (b : Byte) :
    Memory.read (Memory.write m a b) a' = if a' = a then b else Memory.read m a' :=
  Memory.read_write_sorted hm a a' b

/-- Outside the bytes written every byte reads as before. -/
theorem Memory.read_writeBytes_outside {m : List Host.Cell} (hm : Memory.wf m = true) {a : Nat}
    (bs : List Byte) (hs : a + bs.length ≤ Memory.size) {a' : Nat}
    (h : a' < a ∨ a + bs.length ≤ a') :
    Memory.read (Memory.writeBytes m a bs) a' = Memory.read m a' := by
  induction bs generalizing m a with
  | nil => rfl
  | cons b bs ih =>
    simp only [List.length_cons] at hs h
    rw [Memory.writeBytes, ih (Memory.wf_write hm (by omega) b) (by omega) (by omega),
      Memory.read_write hm, if_neg (by omega)]

/-- A byte written reads back. -/
theorem Memory.read_writeBytes_inside {m : List Host.Cell} (hm : Memory.wf m = true) {a : Nat}
    (bs : List Byte) (hs : a + bs.length ≤ Memory.size) {i : Nat} (hi : i < bs.length) :
    Memory.read (Memory.writeBytes m a bs) (a + i) = bs[i] := by
  induction bs generalizing m a i with
  | nil => simp at hi
  | cons b bs ih =>
    simp only [List.length_cons] at hs hi
    cases i with
    | zero =>
      rw [Memory.writeBytes, Memory.read_writeBytes_outside (Memory.wf_write hm (by omega) b) bs
        (by omega) (by omega), Memory.read_write hm, if_pos (by omega)]
      rfl
    | succ i =>
      have := ih (m := Memory.write m a b) (a := a + 1) (i := i) (Memory.wf_write hm (by omega) b)
        (by omega) (by omega)
      rw [Memory.writeBytes, show a + (i + 1) = a + 1 + i by omega, this]
      rfl

/-- The bytes written read back as they were sent. -/
theorem Memory.readBytes_writeBytes {m : List Host.Cell} (hm : Memory.wf m = true) (a : Nat)
    (bs : List Byte) (hs : a + bs.length ≤ Memory.size) :
    Memory.readBytes (Memory.writeBytes m a bs) a bs.length = bs := by
  apply List.ext_getElem
  · simp [Memory.readBytes]
  · intro i h1 h2
    simp [Memory.readBytes, Memory.read_writeBytes_inside hm bs hs h2]

/-- The memory listed at reset is canonical. -/
theorem Memory.wf_reset : Memory.wf State.reset.journal = true := rfl

/-- Every slot lies inside the memory, above the configuration block. -/
theorem slotAddress_bounds (p : PocketId) (slot : Fin 124) :
    512 ≤ slotAddress p slot ∧ slotAddress p slot + 64 ≤ Memory.size := by
  have := slot.isLt
  cases p <;> simp only [slotAddress, Memory.size] <;> omega

/-! ### The acknowledged bytes of an attempt -/

/-- Storing the acknowledged bytes changes the memory and the mark of a cut block alone. -/
theorem State.storeAcked_frame (s : State) (acked : Nat) :
    s.storeAcked acked = { s with
      journal := (s.storeAcked acked).journal, storeCut := (s.storeAcked acked).storeCut } := by
  unfold State.storeAcked
  split
  · split <;> rfl
  · rfl
  · rfl
  · rfl

/-- A store in transfer stores its acknowledged bytes from byte 0, and any of them marks the block cut. -/
theorem State.storeAcked_store {s : State} {block : List Byte} {n : Nat} (acked : Nat)
    (h : s.jc.engine = .busy (.store block) n .transfer) :
    s.storeAcked acked = { s with
      journal := Memory.writeBytes s.journal 0 (block.dropLast.take acked)
      storeCut := s.storeCut || acked != 0 } := by
  unfold State.storeAcked
  simp [h, Job.bytesOut, Job.ofBlock]

/-- A pocket's write in transfer stores its acknowledged bytes in its slot, and marks nothing. -/
theorem State.storeAcked_checkpoint {s : State} {p : PocketId} {slot : Fin 124} {seq n : Nat}
    {image : List Byte} (acked : Nat) (h : s.jc.engine = .busy (.checkpoint p slot seq image) n .transfer) :
    s.storeAcked acked = { s with
      journal := Memory.writeBytes s.journal (slotAddress p slot) (image.dropLast.take acked) } := by
  unfold State.storeAcked
  simp [h, Job.bytesOut, Job.ofBlock]

/-- A job that writes nothing stores nothing. -/
theorem State.storeAcked_read {s : State} {job : Job} {n : Nat} {ph : EnginePhase} (acked : Nat)
    (h : s.jc.engine = .busy job n ph) (hj : job.bytesOut = none) : s.storeAcked acked = s := by
  unfold State.storeAcked
  cases ph <;> simp [h, hj]

/-- A cut store of a present block gives the defaults with CONFIG_DEFAULTED (R176). -/
theorem loadStored_cut {bs : List Byte} (h : byteAt bs 0 = 0xA7#8) :
    loadStored true bs = (Config.defaults, true) := by
  simp [loadStored, h]

@[simp] theorem loadStored_whole (bs : List Byte) : loadStored false bs = loadBlock bs := rfl

end Sys2Proof.Machine
end

