-- ==== Sys2Proof/Laws/PerInstr.lean ====
section
/-!
SUPPORT. Laws/PerInstr.lean: statements made of every command, one lemma for each constructor.
-/

namespace Sys2Proof.Laws.Unspelled

/-- No word spells the command: the table of operations and events gives bits to no row. -/
def Statement (i : Instr) : Prop := ∀ nbits w : Nat, decodeTableWord nbits w ≠ some i

/-- The decoder answers none on every word, so it spells no command. -/
theorem of_none (i : Instr) : Statement i := fun _ _ h => nomatch h

theorem status (dt : Nat) (tag : Byte) :
    Statement (.status dt tag) := of_none _

theorem pocket (dt : Nat) (tag pocket : Byte) :
    Statement (.pocket dt tag pocket) := of_none _

theorem startCycle (dt : Nat) (tag pocket : Byte) (t : Half) (stage : Byte) (c thetaX w : Half)
    (b : Byte) (rt : Half) (reverse autoResume : Byte) :
    Statement (.startCycle dt tag pocket t stage c thetaX w b rt reverse autoResume) := of_none _

theorem extend (dt : Nat) (tag pocket : Byte) (amount : Half) :
    Statement (.extend dt tag pocket amount) := of_none _

theorem setStage (dt : Nat) (tag pocket stage : Byte) :
    Statement (.setStage dt tag pocket stage) := of_none _

theorem endHeat (dt : Nat) (tag pocket : Byte) :
    Statement (.endHeat dt tag pocket) := of_none _

theorem stop (dt : Nat) (tag pocket : Byte) :
    Statement (.stop dt tag pocket) := of_none _

theorem continueCycle (dt : Nat) (tag pocket : Byte) :
    Statement (.continueCycle dt tag pocket) := of_none _

theorem plan (dt : Nat) (tag pocket : Byte) :
    Statement (.plan dt tag pocket) := of_none _

theorem confirm (dt : Nat) (tag pocket : Byte) :
    Statement (.confirm dt tag pocket) := of_none _

theorem decline (dt : Nat) (tag pocket : Byte) :
    Statement (.decline dt tag pocket) := of_none _

theorem clearPocket (dt : Nat) (tag selector : Byte) :
    Statement (.clearPocket dt tag selector) := of_none _

theorem clearPart (dt : Nat) (tag : Byte) :
    Statement (.clearPart dt tag) := of_none _

theorem events (dt : Nat) (tag : Byte) :
    Statement (.events dt tag) := of_none _

theorem configRead (dt : Nat) (tag group field : Byte) :
    Statement (.configRead dt tag group field) := of_none _

theorem configWrite (dt : Nat) (tag group field : Byte) (value : Half) :
    Statement (.configWrite dt tag group field value) := of_none _

theorem configStore (dt : Nat) (tag : Byte) :
    Statement (.configStore dt tag) := of_none _

theorem journalRead (dt : Nat) (tag pocket slot : Byte) :
    Statement (.journalRead dt tag pocket slot) := of_none _

theorem frameReceived (dt : Nat) (chars : List LineChar) :
    Statement (.frameReceived dt chars) := of_none _

theorem frameGapTimeout (dt : Nat) :
    Statement (.frameGapTimeout dt) := of_none _

theorem lineBreak (dt : Nat) :
    Statement (.lineBreak dt) := of_none _

theorem lineBreakEnd (dt : Nat) :
    Statement (.lineBreakEnd dt) := of_none _

theorem replyDelivered (dt : Nat) :
    Statement (.replyDelivered dt) := of_none _

theorem zeroCrossing (dt : Nat) (vline : Byte) :
    Statement (.zeroCrossing dt vline) := of_none _

theorem silenceTimerExpiry (dt : Nat) :
    Statement (.silenceTimerExpiry dt) := of_none _

theorem vhuReachesWake (dt : Nat) (vhu : Byte) :
    Statement (.vhuReachesWake dt vhu) := of_none _

theorem vhuReachesArm (dt : Nat) (vhu : Byte) :
    Statement (.vhuReachesArm dt vhu) := of_none _

theorem armTimerExpiry (dt : Nat) :
    Statement (.armTimerExpiry dt) := of_none _

theorem vhuBelowWriteFloor (dt : Nat) (vhu : Byte) :
    Statement (.vhuBelowWriteFloor dt vhu) := of_none _

theorem vhuBelowDark (dt : Nat) (vhu : Byte) (acked : Nat) :
    Statement (.vhuBelowDark dt vhu acked) := of_none _

theorem rstAssert (dt : Nat) (acked : Nat) :
    Statement (.rstAssert dt acked) := of_none _

theorem rstRelease (dt : Nat) :
    Statement (.rstRelease dt) := of_none _

theorem backupClockSecond (dt : Nat) :
    Statement (.backupClockSecond dt) := of_none _

theorem doorWatchFilterExpiry (dt : Nat) (p : PocketId) :
    Statement (.doorWatchFilterExpiry dt p) := of_none _

theorem rawContactChange (dt : Nat) (p : PocketId) (input : ContactInput) (level : Bool) :
    Statement (.rawContactChange dt p input level) := of_none _

theorem contactFilterExpiry (dt : Nat) (p : PocketId) (input : ContactInput) :
    Statement (.contactFilterExpiry dt p input) := of_none _

theorem settlingTimerExpiry (dt : Nat) (p : PocketId) (input : ContactInput) :
    Statement (.settlingTimerExpiry dt p input) := of_none _

theorem tachEdge (dt : Nat) (p : PocketId) (level : Bool) :
    Statement (.tachEdge dt p level) := of_none _

theorem tachPulseAccepted (dt : Nat) (p : PocketId) :
    Statement (.tachPulseAccepted dt p) := of_none _

theorem turningWindowExpiry (dt : Nat) (p : PocketId) :
    Statement (.turningWindowExpiry dt p) := of_none _

theorem temperatureConversion (dt : Nat) (p : PocketId) (code : BitVec 10) :
    Statement (.temperatureConversion dt p code) := of_none _

theorem pocketTimerExpiry (dt : Nat) (p : PocketId) :
    Statement (.pocketTimerExpiry dt p) := of_none _

theorem periodicTimerExpiry (dt : Nat) (p : PocketId) :
    Statement (.periodicTimerExpiry dt p) := of_none _

theorem startProofTimerExpiry (dt : Nat) (p : PocketId) :
    Statement (.startProofTimerExpiry dt p) := of_none _

theorem airflowGraceExpiry (dt : Nat) (p : PocketId) :
    Statement (.airflowGraceExpiry dt p) := of_none _

theorem purgeTimerExpiry (dt : Nat) (p : PocketId) :
    Statement (.purgeTimerExpiry dt p) := of_none _

theorem heatGraceExpiry (dt : Nat) (p : PocketId) :
    Statement (.heatGraceExpiry dt p) := of_none _

theorem ignitionTrialExpiry (dt : Nat) (p : PocketId) :
    Statement (.ignitionTrialExpiry dt p) := of_none _

theorem heatStartHoldEnd (dt : Nat) :
    Statement (.heatStartHoldEnd dt) := of_none _

theorem motorStartHoldEnd (dt : Nat) :
    Statement (.motorStartHoldEnd dt) := of_none _

theorem restTimerExpiry (dt : Nat) (p : PocketId) :
    Statement (.restTimerExpiry dt p) := of_none _

theorem burstProofTimerExpiry (dt : Nat) (p : PocketId) :
    Statement (.burstProofTimerExpiry dt p) := of_none _

theorem checkpointWriteStart (dt : Nat) :
    Statement (.checkpointWriteStart dt) := of_none _

theorem checkpointWriteComplete (dt : Nat) :
    Statement (.checkpointWriteComplete dt) := of_none _

theorem configStoreStart (dt : Nat) :
    Statement (.configStoreStart dt) := of_none _

theorem configStoreComplete (dt : Nat) :
    Statement (.configStoreComplete dt) := of_none _

theorem journalReadStart (dt : Nat) :
    Statement (.journalReadStart dt) := of_none _

theorem journalReadComplete (dt : Nat) :
    Statement (.journalReadComplete dt) := of_none _

theorem attemptNoAck (dt : Nat) (acked : Nat) :
    Statement (.attemptNoAck dt acked) := of_none _

theorem retryWaitExpiry (dt : Nat) :
    Statement (.retryWaitExpiry dt) := of_none _

theorem busTimeout (dt : Nat) (acked : Nat) :
    Statement (.busTimeout dt acked) := of_none _

theorem recoveryEnd (dt : Nat) :
    Statement (.recoveryEnd dt) := of_none _

theorem configurationReadComplete (dt : Nat) :
    Statement (.configurationReadComplete dt) := of_none _

theorem slotReadComplete (dt : Nat) :
    Statement (.slotReadComplete dt) := of_none _

theorem backupSupplyFailure (dt : Nat) :
    Statement (.backupSupplyFailure dt) := of_none _

theorem overlongFrameLength (dt : Nat) (kind tag length : LineChar) :
    Statement (.overlongFrameLength dt kind tag length) := of_none _

end Sys2Proof.Laws.Unspelled
end

