-- ==== Sys2Proof/Laws/Wires.lean ====
section
/-!
SUPPORT. Laws/Wires.lean: what goes out on TXD and on the journal bus. The characters of a frame carry its
bytes, with the mark on the first alone; a write in flight and a read in flight are the transfers of R121
and R132; a loss ends the reads of the load (R142); in RESET and DARK nothing is driven.
-/

namespace Sys2Proof

@[simp] theorem LineChar.byte_clean (b : Byte) (mark : Bool) : (LineChar.clean b mark).byte = b := by
  cases mark <;> revert b <;> decide +kernel

@[simp] theorem LineChar.mark_clean (b : Byte) (mark : Bool) : (LineChar.clean b mark).mark = mark := by
  cases mark <;> revert b <;> decide +kernel

@[simp] theorem LineChar.noise_clean (b : Byte) (mark : Bool) : (LineChar.clean b mark).noise = false := by
  cases mark <;> revert b <;> decide +kernel

@[simp] theorem LineChar.framing_clean (b : Byte) (mark : Bool) :
    (LineChar.clean b mark).framing = false := by
  cases mark <;> revert b <;> decide +kernel

namespace Machine

/-! ### Frames -/

@[simp] theorem length_frameChars (bs : List Byte) : (frameChars bs).length = bs.length := by
  cases bs <;> simp [frameChars]

/-- The characters of a frame carry its bytes in their order. -/
theorem bytes_frameChars (bs : List Byte) : (frameChars bs).map (fun c => c.byte) = bs := by
  cases bs <;> simp [frameChars, Function.comp_def]

/-- The mark stands on a frame's first character alone. -/
theorem marks_frameChars (b : Byte) (bs : List Byte) :
    (frameChars (b :: bs)).map (fun c => c.mark) = true :: List.replicate bs.length false := by
  simp [frameChars, Function.comp_def]

/-- No character of a frame carries an error. -/
theorem frameChars_clean (bs : List Byte) :
    ∀ c ∈ frameChars bs, c.noise = false ∧ c.framing = false := by
  cases bs with
  | nil => simp [frameChars]
  | cons b bs =>
    intro c h
    simp only [frameChars, List.mem_cons, List.mem_map] at h
    rcases h with rfl | ⟨x, _, rfl⟩ <;> simp

/-- Nothing is sent in RESET and DARK. -/
theorem State.onTxd_off {s : State} (h : s.ss.power.working = false) : s.onTxd = [] := by
  simp [State.onTxd, h]

/-! ### The journal bus -/

/-- An attempt of a job that writes is the write transfer of its bytes. -/
theorem Job.transfer_of_bytesOut {j : Job} {a : Nat} {bs : List Byte} (h : j.bytesOut = some (a, bs)) :
    j.transfer = writeTransfer a bs := by
  cases j <;> simp_all [Job.bytesOut, Job.transfer]

/-- An attempt of a job that writes nothing is a read transfer. -/
theorem Job.transfer_of_read {j : Job} (h : j.bytesOut = none) :
    ∃ a n, j.transfer = readTransfer a n := by
  cases j <;> simp_all [Job.bytesOut, Job.transfer]

/-- An abandoned attempt ends with a stop condition (R123). -/
theorem Job.abandoned_ends (j : Job) (sent : Nat) : (j.abandoned sent).getLast? = some .stop := by
  simp [Job.abandoned]

/-- The wait after a NO_ACK follows the stop condition with which the attempt was abandoned. -/
theorem Engine.onBus_retryWait (j : Job) (n t : Nat) :
    (Engine.busy j n (.retryWait t)).onBus = (Engine.busy j n .transfer).onNoAck := rfl

/-- A loss touches no request in flight: it acts on the bus and frees the engine for a read of the load
sequence alone (R127, R142). -/
theorem Engine.onLoss_request {j : Job} (h : j.ofLoad = false) (n : Nat) (ph : EnginePhase) :
    (Engine.busy j n ph).onLoss = [] ∧ (Engine.busy j n ph).afterLoss = .busy j n ph := by
  cases ph <;> simp [Engine.onLoss, Engine.afterLoss, h]

/-- A loss ends a read of the load sequence: with a stop condition in its transfer, with no act else (R142). -/
theorem Engine.onLoss_load {j : Job} (h : j.ofLoad = true) (n : Nat) (ph : EnginePhase) :
    (Engine.busy j n ph).onLoss = (if ph = .transfer then [.stop] else [])
      ∧ (Engine.busy j n ph).afterLoss = .free := by
  cases ph <;> simp [Engine.onLoss, Engine.afterLoss, h]

/-- Nothing is driven on the bus in RESET and DARK. -/
theorem State.onBus_off {s : State} (h : s.ss.power.working = false) : s.onBus = [] := by
  simp [State.onBus, h]

/-- A loss has nothing to end on the bus in RESET and DARK. -/
theorem State.onLoss_off {s : State} (h : s.ss.power.working = false) : s.onLoss = [] := by
  simp [State.onLoss, h]

end Machine

end Sys2Proof
end

