-- ==== Sys2Proof/WellFormed.lean ====
section
/-!
DEFINITION. WellFormed.lean: the terms that stand for something the surroundings can do. The meanings do
not ask for it; it bounds the operands that the types leave wider than the line or the bus carries.
-/

namespace Sys2Proof

open Sys2Proof.Machine

/-- A frame brings at least one character and at most the 64 of the longest frame (10.2). -/
def okChars (cs : List LineChar) : Bool := 1 ≤ cs.length && cs.length ≤ 64

/-- The longest transfer has 512 data bytes, of which an attempt that does not succeed gets at most 511
acknowledged (R113, R130). -/
def okAcked (n : Nat) : Bool := n ≤ 511

/-- The three characters of an overlong frame: a mark on the kind alone, and a length above 60 (R159). -/
def okOverlong (kind tag length : LineChar) : Bool :=
  kind.mark && !tag.mark && !length.mark && 60 < length.byte.toNat

/-- CLEAR_POCKET is the CLEAR whose selector does not name the part (R165). -/
def okSelector (selector : Byte) : Bool := selector != 2#8

/-- The well-formed commands. -/
def Instr.wellFormed : Instr → Bool
  | .frameReceived _ chars => okChars chars
  | .overlongFrameLength _ kind tag length => okOverlong kind tag length
  | .clearPocket _ _ selector => okSelector selector
  | .vhuBelowDark _ _ acked | .rstAssert _ acked | .attemptNoAck _ acked | .busTimeout _ acked =>
    okAcked acked
  | _ => true

end Sys2Proof
end

