-- ==== Sys2Proof/Tests/Slice0.lean ====
section
/-!
SUPPORT. Tests/Slice0.lean: the checks of well-formedness refuse what they should; the manual's own figures;
single commands on small states; and, for each statement with hypotheses, a state and operands that meet
them, clause by clause.
-/

set_option Elab.async false

namespace Sys2Proof.Tests

open Sys2Proof Sys2Proof.Machine

/-! ### Small states -/

/-- A pocket's inputs with the door closed, the drum turning and the interlocks proven. -/
def sensed : Sensing :=
  { Sensing.wake 0 with
    door := ⟨true, none, none⟩, airflow := ⟨true, none, none⟩, hilimit := ⟨true, none, none⟩
    heatFb := ⟨false, none, none⟩, lastPulse := some 9000000, samples := [100, 100, 100, 100]
    used := 4, theta := some 100, goodRun := 8, nextConversion := 10000000 }

/-- The part in RUN at ten seconds, line NORMAL, epoch 7, both pockets in a phase. -/
def running (ph : Phase) : State :=
  { State.reset with
    time := 10000000
    ss := { State.reset.ss with power := .run }
    lm := { State.reset.lm with
      line := .normal, lastCrossing := some 9990000, silence := 10004000 }
    bd := { State.reset.bd with epoch := 7, clock := 1000 }
    pins := { State.reset.pins with contacts := Pair.both ⟨true, true, true, false⟩ }
    ic := Pair.both sensed
    psq := Pair.both { Pocket.wake 7 Copies.default with phase := ph } }

/-- The same in another power state. -/
def powered (pw : Power) (s : State) : State := { s with ss := { s.ss with power := pw } }

/-- Change pocket U. -/
def onU (s : State) (f : Pocket → Pocket) : State := s.setPocket .U (f (s.pocket .U))

/-- Change pocket U's run record. -/
def runU (s : State) (f : RunRecord → RunRecord) : State := onU s fun k => { k with run := f k.run }

/-- Change pocket U's timers. -/
def timersU (s : State) (f : PocketTimers → PocketTimers) : State :=
  onU s fun k => { k with timers := f k.timers }

/-- Change pocket U's inputs. -/
def inU (s : State) (f : Sensing → Sensing) : State := s.setSense .U (f (s.sense .U))

/-- The engine serves a job. -/
def serving (s : State) (j : Job) (n : Nat) (ph : EnginePhase) : State :=
  { s with jc := { s.jc with engine := .busy j n ph } }

/-- The write queue holds one request. -/
def queued (s : State) (w : WriteKind) : State := { s with jc := { s.jc with queue := [⟨w, 5⟩] } }

/-- A request is outstanding. -/
def asked (s : State) (o : Outstanding) : State := { s with ml := { s.ml with outstanding := some o } }

/-- The slot is held. -/
def held (s : State) (p : PocketId) (k : StartKind) (hold : Option Nat) (q : List StartRequest) : State :=
  { s with ssa := ⟨some ⟨⟨p, k⟩, 9000000, hold⟩, q⟩ }

/-- The part in HOLD_UP at a VHU code, with the return mark as given. -/
def holding (vhu : Byte) (mark : Bool) (s : State) : State :=
  { s with ss := { s.ss with power := .holdUp, vhu := vhu, returnMark := mark } }

/-- The last accepted crossing was now, with so many half-cycles counted. -/
def crossed (s : State) (line : LineState) (low missing : Nat) : State :=
  { s with lm := { s.lm with
      line := line, lastCrossing := some 10000000, lowCount := low, missingCount := missing } }

/-- The state after a command. -/
def after (c : Instr) (s : State) : State :=
  match exec c s with
  | .next t => t
  | .fault _ | .refused _ => s

/-! ### Well-formed commands -/

/-- A frame of no character is ill-formed. -/
theorem test_wf_chars : Instr.wellFormed (.frameReceived 0 []) = false := by decide

/-- A frame of 65 characters is ill-formed. -/
theorem test_wf_chars_long :
    Instr.wellFormed (.frameReceived 0 (List.replicate 65 ⟨0, 0, 0⟩)) = false := by decide

/-- An attempt that gets 512 bytes acknowledged is ill-formed, and one that gets 511 is not. -/
theorem test_wf_acked : Instr.wellFormed (.attemptNoAck 0 512) = false
    ∧ Instr.wellFormed (.vhuBelowDark 0 0 512) = false ∧ Instr.wellFormed (.rstAssert 0 512) = false
    ∧ Instr.wellFormed (.busTimeout 0 512) = false ∧ Instr.wellFormed (.busTimeout 0 511) = true := by
  decide

/-- An overlong frame whose length is 60, or whose kind has no mark, is ill-formed. -/
theorem test_wf_overlong :
    Instr.wellFormed (.overlongFrameLength 0 (LineChar.clean 1 true) (LineChar.clean 7 false)
      (LineChar.clean 60 false)) = false
    ∧ Instr.wellFormed (.overlongFrameLength 0 (LineChar.clean 1 false) (LineChar.clean 7 false)
      (LineChar.clean 61 false)) = false
    ∧ Instr.wellFormed (.overlongFrameLength 0 (LineChar.clean 1 true) (LineChar.clean 7 false)
      (LineChar.clean 61 false)) = true := by decide +kernel

/-- CLEAR_POCKET with the part's selector is ill-formed. -/
theorem test_wf_selector : Instr.wellFormed (.clearPocket 0 0 2) = false := by decide

/-! ### The manual's own figures -/

/-- The check values of R177 for the bytes "123456789". -/
theorem test_checks :
    crc16 [0x31, 0x32, 0x33, 0x34, 0x35, 0x36, 0x37, 0x38, 0x39] = 0x29B1#16
    ∧ crc8 [0x31, 0x32, 0x33, 0x34, 0x35, 0x36, 0x37, 0x38, 0x39] = 0xF4#8 := by decide +kernel

/-- The writes of 160 and of 90 to F[5] (R174). -/
theorem test_decay_writes :
    (Config.defaults.write 4 11 160).map (fun x => (x.1.field 4 11, x.2)) = some (150, true)
    ∧ (Config.defaults.write 4 11 90).map (fun x => (x.1.plan.drop 11, x.2))
        = some ([90, 90, 90, 86, 76, 67, 59, 52, 46, 41, 36], true) := by decide +kernel

/-- The conversions of 2.6. -/
theorem test_conversions :
    [400, 402, 700, 20, 1000].map (convert Config.defaults.breakCodes Config.defaults.breakTemps)
      = [139, 138, 48, 400, -40] := by decide +kernel

/-- The run record of the worked case of 9.8. -/
def worked : RunRecord :=
  { RunRecord.cleared 7 Copies.default with
    d := 9000, t := 14400, thetaRef := 137, thetaX := 80, coolTarget := 300, autoResume := true }

/-- The figures of 9.8 and, with T raised to 15,200, those of the CONFIRM of 9.9. -/
theorem test_heat_figures :
    figures Config.defaults worked (some 1260) none true
      = ⟨some 1260, 146, 99, 38, 95, 8905, 5495, 1374⟩
    ∧ figures Config.defaults { worked with t := 15200 } (some 1560) none true
      = ⟨some 1560, 125, 92, 45, 113, 8887, 6313, 1579⟩ := by decide +kernel

/-- The cool resume and the unknown outage of 9.10. -/
theorem test_cool_figures :
    (figures Config.defaults { worked with d := 4800, t := 4800, thetaRef := 130 } (some 900) none true)
      = ⟨some 900, 172, 103, 27, 68, 4732, 68, 17⟩
    ∧ (coolDecision Config.defaults { worked with c := 250 } ⟨some 900, 172, 103, 27, 68, 4732, 68, 17⟩ 0)
        = { stayPlan .resumeCool .startWait .cool ⟨some 900, 172, 103, 27, 68, 4732, 68, 17⟩ 0 with
            cPrime := 180 }
    ∧ (figures Config.defaults { worked with thetaRef := 150 } none (some 44) false).thetaN = 50 := by
  decide +kernel

/-! ### Single commands -/

/-- A STATUS right after reset: WAKE/QUALIFY, no fault, both pockets RECOVERING. -/
theorem test_status : (after (.status 5 9) State.reset).ml.tx
    = [⟨false, replyFrame 1 9 ⟨.ok, [1, 2, 1, 0, 0, 0, 0, 0xFF, 14, 14, 0, 0]⟩⟩] := by decide +kernel

/-- START_CYCLE with a short T: T is clamped to 240, and the pocket spins up at once. -/
theorem test_start_cycle :
    let t := after (.startCycle 5 9 0 100 0 300 80 3600 6 120 1 1) (running .idle)
    (t.pocket .U).phase = .spinup ∧ (t.pocket .U).run.t = 240 ∧ (t.pocket .U).motorRun = true
      ∧ t.ssa.slot = some ⟨⟨.U, .motorStart⟩, 10000005, some 12000005⟩ := by decide +kernel

/-- END_HEAT in HEAT leads to COOL, and STOP in AC_BURST to DONE with the motor off. -/
theorem test_end_and_stop :
    ((after (.endHeat 5 9 0) (running .heat)).pocket .U).phase = .cool
    ∧ ((after (.stop 5 9 0) (onU (running .acBurst) fun k => { k with motorRun := true })).pocket .U).phase
        = .done
    ∧ ((after (.stop 5 9 0) (onU (running .acBurst) fun k => { k with motorRun := true })).pocket .U).motorRun
        = false := by decide +kernel

/-- CONTINUE with the door closed, CONFIRM and DECLINE leave their phases. -/
theorem test_decisions :
    ((after (.continueCycle 5 9 0) (running .paused)).pocket .U).phase = .spinup
    ∧ ((after (.confirm 5 9 0) (running .held)).pocket .U).phase = .spinup
    ∧ ((after (.decline 5 9 0) (runU (running .held) fun r => { r with thetaX := 400 })).pocket .U).phase
        = .done := by decide +kernel

/-- EXTEND raises T by its amount and SET_STAGE writes the stage. -/
theorem test_extend_and_stage :
    ((after (.extend 5 9 0 60) (running .heat)).pocket .U).run.t = 300
    ∧ ((after (.setStage 5 9 0 1) (running .heat)).pocket .U).run.stage = .reduced := by decide +kernel

/-- A frame of four characters brings the same as the command of its request. -/
theorem test_frame : after (.frameReceived 5 (cleanFrame 1 9 [])) (running .heat)
    = after (.status 5 9) (running .heat) := by decide +kernel

/-- A reply goes out with the mark on its first character alone, and not at all in RESET (R158). -/
theorem test_marks :
    let s := after (.configStore 5 9) { running .heat with ml := { (running .heat).ml with orphan := true } }
    s.onTxd.map (fun c => c.mark) = [true, false, false, false, false]
      ∧ s.onTxd.map (fun c => c.byte) = replyFrame 0x10 9 ⟨.busy, []⟩
      ∧ (after (.rstAssert 5 0) s).onTxd = [] := by decide +kernel

/-- A break empties the transmitter and ends the outstanding request. -/
theorem test_break :
    let t := after (.lineBreak 5) (after (.status 5 9) (running .heat))
    t.ml.tx = [] ∧ t.ml.outstanding = none ∧ t.ml.rx = .lineBreak := by decide +kernel

/-- A second in HEAT with the flame proven gives 4 DU and one heat second. -/
theorem test_heat_second :
    let s := timersU (inU (running .heat) fun k => { k with heatFb := ⟨true, none, none⟩ })
      fun x => { x with second := some 10000000 }
    ((after (.pocketTimerExpiry 0 .U) s).pocket .U).run.d = 4
      ∧ ((after (.pocketTimerExpiry 0 .U) s).pocket .U).run.h = 1 := by decide +kernel

/-- A pocket timer that has not reached its instant does nothing (log 5). -/
theorem test_early_expiry :
    let s := timersU (running .heat) fun x => { x with second := some 10000001 }
    after (.pocketTimerExpiry 0 .U) s = s := by decide +kernel

/-- A write of a byte and of 0xFF over it leaves the memory empty. -/
theorem test_memory : Memory.write [] 600 7 = [(600, 7)] ∧ Memory.write [(600, 7)] 600 0xFF = []
    ∧ Memory.read [(600, 7)] 600 = 7 ∧ Memory.read [(600, 7)] 601 = 0xFF := by decide

/-- A write start in HOLD_UP below the write floor ends in DARK. -/
theorem test_floor :
    (after (.checkpointWriteStart 5)
      (queued { powered .holdUp (running .heat) with
        ss := { (running .heat).ss with power := .holdUp, vhu := 79 } } (.checkpoint .U .loss))).ss.power
      = .dark := by decide +kernel

/-! ### States that meet the statements' hypotheses, clause by clause -/

/-- StepTakesTheFrontCommand: an empty queue. -/
theorem test_meets_step : State.reset.pending = [] := rfl

/-- WakeAndResetAreEnteredByRule: VHU at exactly 100, at the wake threshold, and one below it. -/
theorem test_meets_wake :
    let dark := { powered .dark (running .heat) with
      ss := { (running .heat).ss with power := .dark, atWake := false } }
    let low := { powered .reset (running .heat) with
      ss := { (running .heat).ss with power := .reset, atWake := false, vhu := 99 } }
    (dark.ss.power = .dark ∧ dark.ss.atWake = false ∧ 100 ≤ (100 : Byte).toNat ∧ dark.pins.rst = false)
    ∧ (low.ss.power = .reset ∧ low.ss.atWake = false ∧ low.cfg.wakeCode ≤ (100 : Byte).toNat
      ∧ low.pins.rst = false)
    ∧ (let s := { powered .reset (running .heat) with pins := { (running .heat).pins with rst := true } }
       s.ss.power = .reset ∧ s.pins.rst = true ∧ s.cfg.wakeCode ≤ s.ss.vhu.toNat)
    ∧ (let s := { dark with pins := { dark.pins with rst := true } }
       s.ss.power = .dark ∧ s.ss.atWake = false ∧ s.pins.rst = true)
    ∧ (let s := { low with pins := { low.pins with rst := true } }
       s.ss.power = .reset ∧ s.pins.rst = true ∧ s.ss.vhu.toNat < s.cfg.wakeCode) := by decide +kernel

/-- StatusReportsThePart, PocketAndPlanRepliesReport, ConfigReadReadsOneField, and the first clause of
EventsAreRemovedAtDelivery: the link listens in WAKE and in RUN, θ is valid in RUN and not in WAKE, and
pocket U has a plan in one state and none in the other. -/
theorem test_meets_reports :
    State.reset.listening ∧ (running .heat).listening ∧ (State.reset.sense .U).theta = none
    ∧ ((running .heat).sense .U).theta = some 100 ∧ State.reset.rp.get .U = none
    ∧ (let s := after (.continueCycle 5 9 0) (running .paused)
       let t := after (.replyDelivered 5) s
       t.listening ∧ (t.rp.get .U).isSome = true) := by decide +kernel

/-- EventsAreRemovedAtDelivery: what is being sent is an EVENTS reply, another reply, a REJECT, nothing. -/
theorem test_meets_delivery :
    (let s := after (.events 5 9) (running .heat)
     s.ss.power.working = true ∧ s.ml.tx.length = 1 ∧ s.ml.tx.all (fun f => !f.reject) = true
       ∧ s.ml.outstanding = some ⟨0x0D, 9, some ⟨0, false, false⟩⟩)
    ∧ (let s := after (.status 5 9) (running .heat)
       s.ss.power.working = true ∧ s.ml.tx.length = 1 ∧ s.ml.tx.all (fun f => !f.reject) = true
         ∧ s.ml.outstanding = some ⟨0x01, 9, none⟩)
    ∧ (let s := after (.frameReceived 5 (cleanFrame 0x12 9 [])) (running .heat)
       s.ss.power.working = true ∧ s.ml.tx = [⟨true, rejectFrame 0x12 9 .kind⟩])
    ∧ (running .heat).ml.tx = [] := by decide +kernel

/-- ConfigWriteWritesOneField: the last field and the first unknown one, a defined and an undefined
member. -/
theorem test_meets_config_write :
    (running .heat).serving ∧ fieldRange 1 31 = none ∧ (fieldRange 1 30).isSome = true
    ∧ fieldRange 2 0 = some (.member 2)
    ∧ (FieldRange.member 2).accept ((FieldRange.member 2).decode 2) = none
    ∧ (FieldRange.member 2).accept ((FieldRange.member 2).decode 1) = some 1 := by decide +kernel

/-- ConfigWriteWritesOneField: a copy whose tables and thresholds are out of order, the group and field at
each bound of the clauses, and what settling makes of it (R174, R98): a code raised to 1,023 comes down
again, θ and the fields around the table stay. -/
theorem test_meets_settling :
    let c : WorkingCopy := { Config.defaults with
      part := (((Config.defaults.part.set 13 1023).set 8 99).set 22 (-5)), plan := Config.defaults.plan.set 6 80 }
    shaped c = true
    ∧ (c.settle 4 6).plan.drop 6 = [80, 80, 80, 80, 80, 80, 80, 80, 80, 76, 67, 59, 52, 46, 41, 36]
    ∧ c.settle 4 21 = c.settle 4 6 ∧ c.settle 4 5 = c ∧ c.settle 1 4 = c ∧ c.settle 1 9 = c
    ∧ c.settle 1 12 = c ∧ c.settle 2 6 = c
    ∧ (c.settle 1 13).breakCodes = [1015, 1016, 1017, 1018, 1019, 1020, 1021, 1022, 1023]
    ∧ c.settle 1 30 = c.settle 1 13 ∧ (c.settle 1 13).breakTemps = c.breakTemps
    ∧ (c.settle 1 5).part.take 10 = [200, 3, 8, 20, 160, 100, 120, 100, 99, 30]
    ∧ c.settle 1 8 = c.settle 1 5 := by decide +kernel

/-- BusRequestsJoinTheWriteQueue: without an orphan, and with one; a queue that holds the pocket's request
and one that holds the other's alone. -/
theorem test_meets_bus :
    (running .heat).serving ∧ (running .heat).ml.orphan = false
    ∧ (let s := { running .heat with ml := { (running .heat).ml with orphan := true } }
       s.serving ∧ s.ml.orphan = true)
    ∧ (let q : List WriteRequest := [⟨.checkpoint .L .loss, 5⟩]
       (∃ w ∈ q, w.ofPocket .L = true) ∧ ∀ w ∈ q, w.ofPocket .U = false) := by decide +kernel

/-- An upgrade keeps the place and the age, and LOSS is never lowered (R118). -/
theorem test_upgrade :
    enqueue [⟨.checkpoint .U .periodic, 5⟩, ⟨.store, 6⟩] .U .phase 9
        = [⟨.checkpoint .U .phase, 5⟩, ⟨.store, 6⟩]
    ∧ enqueue [⟨.checkpoint .U .loss, 5⟩] .U .start 9 = [⟨.checkpoint .U .loss, 5⟩]
    ∧ chooseRequest [⟨.store, 1⟩, ⟨.checkpoint .L .phase, 5⟩, ⟨.checkpoint .U .start, 5⟩]
        = some ⟨.checkpoint .U .start, 5⟩ := by decide +kernel

/-- RefusedRequestsChangeNothing: a payload one byte too long and one too short, up to 60 bytes; outside RUN
and in it, a pocket byte of 2 and a selector of 3; each failed phase test; an undefined member; a slot of
124. -/
theorem test_meets_refused :
    (State.reset.listening ∧ State.reset.ss.power ≠ .run ∧ 2 ≤ (2 : Byte).toNat)
    ∧ (running .heat).listening ∧ 3 ≤ (3 : Byte).toNat
    ∧ (∀ x, x ∈ [((1 : Byte), 1), (0x11, 1), (0x11, 60), (3, 14)] → x.2 ≤ 60 ∧ 1 ≤ x.1.toNat
      ∧ x.1.toNat ≤ 0x11
      ∧ x.2 ≠ [0, 1, 15, 3, 2, 1, 1, 1, 1, 1, 1, 1, 0, 2, 4, 0, 2].getD (x.1.toNat - 1) 0)
    ∧ (∀ ph, ph ∈ [Phase.faultHold, .startWait] → (running ph).serving
      ∧ ((running ph).pocket .U).phase ∉ [Phase.idle, .done, .held]) ∧ 124 ≤ (124 : Byte).toNat
    ∧ (running .heat).ml.orphan = false
    ∧ (∀ ph, ph ∈ [Phase.heat, .idle, .paused, .cool, .acRest] → (running ph).serving)
    ∧ ((running .heat).pocket .U).phase ≠ .idle ∧ ((running .heat).pocket .U).phase ≠ .done
    ∧ ((running .idle).pocket .U).phase ∈ [Phase.idle, .acRest, .acBurst, .done, .faultHold]
    ∧ (let k := (runU (running .paused) fun r => { r with target := .cool }).pocket .U
       k.phase = .paused ∧ k.run.target ≠ .heat)
    ∧ (let k := (runU (running .cool) fun r => { r with cause := .stop }).pocket .U
       k.phase = .cool ∧ k.run.cause ≠ .target ∧ k.run.cause ≠ .appEnd)
    ∧ ((running .paused).sense .U).door.level = true
    ∧ ((inU (running .paused) fun k => { k with door := ⟨false, none, none⟩ }).sense .U).door.level
        = false := by decide +kernel

/-- ClearEmptiesFaults, SetStageWritesTheStage, StopActsByPhase, StartCycleBeginsACycle, EndHeatEndsHeat:
a served slot in RUN with the pocket in each phase, and the clauses of STOP on h, D and the target. -/
theorem test_meets_requests :
    (∀ ph, ph ∈ [Phase.idle, .startWait, .spinup, .purge, .ignition, .heat, .heatWait, .cool, .acRest,
        .acBurst, .done, .paused, .held, .faultHold] →
      (running ph).serving ∧ (running ph).slotServed ∧ ((running ph).pocket .U).phase = ph
        ∧ ((running ph).pocket .U).run.target = .heat ∧ ((running ph).pocket .U).run.h = 0
        ∧ ((running ph).pocket .U).run.d = 0)
    ∧ 0 < ((runU (running .spinup) fun r => { r with h := 1 }).pocket .U).run.h
    ∧ (let k := (runU (running .spinup) fun r => { r with d := 1, target := .cool }).pocket .U
       0 < k.run.d ∧ k.run.target = .cool) := by decide +kernel

/-- ExtendRaisesTheTarget: a cause of TARGET in COOL with T below its bound, and with T at it. -/
theorem test_meets_extend :
    (let s := runU (running .cool) fun r => { r with cause := .target }
     s.serving ∧ s.slotServed ∧ (s.pocket .U).phase = .cool ∧ (s.pocket .U).run.cause = .target
       ∧ (s.pocket .U).run.t < min 57600 ((s.pocket .U).run.t + max 1 (min 57600 (1 : Half).toNat))
       ∧ (s.pocket .U).faults.sensor = false ∧ s.interlock .U = true)
    ∧ (let s := runU (running .cool) fun r => { r with cause := .appEnd, t := 57600 }
       s.serving ∧ s.slotServed ∧ (s.pocket .U).phase = .cool ∧ (s.pocket .U).run.cause = .appEnd
         ∧ (s.pocket .U).run.t
             = min 57600 ((s.pocket .U).run.t + max 1 (min 57600 (1 : Half).toNat))) := by decide +kernel

/-- A pocket that left heat at 100 a thousand seconds ago, with target COOL, in a phase. -/
def cooled (ph : Phase) (thetaX : Int) (exit : CoolExit) (w : Nat) : State :=
  runU (running ph) fun r =>
    { r with target := .cool, thetaRef := 100, thetaX := thetaX, coolExit := exit, window := w }

/-- ContinueAppliesALivePlan and HeldPlansAreDecided: target HEAT; a load one code warmer than θX; and a
load exactly at it, with each cool exit. -/
theorem test_meets_plans :
    ((running .paused).serving ∧ ((running .paused).pocket .U).phase = .paused
      ∧ ((running .paused).sense .U).door.level = true
      ∧ ((running .paused).pocket .U).run.target = .heat)
    ∧ (running .held).serving ∧ ((running .held).pocket .U).phase = .held
    ∧ (∀ ph, ph ∈ [Phase.paused, .held] → let s := cooled ph 81 .done 0
       s.serving ∧ (s.pocket .U).phase = ph ∧ (s.pocket .U).run.target ≠ .heat
         ∧ (s.pocket .U).run.thetaX < (liveFigures s.cfg s.bd (s.sense .U) (s.pocket .U)).thetaN)
    ∧ (∀ e, e ∈ [CoolExit.antiCrease, .done, .faultHold] → let s := cooled .paused 82 e 1
       s.serving ∧ (s.pocket .U).run.coolExit = e ∧ 0 < (s.pocket .U).run.window
         ∧ (liveFigures s.cfg s.bd (s.sense .U) (s.pocket .U)).thetaN ≤ (s.pocket .U).run.thetaX)
    ∧ (let s := cooled .held 82 .antiCrease 0
       s.serving ∧ (s.pocket .U).run.window = 0 ∧ (s.pocket .U).phase = .held
         ∧ (liveFigures s.cfg s.bd (s.sense .U) (s.pocket .U)).thetaN ≤ (s.pocket .U).run.thetaX) := by
  decide +kernel

/-- CompleteFramesAreTestedInOrder and OverlongFramesAreRejected: a frame for each test, and lengths of 60
and 61. -/
theorem test_meets_frames :
    (running .heat).ss.power.working = true ∧ (running .heat).ml.rx ≠ .lineBreak
    ∧ (running .heat).ml.outstanding = none ∧ (asked (running .heat) ⟨1, 1, none⟩).ml.outstanding.isSome
    ∧ (LineChar.clean 1 true).mark = true ∧ (LineChar.clean 1 false).mark = false
    ∧ (LineChar.clean 60 false).byte.toNat = 60 ∧ 60 < (LineChar.clean 61 false).byte.toNat
    ∧ (cleanFrame 1 9 []).map (fun c => c.noise || c.framing) = [false, false, false, false]
    ∧ (LineChar.mk 0 1 0).noise = true ∧ (LineChar.mk 0 0 0).framing = true
    ∧ crc8 [1, 9, 0] ≠ 0 ∧ (0x12 : Byte).toNat > 0x11 ∧ (0x11 : Byte).toNat = 0x11 := by decide +kernel

/-- GapsAndBreaksResetTheLine: a frame in assembly; a break with a bus request queued, in flight, and with
nothing left at the controller. -/
theorem test_meets_line :
    (let s := { running .heat with ml := { (running .heat).ml with rx := .receiving [1] false } }
     s.ss.power.working = true ∧ s.ml.rx = .receiving [1] false)
    ∧ (let s := queued (asked (running .heat) ⟨0x10, 1, none⟩) .store
       s.ml.outstanding.isSome ∧ s.jc.queue.any (fun w => w.ofLink) = true)
    ∧ (let s := asked (running .heat) ⟨0x10, 1, none⟩
       s.ml.outstanding.isSome ∧ s.jc.queue = [] ∧ s.jc.engine = .free)
    ∧ (running .heat).ml.outstanding = none
    ∧ (let s := serving (asked (running .heat) ⟨0x11, 1, none⟩) (.read .U 0) 1 .recovery
       s.ml.outstanding.isSome ∧ s.jc.engine = .busy (.read .U 0) 1 .recovery)
    ∧ (let s := { running .heat with ml := { (running .heat).ml with rx := .lineBreak } }
       s.ss.power.working = true ∧ s.ml.rx = .lineBreak) := by decide +kernel

/-- EventsJoinTheQueueAndDriveAttn: a masked class, room for one more, and none. -/
theorem test_meets_events :
    (127 : Nat).testBit EventKind.lineNormal.classBit = true
    ∧ (running .heat).cfg.classMask.testBit EventKind.lineNormal.classBit = false
    ∧ (List.replicate 15 (0 : Nat)).length < 16 ∧ 16 ≤ (List.replicate 16 (0 : Nat)).length := by
  decide +kernel

/-- EventsJoinTheQueueAndDriveAttn: with 16 events queued and an EVENTS reply that reported the lost flag
under way, a posting is discarded; the flag then outlives the delivery, which without it clears it (R168). -/
theorem test_discard_outlives_delivery :
    let full : State := { running .heat with ml := { (running .heat).ml with
      events := List.replicate 16 ⟨.lineNormal, none, 0, 0⟩, lost := true } }
    let s := after (.events 5 9) full
    s.ml.outstanding = some ⟨0x0D, 9, some ⟨8, true, false⟩⟩ ∧ 16 ≤ s.ml.events.length
      ∧ (s.post .lineRide none 0).ml.outstanding = some ⟨0x0D, 9, some ⟨8, true, true⟩⟩
      ∧ (after (.replyDelivered 5) (s.post .lineRide none 0)).ml.lost = true
      ∧ (after (.replyDelivered 5) s).ml.lost = false := by decide +kernel

/-- CrossingsAndSilencesDriveTheMonitor: 6,999 µs; 7,000 µs after a counted silence; GOOD at 7,000 and
11,500 µs, LOW below its count; MISSING at 11,501 and 14,001 µs; the last half-cycle of Q; a silence that
ends now. -/
theorem test_meets_crossings :
    (let s := running .heat
     s.ss.power = .run ∧ s.lm.line = .normal ∧ s.lm.lastCrossing = some 9990000 ∧ s.lm.missed = false
       ∧ s.time + 1500 - 9990000 ≤ 11500 ∧ 7000 ≤ s.time + 1500 - 9990000
       ∧ s.cfg.lowThreshold ≤ max s.lm.peak.toNat (160 : Byte).toNat
       ∧ max s.lm.peak.toNat (159 : Byte).toNat < s.cfg.lowThreshold
       ∧ min 255 (s.lm.lowCount + 1) < s.cfg.nLow ∧ s.lm.silence ≤ s.time + 4000 ∧ s.slotServed
       ∧ 11500 < s.time + 1501 - 9990000 ∧ 14000 < s.time + 4001 - 9990000)
    ∧ (let s := { running .heat with lm := { (running .heat).lm with lastCrossing := some 10000000 } }
       s.lm.lastCrossing = some 10000000 ∧ s.time + 6999 - 10000000 < 7000)
    ∧ State.reset.lm.lastCrossing = none
    ∧ (let s := { running .heat with lm := { (running .heat).lm with
         lastCrossing := some 10000000, missed := true } }
       s.lm.missed = true ∧ s.lm.lastCrossing = some 10000000 ∧ 7000 ≤ s.time + 7000 - 10000000)
    ∧ (let s := { State.reset with lm := { State.reset.lm with goodRun := 199, lastCrossing := some 0 } }
       s.ss.power = .wake .qualify ∧ s.lm.line = .qualifying ∧ s.lm.lastCrossing = some 0
         ∧ s.lm.missed = false ∧ 7000 ≤ s.time + 10000 - 0 ∧ s.time + 10000 - 0 ≤ 11500
         ∧ s.cfg.lowThreshold ≤ (160 : Byte).toNat ∧ s.cfg.q ≤ min 400 (s.lm.goodRun + 1)) := by
  decide +kernel

/-- LossEntersHoldUp: the fourth missing half-cycle in RIDE_THROUGH, by a silence and by a crossing after
11,501 µs, in RUN, in WAKE/LOAD and in WAKE/ARM, and VHU one below the write floor, with the pocket in a
running phase with and without SENSOR and θ, and pocket L in a phase that is none; no pocket running with
nothing to write, and with a write left; a service request queued, with the orphan and without. -/
theorem test_meets_loss :
    (∀ pw, pw ∈ [Power.run, .wake .load, .wake .arm] →
      let s := powered pw (crossed (running .recovering) .rideThrough 0 3)
      s.ss.power = pw ∧ s.lm.line = .rideThrough ∧ s.cfg.nRt < min 255 (s.lm.missingCount + 1)
        ∧ s.lm.lastCrossing = some 10000000 ∧ s.lm.missed = false ∧ 11500 < s.time + 11501 - 10000000
        ∧ s.lm.silence ≤ s.time + 4000 ∧ (s.pocket .U).phase.running = false
        ∧ (s.pocket .L).phase.running = false
        ∧ s.jc.engine = .free ∧ s.jc.queue = []
        ∧ (queued s (.checkpoint .U .phase)).jc.queue.all (fun w => w.ofLink) = false)
    ∧ (∀ o, o ∈ [true, false] →
      let s := queued (asked { running .heat with ml := { (running .heat).ml with orphan := o } }
        ⟨0x10, 1, none⟩) .store
      (∃ w ∈ s.jc.queue, w.ofLink = true) ∧ s.ml.orphan = o
        ∧ s.ml.outstanding = some ⟨0x10, 1, none⟩) ∧
    (let s := { running .heat with lm := { (running .heat).lm with
       line := .rideThrough, missingCount := 3, silence := 10000000 } }
     s.ss.power = .run ∧ (s.pocket .U).phase.running = true ∧ s.lm.line = .rideThrough
       ∧ s.lm.silence ≤ s.time + 0 ∧ s.cfg.nRt < min 255 (s.lm.missingCount + 1)
       ∧ (s.pocket .U).faults.sensor = false ∧ (s.sense .U).theta = some 100)
    ∧ (running .heat).ss.atFloor = true ∧ (79 : Byte).toNat < (running .heat).cfg.writeFloor
    ∧ (let s := (running .heat).setPocket .L ((running .done).pocket .L)
       (s.pocket .U).phase.running = true ∧ (s.pocket .L).phase.running = false) := by decide +kernel

/-- FallBelowDarkLosesTheWorkingDomain and RstHaltsThePart: each power state, VHU one below dark, a write
and a store in flight with all but the last byte acknowledged, a read, a wait and a recovery, and no job. -/
theorem test_meets_dark :
    (let s := serving (powered .holdUp (running .heat)) (.checkpoint .U 0 1 (List.replicate 64 1)) 1
       .transfer
     s.ss.power = .holdUp ∧ s.ss.atDark = true ∧ (59 : Byte).toNat < s.cfg.darkCode
       ∧ s.journalSafe = true ∧ 63 < (List.replicate 64 (1 : Byte)).length ∧ s.pins.rst = false
       ∧ s.ss.power ≠ .dark ∧ s.ss.power.working = true)
    ∧ (let s := serving (powered .holdUp (running .heat)) (.store (List.replicate 512 0)) 1 .transfer
       s.journalSafe = true ∧ 511 < (List.replicate 512 (0 : Byte)).length)
    ∧ (∀ ph, ph ∈ [EnginePhase.transfer, .retryWait 10001000, .recovery] →
       let s := serving (powered .holdUp (running .heat)) (.read .U 3) 1 ph
       s.journalSafe = true ∧ s.jc.engine = .busy (.read .U 3) 1 ph ∧ s.ss.atDark = true)
    ∧ (powered .reset (running .heat)).ss.power = .reset ∧ State.reset.ss.power = .wake .qualify
    ∧ (running .heat).jc.engine = .free ∧ (running .heat).journalSafe = true
    ∧ (powered .dark (running .heat)).ss.power = .dark := by decide +kernel

/-- The part in WAKE/LOAD with a read of the load sequence in a phase of its engine. -/
def loading (j : Job) (ph : EnginePhase) : State :=
  serving { powered (.wake .load) (crossed (running .recovering) .rideThrough 0 3) with
    jc := { (running .recovering).jc with scan := some ⟨Pair.both ⟨false, none⟩, []⟩ } } j 1 ph

/-- LossEntersHoldUp and FallBelowDarkLosesTheWorkingDomain: a loss in WAKE/LOAD, by the line and by VHU, ends
a read in transfer with a stop condition, and a retry wait or a recovery with no act; a request in flight at
a loss in RUN goes on (R127, R142). -/
theorem test_loss_in_load :
    (∀ j, j ∈ [Job.configRead, .slotRead .L 123] →
      ∀ x, x ∈ [(EnginePhase.transfer, [BusAct.stop]), (.retryWait 10001000, []), (.recovery, [])] →
      let s := loading j x.1
      s.onLoss = x.2 ∧ s.lm.silence ≤ s.time + 4000 ∧ s.ss.atDark = true ∧ s.journalSafe = true
        ∧ (after (.silenceTimerExpiry 4000) s).ss.power = .dark
        ∧ (after (.silenceTimerExpiry 4000) s).jc.engine = .free
        ∧ (after (.silenceTimerExpiry 4000) s).onBus = []
        ∧ (after (.vhuBelowDark 5 59 0) s).ss.power = .dark)
    ∧ (let s := serving (crossed (running .heat) .rideThrough 0 3) (.read .U 3) 1 .transfer
       s.onLoss = [] ∧ (after (.silenceTimerExpiry 4000) s).ss.power = .holdUp
         ∧ (after (.silenceTimerExpiry 4000) s).onBus = (Job.read .U 3).transfer) := by decide +kernel

/-- A plan yet to be applied. -/
def pending (kind : PlanKind) (dest : Phase) (target : Target) : PlanRecord :=
  stayPlan kind dest target Figures.absent 0

/-- The part in WAKE/ARM with a plan for pocket U. -/
def arming (pl : PlanRecord) : State :=
  { powered (.wake .arm) (running .recovering) with
    ss := { (running .recovering).ss with power := .wake .arm, armTimer := some 10000000, vhu := 119 }
    rp := ⟨some pl, none⟩ }

/-- ArmEndsInRunWithPlansApplied: VHU at the arm threshold, one below it at the timer's expiry, and a plan
of each kind. -/
theorem test_meets_arm :
    ∀ pl, pl ∈ [pending .resumeHeat .startWait .heat, pending .resumeCool .startWait .cool,
        pending .holdHeat .held .heat, pending .stayHeld .held .heat, pending .stayPaused .paused .cool,
        pending .skipToAntiCrease .acRest .antiCrease, pending .resumeAntiCrease .acRest .antiCrease,
        pending .skipToAntiCrease .faultHold .cool, pending .finish .done .cool,
        pending .stayFault .faultHold .heat, pending .stayDone .done .heat,
        pending .stayIdle .idle .heat] →
      let s := arming pl
      s.ss.power = .wake .arm ∧ s.cfg.armCode ≤ (120 : Byte).toNat ∧ s.rp.get .U = some pl
        ∧ pl.applied = false ∧ s.jc.queue = [] ∧ s.ss.armTimer = some 10000000
        ∧ 10000000 ≤ s.time + 0 ∧ s.ss.vhu.toNat < s.cfg.armCode := by decide +kernel

/-- TheBackupDomainKeepsTimeAndDoors: a watch that has settled for exactly 50 ms, one with a candidate as
old, and DARK. -/
theorem test_meets_backup :
    (State.reset.bd.valid = true ∧ (State.reset.bd.watch.get .U).settling = some 0
      ∧ 0 + 50000 ≤ State.reset.time + 50000)
    ∧ (let s := { running .heat with bd := { (running .heat).bd with
         watch := Pair.both ⟨true, 14, true, some 9950000, none⟩ } }
       s.bd.valid = true ∧ (s.bd.watch.get .U).settling = none
         ∧ (s.bd.watch.get .U).cand = some 9950000 ∧ 9950000 + 50000 ≤ s.time + 0)
    ∧ (powered .dark (running .heat)).ss.power = .dark := by decide +kernel

/-- RawContactChangesMakeCandidates and TachPulsesAreCounted: a settled and a settling input, a settled
door watch, in RUN and in DARK and RESET; a rise of TACH; a pulse as old as its filter time, in SPINUP and
in HEAT; one a microsecond short, one already accepted, and none. -/
theorem test_meets_pins :
    (let s := { running .heat with bd := { (running .heat).bd with
       watch := Pair.both ⟨false, 0, true, none, none⟩ } }
     s.ss.power.working = true ∧ (s.pins.contacts.get .U).level .door ≠ false
       ∧ ((s.sense .U).contact .door).settling = none ∧ s.bd.valid = true
       ∧ (s.bd.watch.get .U).settling = none ∧ s.pins.tach.get .U ≠ true)
    ∧ (State.reset.ss.power.working = true ∧ (State.reset.pins.contacts.get .U).level .airflow ≠ true
      ∧ ((State.reset.sense .U).contact .airflow).settling ≠ none)
    ∧ (∀ ph, ph ∈ [Phase.heat, .spinup] →
       let s := inU (running ph) fun k => { k with tachPulse := some ⟨9998000, false⟩ }
       s.ss.power.working = true ∧ (s.sense .U).tachPulse = some ⟨9998000, false⟩
         ∧ 9998000 + s.cfg.tachFilter .U * 1000 ≤ s.time + 0 ∧ s.slotServed)
    ∧ (∀ pw, pw ∈ [Power.dark, .reset] → let s := powered pw (running .heat)
       s.ss.power.working = false ∧ s.bd.valid = true ∧ s.pins.tach.get .U ≠ true
         ∧ (s.pins.contacts.get .U).level .door ≠ false)
    ∧ ((inU (running .heat) fun k => { k with tachPulse := some ⟨9998000, true⟩ }).sense .U).tachPulse
        = some ⟨9998000, true⟩
    ∧ (running .heat).time + 0 < 9998001 + (running .heat).cfg.tachFilter .U * 1000
    ∧ ((running .heat).sense .U).tachPulse = none := by decide +kernel

/-- The comparisons are made afresh when a threshold moves: the wake threshold raised past VHU and up to it,
the write floor lowered to it and to one above it; a later fall and a later rise are then seen (R98, R103,
R107). -/
theorem test_thresholds_move :
    (let s := { running .idle with ss := { (running .idle).ss with vhu := 120, atWake := true } }
     (after (.configWrite 5 9 1 5 200) s).ss.atWake = false
       ∧ (after (.configWrite 5 9 1 5 120) s).ss.atWake = true)
    ∧ (let s := { running .idle with ss := { (running .idle).ss with vhu := 70, atFloor := false } }
       (after (.configWrite 5 9 1 7 70) s).ss.atFloor = true
         ∧ (after (.configWrite 5 9 1 7 71) s).ss.atFloor = false
         ∧ (after (.vhuBelowWriteFloor 5 69) (after (.configWrite 5 9 1 7 70)
             { s with psq := (running .heat).psq })).ss.power = .holdUp)
    ∧ (let s := { running .idle with ss := { (running .idle).ss with vhu := 120, atWake := true } }
       (after (.vhuReachesWake 5 200) (after (.rstRelease 5) (after (.rstAssert 5 0)
         (after (.configWrite 5 9 1 5 200) s)))).ss.power = .wake .qualify) := by decide +kernel

/-- In RUN with VHU never at the write floor, a fall below dark is noted and is no second fall in RESET
(R98). -/
theorem test_fall_is_noted :
    let s := { running .idle with ss := { (running .idle).ss with vhu := 75, atFloor := false } }
    let t := after (.vhuBelowDark 5 50 0) s
    t.ss.power = .run ∧ t.ss.atDark = false
      ∧ (after (.vhuBelowDark 5 45 0) (after (.rstAssert 5 0) t)).ss.power = .reset
      ∧ (after (.vhuBelowDark 5 59 0) (after (.rstAssert 5 0) s)).ss.power = .dark := by decide +kernel

/-- ContactsFilterAndSettle, DoorOpeningsPause and InterlockFailuresInterruptHeat: a candidate exactly as
old as its filter time, on each input, in RUN and in WAKE, and an input that has settled. -/
theorem test_meets_contacts :
    (let s := inU (running .heat) fun k =>
       { k with door := ⟨true, none, some 9950000⟩, airflow := ⟨true, none, some 9800000⟩
                hilimit := ⟨true, none, some 9990000⟩ }
     s.ss.power = .run ∧ (s.pocket .U).phase = .heat
       ∧ ∀ x, x ∈ [(ContactInput.door, 9950000), (.airflow, 9800000), (.hilimit, 9990000)] →
         ((s.sense .U).contact x.1).settling = none ∧ ((s.sense .U).contact x.1).cand = some x.2
           ∧ ((s.sense .U).contact x.1).level = true ∧ x.2 + s.cfg.filter .U x.1 * 1000 ≤ s.time + 0)
    ∧ (running .heat).ml.events.length < 16 ∧ (running .heat).cfg.classMask = 0
    ∧ ((State.reset.sense .U).door.settling = some 0 ∧ State.reset.ss.power ≠ .run
      ∧ 0 + State.reset.cfg.filter .U .door * 1000 ≤ State.reset.time + 50000)
    ∧ (let s := inU (running .heat) fun k => { k with door := ⟨true, some 9950000, none⟩ }
       (s.sense .U).door.settling = some 9950000 ∧ s.slotServed ∧ (s.pocket .U).phase ≠ .startWait
         ∧ (s.pocket .U).phase ≠ .heatWait)
    ∧ ((running .heat).pocket .U).run.trips < 2
    ∧ ((runU (running .heat) fun r => { r with trips := 2 }).pocket .U).run.trips = 2
    ∧ (let s := inU (running .heat) fun k => { k with heatFb := ⟨false, none, some 9950000⟩ }
       s.slotServed ∧ (s.sense .U).heatFb.cand = some 9950000 ∧ (s.pocket .U).phase ≠ .ignition
         ∧ 9950000 + s.cfg.filter .U .heatFb * 1000 ≤ s.time + 0)
    ∧ (List.replicate 15 (0 : Nat)).length < 16 := by decide +kernel

/-- InterlockFailuresInterruptHeat: the LOW half-cycle that makes LOW_LINE and the GOOD one that ends it; an
input that fails and one that is proven again, in every phase named, with the rest of the set holding and
failing. -/
theorem test_meets_interlock :
    (let s := crossed (running .ignition) .normal 7 0
     s.ss.power = .run ∧ s.lm.lastCrossing = some 10000000 ∧ s.lm.missed = false
       ∧ 7000 ≤ s.time + 7000 - 10000000 ∧ s.time + 11500 - 10000000 ≤ 11500
       ∧ max s.lm.peak.toNat (159 : Byte).toNat < s.cfg.lowThreshold
       ∧ s.cfg.nLow ≤ min 255 (s.lm.lowCount + 1))
    ∧ (let s := { crossed (running .heatWait) .lowLine 0 0 with
         lm := { (crossed (running .heatWait) .lowLine 0 0).lm with goodRun := 19 } }
       s.lm.line = .lowLine ∧ s.cfg.nRec ≤ min 400 (s.lm.goodRun + 1)
         ∧ s.cfg.lowThreshold ≤ max s.lm.peak.toNat (160 : Byte).toNat
         ∧ (s.pocket .U).phase = .heatWait ∧ (s.pocket .U).faults.sensor = false
         ∧ (s.sense .U).airflow.level = true ∧ (s.sense .U).hilimit.level = true)
    ∧ (∀ ph, ph ∈ [Phase.purge, .heatWait, .spinup, .ignition, .heat] → ∀ was, was ∈ [true, false] →
       let s := inU (running ph) fun k =>
         { k with airflow := ⟨was, none, some 9800000⟩, hilimit := ⟨was, none, some 9990000⟩ }
       s.ss.power = .run ∧ s.slotServed ∧ (s.pocket .U).phase = ph ∧ s.lm.line = .normal
         ∧ (s.sense .U).airflow.cand = some 9800000 ∧ (s.sense .U).hilimit.cand = some 9990000
         ∧ 9800000 + s.cfg.filter .U .airflow * 1000 ≤ s.time + 0
         ∧ 9990000 + s.cfg.filter .U .hilimit * 1000 ≤ s.time + 0)
    ∧ ((running .heatWait).sense .U).airflow.level = true
    ∧ ((running .heatWait).sense .U).hilimit.level = true
    ∧ (crossed (running .heatWait) .lowLine 0 0).lm.line ≠ .normal
    ∧ ((onU (running .spinup) fun k => { k with proven := true }).pocket .U).proven = true
    ∧ ((running .spinup).pocket .U).proven = false := by decide +kernel

/-- PulsesProveAndEndMotion: an unproven SPINUP with AIRFLOW and without, and a burst before its first
pulse, at its last and before it. -/
theorem test_meets_pulses :
    (let s := onU (inU (running .spinup) fun k => { k with tachPulse := some ⟨9998000, false⟩ })
       fun k => { k with motorRun := true }
     s.ss.power = .run ∧ s.slotServed ∧ (s.pocket .U).phase = .spinup ∧ (s.pocket .U).motorRun = true
       ∧ (s.pocket .U).proven = false ∧ (s.sense .U).airflow.level = true
       ∧ (s.pocket .U).run.target = .heat ∧ (s.pocket .U).faults.sensor = false
       ∧ s.interlock .U = true)
    ∧ ((cooled .spinup 80 .done 0).pocket .U).run.target ≠ .heat
    ∧ ((inU (running .spinup) fun k => { k with airflow := ⟨false, none, none⟩ }).sense .U).airflow.level
        = false
    ∧ ((running .acBurst).pocket .U).firstPulse = false
    ∧ (let s := onU (running .acBurst) fun k =>
         { k with firstPulse := true, run := { k.run with burst := 1 } }
       (s.pocket .U).firstPulse = true ∧ s.cfg.ppr .U ≤ (s.sense .U).residue + 1
         ∧ (s.pocket .U).run.burst ≤ ((s.sense .U).revs + 1).toNat)
    ∧ (let s := onU (running .acBurst) fun k =>
         { k with firstPulse := true, run := { k.run with burst := 2 } }
       ((s.sense .U).revs + 1).toNat < (s.pocket .U).run.burst) := by decide +kernel

/-- DrumStallsLockThePocketOut: each timer at its instant, and the window's expiry with the motor running
and proven, stopped, and before proof. -/
theorem test_meets_stalls :
    (let s := timersU (onU (running .spinup) fun k => { k with motorRun := true, proven := true })
       fun x => { x with startProof := some 10000000, burstProof := some 10000000 }
     s.ss.power = .run ∧ (s.pocket .U).timers.startProof = some 10000000
       ∧ (s.pocket .U).timers.burstProof = some 10000000 ∧ 10000000 ≤ s.time + 0
       ∧ (s.sense .U).lastPulse = some 9000000
       ∧ 9000000 + s.cfg.turningWindow .U * 100000 ≤ s.time + 500000
       ∧ (s.pocket .U).motorRun = true ∧ (s.pocket .U).proven = true)
    ∧ ((running .heat).pocket .U).motorRun = false
    ∧ ((running .spinup).pocket .U).proven = false ∧ ((running .acBurst).pocket .U).firstPulse = false := by
  decide +kernel

/-- ConversionsFilterTheTemperature and TempHighTripsByItsAction: a conversion at its instant, the first
good code and the last, SENSOR clear and set, the guard's mark clear and set, and each action. -/
theorem test_meets_conversions :
    (let s := running .heat
     s.ss.power = .run ∧ s.ss.power.working = true ∧ (s.sense .U).nextConversion ≤ s.time + 0
       ∧ 8 ≤ (8 : BitVec 10).toNat ∧ (1015 : BitVec 10).toNat ≤ 1015 ∧ (7 : BitVec 10).toNat ≤ 7
       ∧ 1016 ≤ (1016 : BitVec 10).toNat ∧ (s.pocket .U).faults.sensor = false
       ∧ (s.pocket .U).phase = .heat ∧ (s.pocket .U).tempHighTripped = false
       ∧ s.cfg.guardAction .U .tempHigh = .endHeat)
    ∧ ((running .heat).cfg.setField 2 15 0).guardAction .U .tempHigh = .report
    ∧ ((running .heat).cfg.setField 2 15 2).guardAction .U .tempHigh = .hold
    ∧ ((running .heat).cfg.tempHighLimit .U ≤ 400 ∧ (-40 : Int) < (running .heat).cfg.tempHighLimit .U)
    ∧ State.reset.ss.power ≠ .run ∧ (State.reset.sense .U).nextConversion ≤ State.reset.time + 250000 := by
  decide +kernel

/-- ConversionsFilterTheTemperature: the default table meets the premises; one code below c_0, at each end of
an interval, and one above c_8 (R38). -/
theorem test_meets_table :
    Config.defaults.breakCodes.length = 9 ∧ Config.defaults.breakCodes.Pairwise (· < ·)
    ∧ (39 : Int) < Config.defaults.breakCodes.getD 0 0 ∧ Config.defaults.breakCodes.getD 8 0 < 981
    ∧ [39, 40, 119, 120, 879, 880, 979, 980, 981].map
        (convert Config.defaults.breakCodes Config.defaults.breakTemps)
      = [400, 400, 302, 300, 1, 0, -39, -40, -40]
    ∧ convert Config.defaults.breakCodes (List.replicate 9 500) 100 = 400 := by decide +kernel

/-- The pocket timer of pocket U expires now, in a phase. -/
def ticking (ph : Phase) : State := timersU (running ph) fun x => { x with second := some 10000000 }

/-- PocketSecondsAccrueCredit: credit that reaches T and credit that does not, h at the limit's second,
and each action. -/
theorem test_meets_heat_seconds :
    (let s := ticking .heat
     s.ss.power = .run ∧ (s.pocket .U).phase = .heat
       ∧ (s.pocket .U).timers.second = some 10000000 ∧ 10000000 ≤ s.time + 0
       ∧ (s.pocket .U).run.d ≠ (s.pocket .U).run.t
       ∧ min 65535 ((s.pocket .U).run.h + 1) < s.cfg.runLongLimit .U ∧ s.heatPermit .U = true)
    ∧ (let s := runU (ticking .heat) fun r => { r with d := 236 }
       min (s.pocket .U).run.t ((s.pocket .U).run.d + 4) = (s.pocket .U).run.t)
    ∧ (let s := runU (ticking .heat) fun r => { r with h := 14399, coolTarget := 2 }
       s.cfg.runLongLimit .U ≤ min 65535 ((s.pocket .U).run.h + 1)
         ∧ (s.pocket .U).runLongTripped = false ∧ s.cfg.guardAction .U .runLong = .report
         ∧ 1 < (s.pocket .U).run.coolTarget ∧ 1 < (s.pocket .U).run.copies.cmax)
    ∧ ((running .heat).cfg.setField 2 17 1).guardAction .U .runLong = .endHeat
    ∧ ((running .heat).cfg.setField 2 17 2).guardAction .U .runLong = .hold := by decide +kernel

/-- PocketSecondsEndCooling: a second short of C; C reached with θ at θX; Cmax reached; each exit. -/
theorem test_meets_cool_seconds :
    (let s := runU (ticking .cool) fun r => { r with c := 298, coolTarget := 300, thetaX := 100 }
     s.ss.power = .run ∧ (s.pocket .U).phase = .cool ∧ (s.pocket .U).timers.second = some 10000000
       ∧ min 65535 ((s.pocket .U).run.c + 1) < (s.pocket .U).run.coolTarget
       ∧ min 65535 ((s.pocket .U).run.c + 1) < (s.pocket .U).run.copies.cmax)
    ∧ (∀ e, e ∈ [CoolExit.done, .faultHold, .antiCrease] →
       let s := runU (ticking .cool) fun r =>
         { r with c := 299, coolTarget := 300, thetaX := 100, coolExit := e, window := 1 }
       (s.pocket .U).run.coolTarget ≤ min 65535 ((s.pocket .U).run.c + 1)
         ∧ (s.sense .U).theta = some 100 ∧ 100 ≤ (s.pocket .U).run.thetaX
         ∧ (s.pocket .U).run.coolExit = e ∧ 0 < (s.pocket .U).run.window)
    ∧ (let s := runU (ticking .cool) fun r => { r with c := 1199 }
       (s.pocket .U).run.copies.cmax ≤ min 65535 ((s.pocket .U).run.c + 1)) := by decide +kernel

/-- WindowsAndCheckpointsAreTimed: a window reached to the second, one a second short, an epoch that has
gone, and the periodic timer at its instant. -/
theorem test_meets_windows :
    (∀ ph, ph ∈ [Phase.acRest, .acBurst] →
      let s := runU (ticking ph) fun r => { r with acStart := ⟨0, 7⟩, window := 1000 }
      s.ss.power = .run ∧ s.slotServed ∧ (s.pocket .U).phase = ph
        ∧ (s.pocket .U).run.window ≤ s.bd.clock - (s.pocket .U).run.acStart.clock)
    ∧ (let s := runU (ticking .acRest) fun r => { r with acStart := ⟨0, 7⟩, window := 1001 }
       ¬ ((s.pocket .U).run.acStart.epoch ≠ s.bd.epoch
         ∨ (s.pocket .U).run.window ≤ s.bd.clock - (s.pocket .U).run.acStart.clock))
    ∧ (runU (ticking .acRest) fun r => { r with acStart := ⟨0, 6⟩ }).bd.epoch ≠ 6
    ∧ (let s := ticking .heatWait
       s.ss.power = .run ∧ s.slotServed ∧ (s.pocket .U).timers.second = some 10000000
         ∧ (s.pocket .U).phase ∈ [.startWait, .spinup, .purge, .ignition, .heatWait])
    ∧ (let s := timersU (running .heat) fun x => { x with periodic := some 10000000 }
       (s.pocket .U).timers.periodic = some 10000000 ∧ 10000000 ≤ s.time + 0) := by decide +kernel

/-- BlockedVentsSendToCool and PurgeAndTrialsLeadOn: each timer at its instant, both targets, the
interlock holding and failing, SENSOR, a try left and none. -/
theorem test_meets_heat_timers :
    (let s := timersU (running .spinup) fun x => { x with airflowGrace := some 10000000 }
     s.ss.power = .run ∧ (s.pocket .U).timers.airflowGrace = some 10000000 ∧ (s.pocket .U).phase = .spinup
       ∧ (s.pocket .U).run.target = .heat)
    ∧ ((cooled .spinup 80 .done 0).pocket .U).run.target = .cool
    ∧ (∀ ph, ph ∈ [Phase.purge, .heatWait] →
       let s := timersU (running ph) fun x =>
         { x with heatGrace := some 10000000, purge := some 10000000 }
       (s.pocket .U).timers.heatGrace = some 10000000 ∧ (s.pocket .U).phase = ph
         ∧ (s.pocket .U).timers.purge = some 10000000 ∧ (s.pocket .U).faults.sensor = false
         ∧ s.interlock .U = true ∧ s.ssa.slot = none ∧ s.ssa.queue = []
         ∧ (s.pocket .U).run.copies.heatKind = .gas)
    ∧ (inU (running .purge) fun k => { k with hilimit := ⟨false, none, none⟩ }).interlock .U = false
    ∧ (∀ n, n ∈ [(1 : Nat), 2] →
       let s := runU (timersU (running .ignition) fun x => { x with trial := some 10000000 })
         fun r => { r with tries := n }
       (s.pocket .U).phase = .ignition ∧ (s.pocket .U).timers.trial = some 10000000
         ∧ (s.pocket .U).run.tries < 3 ∧ (n = 1 → n + 1 < (s.pocket .U).run.copies.tries)
         ∧ (n = 2 → (s.pocket .U).run.copies.tries ≤ n + 1)) := by decide +kernel

/-- HeatIsEstablished: a gas pocket under trial whose flame proves now, and the end of an electric hold, with
nothing waiting and with two requests of pocket L. -/
theorem test_meets_flame :
    (let s := timersU (inU (held (running .ignition) .U .heatStart none [])
         fun k => { k with heatFb := ⟨false, none, some 9950000⟩ })
       fun x => { x with trial := some 19000000 }
     s.ss.power = .run ∧ (s.pocket .U).phase = .ignition
       ∧ s.ssa.queue.filter (fun r => r ≠ ⟨.U, .heatStart⟩) = [] ∧ s.ssa.queue.Nodup
       ∧ s.ssa.slot = some ⟨⟨.U, .heatStart⟩, 9000000, none⟩
       ∧ (s.pocket .U).run.copies.heatKind = .gas ∧ (s.pocket .U).timers.trial.isSome = true
       ∧ (s.sense .U).heatFb.settling = none ∧ (s.sense .U).heatFb.level = false
       ∧ (s.sense .U).heatFb.cand = some 9950000
       ∧ 9950000 + s.cfg.filter .U .heatFb * 1000 ≤ s.time + 0)
    ∧ (let s := runU (held (running .ignition) .U .heatStart (some 10000000) [])
         fun r => { r with copies := { r.copies with heatKind := .electric } }
       s.ssa.slot = some ⟨⟨.U, .heatStart⟩, 9000000, some 10000000⟩ ∧ 10000000 ≤ s.time + 0
         ∧ (s.pocket .U).run.copies.heatKind = .electric)
    ∧ (let s := (held (running .ignition) .U .heatStart (some 10000000)
         [⟨.L, .motorStart⟩, ⟨.L, .heatStart⟩]).setPocket .L ((running .spinup).pocket .L)
       s.ssa.queue.filter (fun r => r ≠ ⟨.U, .heatStart⟩) = [⟨.L, .motorStart⟩, ⟨.L, .heatStart⟩]
         ∧ s.ssa.queue.Nodup ∧ (s.pocket .L).phase = .spinup) ∧ (running .ignition).ml.events.length < 15 := by
  decide +kernel

/-- StartsShareTheSlot: a hold that ends now with the queue empty and with one of each request waiting; a
rest that ends with the door closed, the slot held, with and without its own request waiting, and free, and
with the door open; a purge that ends behind a held slot, with and without its own request waiting. -/
theorem test_meets_starts :
    (∀ q, q ∈ [[], [StartRequest.mk .L .motorStart], [⟨.L, .heatStart⟩]] →
      let s := held (running .spinup) .U .motorStart (some 10000000) q
      s.ss.power = .run ∧ s.ssa.slot = some ⟨⟨.U, .motorStart⟩, 9000000, some 10000000⟩
        ∧ 10000000 ≤ s.time + 0 ∧ s.ssa.queue.Nodup ∧ s.ssa.queue = q
        ∧ (s.pocket .L).phase = .spinup)
    ∧ ((running .acRest).pocket .L).phase = .acRest
    ∧ (let s := timersU (held (running .acRest) .L .heatStart none []) fun x =>
         { x with rest := some 10000000 }
       s.ss.power = .run ∧ (s.pocket .U).phase = .acRest ∧ (s.pocket .U).timers.rest = some 10000000
         ∧ (s.sense .U).door.level = true ∧ s.ssa.slot ≠ none ∧ ⟨.U, .motorStart⟩ ∉ s.ssa.queue)
    ∧ (⟨.U, .motorStart⟩ : StartRequest)
        ∈ (held (running .acRest) .L .heatStart none [⟨.U, .motorStart⟩]).ssa.queue
    ∧ (∀ q, q ∈ [[], [StartRequest.mk .U .heatStart]] →
       let s := timersU (held (running .purge) .L .heatStart none q) fun x =>
         { x with purge := some 10000000 }
       s.ss.power = .run ∧ (s.pocket .U).phase = .purge ∧ (s.pocket .U).timers.purge = some 10000000
         ∧ (s.pocket .U).faults.sensor = false ∧ s.interlock .U = true ∧ s.ssa.slot ≠ none)
    ∧ (running .acRest).ssa.slot = none ∧ (running .acRest).ssa.queue = []
    ∧ ((inU (running .acRest) fun k => { k with door := ⟨false, none, none⟩ }).sense .U).door.level
        = false := by decide +kernel

/-- A ring of pocket U in a condition. -/
def ringU (s : State) (c : RingCondition) : State :=
  { s with jc := { s.jc with rings := s.jc.rings.set .U ⟨none, 0, 1, c⟩ } }

/-- JournalRequestsStart: each request chosen, a writable, an exhausted and an unreadable ring, HOLD_UP at the
write floor with one request left and with none, and one code below it with the return mark clear and
set. -/
theorem test_meets_starts_of_writes :
    (∀ w, w ∈ [WriteKind.checkpoint .U .phase, .store, .read .U 123] →
      let s := queued (ringU (running .heat) .writable) w
      s.ss.power = .run ∧ s.jc.engine = .free ∧ chooseRequest s.jc.queue = some ⟨w, 5⟩
        ∧ (s.jc.rings.get .U).condition = .writable ∧ s.jc.queue = [⟨w, 5⟩])
    ∧ (∀ c, c ∈ [RingCondition.exhausted, .unreadable] →
       ((ringU (running .heat) c).jc.rings.get .U).condition = c)
    ∧ (let w : WriteRequest := ⟨.checkpoint .U .loss, 5⟩
       let s := holding 80 false { ringU (running .heat) .writable with
         jc := { (ringU (running .heat) .writable).jc with queue := [w, ⟨.checkpoint .L .loss, 5⟩] } }
       s.ss.power = .holdUp ∧ s.cfg.writeFloor ≤ s.ss.vhu.toNat ∧ chooseRequest s.jc.queue = some w
         ∧ s.jc.queue.erase w ≠ [] ∧ (s.jc.rings.get .U).condition = .writable
         ∧ s.ss.journalFault = none)
    ∧ [(⟨.checkpoint .U .loss, 5⟩ : WriteRequest)].erase ⟨.checkpoint .U .loss, 5⟩ = []
    ∧ (∀ mark, mark ∈ [true, false] →
       let s := queued { running .heat with ss := { (running .heat).ss with
         power := .holdUp, vhu := 79, returnMark := mark } } (.checkpoint .U .loss)
       s.ss.power = .holdUp ∧ s.jc.engine = .free ∧ s.jc.queue ≠ []
         ∧ s.ss.vhu.toNat < s.cfg.writeFloor ∧ s.ss.returnMark = mark
         ∧ s.ss.vhu.toNat < s.cfg.wakeCode) := by decide +kernel

/-- A store cut after one of its bytes marks the block, one cut before its first does not, and a completed
store clears the mark; a marked block loads as the defaults with CONFIG_DEFAULTED (R176, log 34). -/
theorem test_cut_store :
    (let s := serving (running .heat) (.store (List.replicate 4 0xA7)) 1 .transfer
     (after (.rstAssert 5 0) s).storeCut = false ∧ (after (.rstAssert 5 1) s).storeCut = true
       ∧ (after (.attemptNoAck 5 1) s).storeCut = true
       ∧ (after (.configStoreComplete 5) { s with storeCut := true }).storeCut = false)
    ∧ loadStored true [0xA7, 178] = (Config.defaults, true)
    ∧ loadStored true [0xFF, 178] = (Config.defaults, false) := by decide +kernel

/-- A NO_ACK ends with a stop condition and the wait drives nothing after it; a read abandoned at its first
address byte has had three acts (R123). -/
theorem test_abandoned :
    let s := serving (running .heat) (.read .U 0) 1 .transfer
    s.onNoAck = [.stop] ∧ (after (.attemptNoAck 5 0) s).onBus = [.stop]
      ∧ (Job.read .U 0).abandoned 3 = [.start, .addressWrite, .send 2, .stop] := by decide +kernel

/-- CompletionsStoreAndReply: HOLD_UP with each job in transfer, the last one and not, the mark clear, and
set with VHU one below the wake threshold and at it; a GOOD and a MISSING crossing and a silence in it. -/
theorem test_meets_hold_up :
    (∀ j, j ∈ [Job.checkpoint .L 123 4294967295 (List.replicate 64 1), .store (List.replicate 512 0),
        .read .U 0] →
      let s := serving (asked (holding 100 true (running .heat)) ⟨0x10, 1, none⟩) j 3 .transfer
      s.ss.power = .holdUp ∧ s.jc.engine = .busy j 3 .transfer ∧ s.journalSafe = true
        ∧ s.ml.orphan = false ∧ s.ml.outstanding = some ⟨0x10, 1, none⟩)
    ∧ (∀ x, x ∈ [((99 : Byte), true), (100, true), (100, false)] →
       let s := holding x.1 x.2 (crossed (running .heat) .lost 0 9)
       s.jc.queue = [] ∧ s.jc.engine = .free ∧ s.ss.returnMark = x.2
         ∧ (s.ss.vhu.toNat < s.cfg.wakeCode ∨ x.1 = 100)
         ∧ s.lm.lastCrossing = some 10000000 ∧ s.lm.missed = false ∧ 7000 ≤ s.time + 11500 - 10000000
         ∧ s.time + 11500 - 10000000 ≤ 11500 ∧ 11500 < s.time + 11501 - 10000000
         ∧ s.cfg.lowThreshold ≤ max s.lm.peak.toNat (160 : Byte).toNat
         ∧ s.lm.silence ≤ s.time + 4000)
    ∧ (queued (holding 100 true (running .heat)) (.checkpoint .U .loss)).jc.queue ≠ [] := by
  decide +kernel

/-- The third failure of a store and of a service read, with and without the orphan, in RUN and in HOLD_UP;
of the configuration read and of a slot read of each ring, below the arm threshold; and a store with all
but its last byte acknowledged, in each phase of its engine (FailedAttemptsAreRetriedTwice). -/
theorem test_meets_third_failures :
    (∀ j, j ∈ [Job.store (List.replicate 512 0), .read .U 0] → ∀ o, o ∈ [true, false] →
      ∀ pw, pw ∈ [Power.run, .holdUp] → ∀ ph, ph ∈ [EnginePhase.transfer, .recovery] →
      let s := serving (asked { powered pw (running .heat) with
        ml := { (running .heat).ml with orphan := o } } ⟨0x10, 1, none⟩) j 3 ph
      s.ss.power = pw ∧ s.ss.power.working = true ∧ s.journalSafe = true ∧ s.jc.engine = .busy j 3 ph
        ∧ s.ml.orphan = o
        ∧ s.ml.outstanding = some ⟨0x10, 1, none⟩ ∧ s.cfg.classMask = 0 ∧ s.ml.events.length < 16)
    ∧ 511 < (List.replicate 512 (0 : Byte)).length
    ∧ (∀ j, j ∈ [Job.configRead, .slotRead .U 7, .slotRead .L 123] →
      ∀ ph, ph ∈ [EnginePhase.transfer, .recovery] →
      let s := serving { powered (.wake .load) (running .recovering) with
        jc := { (running .recovering).jc with scan := some ⟨⟨⟨false, none⟩, ⟨false, none⟩⟩, []⟩ } } j 3 ph
      s.ss.power = .wake .load ∧ s.jc.scan = some ⟨⟨⟨false, none⟩, ⟨false, none⟩⟩, []⟩
        ∧ s.jc.engine = .busy j 3 ph ∧ s.ss.vhu.toNat < s.cfg.armCode)
    ∧ (∀ n, n ∈ [(1 : Nat), 2] → let s := serving (running .heat) (.read .U 0) n .transfer
       s.ss.power.working = true ∧ s.journalSafe = true ∧ n < 3 ∧ s.jc.engine = .busy (.read .U 0) n .transfer) := by
  decide +kernel

/-- CompletionsStoreAndReply and FailedAttemptsAreRetriedTwice: each job in transfer, with and without the
orphan; the third attempt; a wait that ends now; a recovery. -/
theorem test_meets_transfers :
    (let s := serving (running .heat) (.checkpoint .L 123 4294967295 (List.replicate 64 1)) 3 .transfer
     s.ss.power = .run ∧ s.journalSafe = true ∧ 63 < (List.replicate 64 (1 : Byte)).length
       ∧ s.jc.engine = .busy (.checkpoint .L 123 4294967295 (List.replicate 64 1)) 3 .transfer)
    ∧ (let s := serving (asked (running .heat) ⟨0x10, 1, none⟩) (.store (List.replicate 512 0)) 1 .transfer
       s.journalSafe = true ∧ s.ml.orphan = false ∧ s.ml.outstanding = some ⟨0x10, 1, none⟩)
    ∧ (serving (asked (running .heat) ⟨0x11, 1, none⟩) (.read .U 0) 1 .transfer).journalSafe = true
    ∧ (let s := { serving (running .heat) (.store []) 1 .transfer with
         ml := { (running .heat).ml with orphan := true } }
       s.ml.orphan = true ∧ s.journalSafe = true)
    ∧ (let s := serving (running .heat) (.checkpoint .L 0 1 [1]) 2 (.retryWait 10000000)
       s.journalSafe = true ∧ 10000000 ≤ s.time + 0)
    ∧ (serving (running .heat) (.checkpoint .L 0 1 [1]) 3 .recovery).journalSafe = true := by
  decide +kernel

/-- TheLoadSequenceEndsInArm: the configuration read, the reads of slot 122 and of slot 123 of each ring,
VHU below the arm threshold and at it, an epoch chosen and one to choose, from none, 65,534, 65,535, and 1
and 65,535, a record in HEAT, and a ring read and one that was not. -/
theorem test_meets_load :
    (∀ j, j ∈ [Job.configRead, .slotRead .U 123, .slotRead .L 122, .slotRead .L 123] →
      let s := serving { powered (.wake .load) (running .recovering) with
        jc := { (running .recovering).jc with scan := some ⟨⟨⟨false, none⟩, ⟨true, none⟩⟩, []⟩ } } j 1
        .transfer
      s.ss.power = .wake .load ∧ s.jc.scan = some ⟨⟨⟨false, none⟩, ⟨true, none⟩⟩, []⟩
        ∧ s.jc.engine = .busy j 1 .transfer ∧ s.ss.vhu.toNat < s.cfg.armCode ∧ s.bd.epoch ≠ 0)
    ∧ State.reset.bd.epoch = 0
    ∧ ((123 : Fin 124) = 123 ∧ (122 : Fin 124) ≠ 123)
    ∧ (∀ es, es ∈ [[], [65534], [65535], [1, 65535]] → let sc : Scan := ⟨⟨⟨false, none⟩, ⟨true, none⟩⟩, es⟩
       (sc.take .L 123 (Memory.readBytes [] (slotAddress .L 123) 64)).epochs = es)
    ∧ (running .recovering).cfg.armCode ≤ (120 : Byte).toNat
    ∧ (let r : CheckpointRecord :=
         ⟨.U, 1, .loss, .heat, worked, FaultSet.empty, 0, 7, false, false⟩
       readRecord .U r.encode = .ok { r with run := { worked with acStart := ⟨0, 7⟩ } }
         ∧ r.phase ≠ .idle ∧ r.phase ≠ .done) := by decide +kernel

/-- StoredDataReadsBack and PlanFiguresStayInBounds: the defaults, and a record at the bounds of its
sequence and epoch. -/
theorem test_meets_stored :
    copySafe Config.defaults = true
    ∧ (let r : CheckpointRecord :=
         ⟨.L, 4294967295, .loss, .heat, worked, FaultSet.empty, 0, 65535, true, false⟩
       r.run.inRange = true ∧ 1 ≤ r.seq ∧ r.seq < 4294967296 ∧ 1 ≤ r.epoch ∧ r.epoch < 65536
         ∧ r.clock < 4294967296 ∧ r.run.h < 65536 ∧ r.run.c < 65536 ∧ r.run.tref.clock < 4294967296
         ∧ r.run.acStart.clock < 4294967296) := by decide +kernel

/-- PlanFiguresStayInBounds: E at 0, at the end of a step, at 15 steps and unknown; a load above θA and at it;
a trusted θ below, in and above its span, and a distrusted one (R145, R146). -/
theorem test_meets_figures :
    [some 0, some 299, some 300, some 4499, some 4500, none].map
        (fun e => (figures Config.defaults worked e (some 60) false).f) = [256, 227, 226, 37, 36, 0]
    ∧ (figures Config.defaults { worked with thetaRef := 50 } (some 300) none true).thetaN = 50
    ∧ (figures Config.defaults { worked with thetaRef := 51 } (some 300) none true).thetaN = 50
    ∧ [49, 50, 137, 138].map (fun th => (figures Config.defaults worked none (some th) false).thetaN)
        = [50, 50, 137, 137]
    ∧ (figures Config.defaults worked none (some 100) true).thetaN = 50
    ∧ (figures Config.defaults { worked with thetaRef := 20 } none (some 100) true).thetaN = 20 := by
  decide +kernel

/-- PlanFiguresStayInBounds: a live record and one an hour too old, a load one code above θX and at it, and a
window with a second left and with none. -/
theorem test_meets_decisions :
    (let b : Backup := { State.reset.bd with clock := 1260, epoch := 7 }
     worked.tref.epoch = b.epoch ∧ b.epoch ≠ 0 ∧ ¬ Config.defaults.omax < b.clock - worked.tref.clock
       ∧ worked.autoResume = true ∧ Config.defaults.omax ≠ 0
       ∧ Config.defaults.omax < Config.defaults.omax + 1 - 0)
    ∧ (let th := (figures Config.defaults worked (some 1260) none true).thetaN
       th = 99 ∧ worked.thetaX < th ∧ th ≤ { worked with thetaX := 99 }.thetaX)
    ∧ ¬ (10800 : Nat) ≤ 10799 ∧ (10800 : Nat) ≤ 10800 := by decide +kernel

/-- EveryStepKeeps…: the states after reset and in RUN have each property, and a step leads on. -/
theorem test_meets_invariants :
    (∀ s, s ∈ [State.reset, { running .heat with pending := [.lineBreak 5] }] →
      s.journalSafe = true ∧ copySafe s.cfg = true ∧ s.creditSafe .U = true ∧ s.creditSafe .L = true
        ∧ s.outputsSafe = true ∧ s.eventsSafe = true ∧ s.queuesSafe = true)
    ∧ (after (.lineBreak 5) (running .heat)).ml.rx = .lineBreak := by decide +kernel

/-- EveryStepKeepsTheQueues: a store queued, in flight, orphaned by a break and answered BUSY beside its
orphan, and two requests of the link at once, which is no such state (R118, R162). -/
theorem test_meets_link_requests :
    let queuedStore := after (.configStore 5 9) (running .heat)
    let started := after (.configStoreStart 5) queuedStore
    let orphan := after (.configStore 5 9) (after (.lineBreakEnd 5) (after (.lineBreak 5) started))
    (∀ s, s ∈ [queuedStore, started, orphan] →
      s.jc.linkRequests = 1 ∧ s.eventsSafe = true ∧ s.queuesSafe = true)
    ∧ orphan.ml.orphan = true ∧ orphan.ml.tx.length = 1
    ∧ (after (.configStoreComplete 5) orphan).jc.linkRequests = 0
    ∧ (queued started (.read .U 0)).queuesSafe = false := by decide +kernel

end Sys2Proof.Tests
end

section
/-! What the acts of a pocket leave in it, and what a grant can touch: the layer under the proofs of the
requests and doors. -/

namespace Sys2Proof.Machine

/-! ### A pocket's own fields after a plain act -/

@[simp] theorem pocketOfByte_pocketByte (p : PocketId) : pocketOfByte (pocketByte p) = some p := by
  cases p <;> rfl

/-- A journal request changes nothing of its pocket but the periodic timer. -/
theorem State.pocket_postRequest_self (s : State) (p : PocketId) (k : RecordKind) :
    (s.postRequest p k).pocket p = { s.pocket p with timers :=
      if (s.pocket p).phase.running && k.restartsPeriodic then
        { (s.pocket p).timers with periodic := some (s.time + seconds s.cfg.period) }
      else (s.pocket p).timers } := by
  cases p <;> rfl

@[simp] theorem State.queue_postRequest (s : State) (p : PocketId) (k : RecordKind) :
    (s.postRequest p k).jc.queue = enqueue s.jc.queue p k s.time := rfl

@[simp] theorem State.queue_enterPhase (s : State) (p : PocketId) (ph : Phase) :
    (s.enterPhase p ph).jc.queue = enqueue s.jc.queue p .phase s.time := rfl

/-- A pocket after a change of phase with its PHASE request. -/
theorem State.pocket_enterPhase_self (s : State) (p : PocketId) (ph : Phase) :
    (s.enterPhase p ph).pocket p = { (s.pocket p).move ph s.time s.cfg.period with timers :=
      if ph.running then
        { ((s.pocket p).move ph s.time s.cfg.period).timers with
          periodic := some (s.time + seconds s.cfg.period) }
      else ((s.pocket p).move ph s.time s.cfg.period).timers } := by
  simp [State.enterPhase, State.pocket_postRequest_self, Pocket.move, RecordKind.restartsPeriodic]

@[simp] theorem State.phase_enterPhase (s : State) (p : PocketId) (ph : Phase) :
    ((s.enterPhase p ph).pocket p).phase = ph := by
  simp [State.pocket_enterPhase_self, Pocket.move]

@[simp] theorem State.run_enterPhase (s : State) (p : PocketId) (ph : Phase) :
    ((s.enterPhase p ph).pocket p).run = (s.pocket p).run := by
  simp [State.pocket_enterPhase_self, Pocket.move]

/-- R3: entry into a phase that drops the motor. -/
theorem State.motorRun_enterPhase_of_drops (s : State) (p : PocketId) {ph : Phase}
    (h : ph.dropsMotor = true) : ((s.enterPhase p ph).pocket p).motorRun = false := by
  simp [State.pocket_enterPhase_self, Pocket.move, h]

/-- R2: outside the running phases no timer of the pocket runs. -/
theorem State.timers_enterPhase_of_stopped (s : State) (p : PocketId) {ph : Phase}
    (h : ph.running = false) : ((s.enterPhase p ph).pocket p).timers = PocketTimers.stopped := by
  simp [State.pocket_enterPhase_self, Pocket.move, PocketTimers.move, PocketTimers.stopped, h]

/-- R18: outside the running phases the reference pair stays frozen. -/
theorem State.frozen_enterPhase_of_stopped (s : State) (p : PocketId) {ph : Phase}
    (h : ph.running = false) :
    ((s.enterPhase p ph).pocket p).frozen = (s.pocket p).frozen := by
  simp [State.pocket_enterPhase_self, Pocket.move, h]

@[simp] theorem State.run_endHeat (s : State) (p : PocketId) (c : HeatCause) (hold : Bool) :
    ((s.endHeat p c hold).pocket p).run = (s.pocket p).run.endHeat c hold := by
  unfold State.endHeat
  split <;> simp

/-- R14: the ending of heat leads from the heat phases into COOL, and from no other phase. -/
theorem State.phase_endHeat (s : State) (p : PocketId) (c : HeatCause) (hold : Bool) :
    ((s.endHeat p c hold).pocket p).phase
      = if (s.pocket p).phase.heating then .cool else (s.pocket p).phase := by
  unfold State.endHeat
  split <;> simp

/-! ### Start requests a pocket gives up -/

/-- The pocket has no request queued and does not hold the start slot. -/
structure Arbiter.Without (a : Arbiter) (p : PocketId) : Prop where
  queued : ∀ r ∈ a.queue, r.pocket ≠ p
  granted : ∀ g, a.slot = some g → g.request.pocket ≠ p

theorem Arbiter.Without.giveUp {a : Arbiter} {p : PocketId} (h : a.Without p)
    (queued granted : StartRequest → Bool) : (a.giveUp queued granted).Without p where
  queued r hr := h.queued r (List.mem_filter.mp hr).1
  granted g hg := by
    unfold Arbiter.giveUp at hg
    split at hg
    · cases hg
    · rename_i g' hslot
      simp only [Option.ite_none_left_eq_some, Option.some.injEq] at hg
      exact h.granted g (hslot.trans (congrArg some hg.2))

theorem Arbiter.Without.leave {a : Arbiter} {p : PocketId} (h : a.Without p) (q : PocketId)
    (old new : Phase) : (a.leave q old new).Without p :=
  h.giveUp _ _

/-- R3: entry into a phase that drops the motor gives up every start request of the pocket. -/
theorem Arbiter.without_leave (a : Arbiter) (p : PocketId) (old : Phase) {new : Phase}
    (h : new.dropsMotor = true) : (a.leave p old new).Without p where
  queued r hr := by
    have := (List.mem_filter.mp hr).2
    simpa [h] using this
  granted g hg := by
    unfold Arbiter.leave Arbiter.giveUp at hg
    split at hg
    · cases hg
    · simp only [Option.ite_none_left_eq_some, Option.some.injEq] at hg
      obtain ⟨hne, rfl⟩ := hg
      simpa [h] using hne

theorem State.without_enterPhase (s : State) (p : PocketId) {ph : Phase} (h : ph.dropsMotor = true) :
    (s.enterPhase p ph).ssa.Without p :=
  Arbiter.without_leave _ _ _ h

/-! ### What a grant can touch -/

/-- A grant changes the arbiter by what a burst gives up alone. -/
theorem State.without_takeGrant {s : State} {p : PocketId} (h : s.ssa.Without p) (r : StartRequest) :
    (s.takeGrant r).ssa.Without p := by
  unfold State.takeGrant
  dsimp only
  split
  · exact h
  · exact h.leave _ _ _
  · split <;> exact h
  · exact h

/-- The arbiter grants no pocket a request that it has not posted. -/
theorem State.without_arbitrate {s : State} {p : PocketId} (h : s.ssa.Without p) :
    s.arbitrate.ssa.Without p := by
  unfold State.arbitrate
  split
  · rename_i r rest _ _ hq
    refine State.without_takeGrant ⟨fun x hx => h.queued x ?_, fun g hg => ?_⟩ r
    · rw [hq]; exact List.mem_cons_of_mem _ hx
    · cases hg
      exact h.queued r (by rw [hq]; exact List.mem_cons_self)
  · exact h

theorem PocketId.eq_other_of_ne {p q : PocketId} (h : p ≠ q) : p = q.other := by
  cases p <;> cases q <;> simp_all [PocketId.other]

theorem State.takeGrant_pocket_of_ne (s : State) {r : StartRequest} {p : PocketId} (h : p ≠ r.pocket) :
    (s.takeGrant r).pocket p = s.pocket p := by
  rw [PocketId.eq_other_of_ne h]
  exact (ActsOn.refl r.pocket s).takeGrant.other

/-- Whichever pocket a grant goes to, it leaves one outside SPINUP, AC_REST and IGNITION as it was. -/
theorem State.takeGrant_pocket_of_phase (s : State) (r : StartRequest) (p : PocketId)
    (h : (s.pocket p).phase ∉ [.spinup, .acRest, .ignition]) :
    (s.takeGrant r).pocket p = s.pocket p := by
  by_cases hp : p = r.pocket
  · subst hp
    unfold State.takeGrant
    dsimp only
    split <;> simp_all
  · exact s.takeGrant_pocket_of_ne hp

theorem State.arbitrate_pocket_of_phase (s : State) (p : PocketId)
    (h : (s.pocket p).phase ∉ [.spinup, .acRest, .ignition]) :
    s.arbitrate.pocket p = s.pocket p := by
  unfold State.arbitrate
  split
  · exact State.takeGrant_pocket_of_phase _ _ p h
  · rfl

/-- R44: only a burst, which starts in AC_REST, changes the direction of the last burst. -/
theorem State.takeGrant_lastBurstReverse (s : State) (r : StartRequest) (p : PocketId)
    (h : (s.pocket p).phase ≠ .acRest) :
    ((s.takeGrant r).pocket p).lastBurstReverse = (s.pocket p).lastBurstReverse := by
  by_cases hp : p = r.pocket
  · subst hp
    unfold State.takeGrant
    dsimp only
    split
    · simp
    · exact absurd ‹_› h
    · split <;> simp
    · rfl
  · rw [s.takeGrant_pocket_of_ne hp]

theorem State.arbitrate_lastBurstReverse (s : State) (p : PocketId) (h : (s.pocket p).phase ≠ .acRest) :
    (s.arbitrate.pocket p).lastBurstReverse = (s.pocket p).lastBurstReverse := by
  unfold State.arbitrate
  split
  · exact State.takeGrant_lastBurstReverse _ _ p h
  · rfl

@[simp] theorem State.time_arbitrate (s : State) : s.arbitrate.time = s.time := by
  obtain ⟨_, h⟩ := s.arbitrate_acts
  exact h.time

@[simp] theorem State.queue_arbitrate (s : State) : s.arbitrate.jc.queue = s.jc.queue := by
  obtain ⟨_, _, _, _, _, hqueue, _, _⟩ := arbitrate_keeps s .U
  exact hqueue

/-! ### A request taken in RUN -/

theorem State.serving.inRun_asked {s : State} (h : s.serving) (dt : Nat) (kind tag : Byte) :
    (s.asked dt kind tag).inRun = true := by
  simp [State.inRun, State.asked, h.1]

end Sys2Proof.Machine
end

section
/-! A door opening taken in RUN (R23, R60). -/

namespace Sys2Proof.Machine

/-! ### The reference pair (R18) -/

theorem State.takeReference_of_invalid {s : State} {p : PocketId} (h : (s.sense p).theta = none) :
    s.takeReference p = s := by
  simp [State.takeReference, h]

theorem State.takeReference_of_sensor {s : State} {p : PocketId}
    (h : (s.pocket p).faults.sensor = true) : s.takeReference p = s := by
  unfold State.takeReference
  dsimp only
  split
  · rfl
  · rw [if_pos h]

theorem State.takeReference_of_valid {s : State} {p : PocketId} {th : Int}
    (h : (s.sense p).theta = some th) (hf : (s.pocket p).faults.sensor = false) :
    s.takeReference p
      = s.setRun p { (s.pocket p).run with thetaRef := th, tref := ⟨s.bd.clock, s.bd.epoch⟩ } := by
  simp [State.takeReference, h, hf, Backup.stamp]

@[simp] theorem State.time_takeReference (s : State) (p : PocketId) :
    (s.takeReference p).time = s.time := (ActsOn.refl p s).takeReference.time

@[simp] theorem State.jc_takeReference (s : State) (p : PocketId) :
    (s.takeReference p).jc = s.jc := by
  unfold State.takeReference
  dsimp only
  split
  · rfl
  · split <;> rfl

/-! ### The pause (R23) -/

@[simp] theorem State.run_pauseDoor (s : State) (p : PocketId) :
    ((s.pauseDoor p).pocket p).run = ((s.takeReference p).pocket p).run := by
  simp [State.pauseDoor]

@[simp] theorem State.phase_pauseDoor (s : State) (p : PocketId) :
    ((s.pauseDoor p).pocket p).phase = .paused :=
  State.phase_enterPhase _ _ _

@[simp] theorem State.queue_pauseDoor (s : State) (p : PocketId) :
    (s.pauseDoor p).jc.queue = enqueue s.jc.queue p .phase s.time := by
  simp [State.pauseDoor]

@[simp] theorem State.time_pauseDoor (s : State) (p : PocketId) : (s.pauseDoor p).time = s.time :=
  (ActsOn.refl p s).pauseDoor.time

@[simp] theorem State.motorRun_pauseDoor (s : State) (p : PocketId) :
    ((s.pauseDoor p).pocket p).motorRun = false :=
  State.motorRun_enterPhase_of_drops _ _ rfl

@[simp] theorem State.timers_pauseDoor (s : State) (p : PocketId) :
    ((s.pauseDoor p).pocket p).timers = PocketTimers.stopped :=
  State.timers_enterPhase_of_stopped _ _ rfl

@[simp] theorem State.frozen_pauseDoor (s : State) (p : PocketId) :
    ((s.pauseDoor p).pocket p).frozen = true := by
  rw [State.pauseDoor, State.frozen_enterPhase_of_stopped _ _ rfl, State.pocket_setPocket_self]

theorem State.without_pauseDoor (s : State) (p : PocketId) : (s.pauseDoor p).ssa.Without p :=
  State.without_enterPhase _ _ rfl

theorem State.doorOpened_of_pausable {s : State} {p : PocketId}
    (h : (s.pocket p).phase.pausable = true) : s.doorOpened p = s.pauseDoor p := by
  simp [State.doorOpened, h]

/-- R60: a door opening after the cycle's motion leads to IDLE. -/
theorem State.doorOpened_of_over {s : State} {p : PocketId}
    (h : (s.pocket p).phase ∈ [.acRest, .acBurst, .done]) : s.doorOpened p = s.enterPhase p .idle := by
  simp only [List.mem_cons, List.not_mem_nil, or_false] at h
  rcases h with h | h | h <;> simp [State.doorOpened, h, Phase.pausable]

theorem State.doorOpened_of_waiting {s : State} {p : PocketId}
    (h : (s.pocket p).phase ∈ [.startWait, .held, .faultHold, .idle, .paused]) :
    s.doorOpened p = s := by
  simp only [List.mem_cons, List.not_mem_nil, or_false] at h
  rcases h with h | h | h | h | h <;> simp [State.doorOpened, h, Phase.pausable]

/-! ### The command -/

/-- The state in which a pocket takes its door opening: the filtered level is open and INPUT_CHANGED is
posted (R32, R34). -/
def State.atDoorOpening (s : State) (dt : Nat) (p : PocketId) : State :=
  ((s.advance dt).setSense p { s.sense p with door := ⟨false, none, none⟩ }).postInput p .door false

@[simp] theorem State.pocket_atDoorOpening (s : State) (dt : Nat) (p q : PocketId) :
    (s.atDoorOpening dt p).pocket q = s.pocket q := rfl

@[simp] theorem State.bd_atDoorOpening (s : State) (dt : Nat) (p : PocketId) :
    (s.atDoorOpening dt p).bd = s.bd := rfl

@[simp] theorem State.jc_atDoorOpening (s : State) (dt : Nat) (p : PocketId) :
    (s.atDoorOpening dt p).jc = s.jc := rfl

@[simp] theorem State.theta_atDoorOpening (s : State) (dt : Nat) (p : PocketId) :
    ((s.atDoorOpening dt p).sense p).theta = (s.sense p).theta := by
  cases p <;> rfl

/-- R32, R34: the expiry of the filter of a closed door in RUN is the door opening. -/
theorem exec_doorOpening {s : State} {dt since : Nat} {p : PocketId} (hrun : s.ss.power = .run)
    (hsettled : (s.sense p).door.settling = none) (hcand : (s.sense p).door.cand = some since)
    (hclosed : (s.sense p).door.level = true)
    (hdue : since + s.cfg.filter p .door * 1000 ≤ s.time + dt) :
    exec (.contactFilterExpiry dt p .door) s
      = .next ((s.atDoorOpening dt p).doorOpened p).arbitrate := by
  simp [exec, execContactFilterExpiry, State.atDoorOpening, Sensing.contact, Sensing.setContact,
    State.inputChanged, State.inRun, Power.working, due, millis, hrun, hsettled, hcand, hclosed, hdue]

end Sys2Proof.Machine

open Sys2Proof Sys2Proof.Machine

/-- Settles O34, by the three groups of phases of R23 and R60: what the door opening leaves in the pocket
survives the grant that may follow, for the pocket is left in no phase in which a grant acts. -/
theorem doorOpeningsPause : Obligations.DoorOpeningsPause := by
  intro dt p since s hrun hsettled hcand hclosed hdue r
  have htheta := s.theta_atDoorOpening dt p
  refine ⟨_, exec_doorOpening hrun hsettled hcand hclosed hdue, ?_⟩
  have hpocket := s.pocket_atDoorOpening dt p p
  have hqueue := s.jc_atDoorOpening dt p
  have hbd := s.bd_atDoorOpening dt p
  generalize s.atDoorOpening dt p = a at htheta hpocket hqueue hbd ⊢
  refine ⟨fun h => ?_, fun h => ?_, fun h => ?_⟩
  · have hpausable : (a.pocket p).phase.pausable = true := by
      rw [hpocket]
      revert h
      cases (s.pocket p).phase <;> simp [Phase.pausable]
    rw [State.doorOpened_of_pausable hpausable]
    have hgrant := (a.pauseDoor p).arbitrate_pocket_of_phase p (by simp)
    have hgone := State.without_arbitrate (a.without_pauseDoor p)
    rw [State.heatPermit, hgrant]
    refine ⟨by simp, by simp, by simp, a.timers_pauseDoor p, by simp, ?_, hgone.queued, hgone.granted,
      by simp [hqueue]⟩
    rw [State.run_pauseDoor]
    split
    · rename_i th hvalid
      rw [← hpocket]
      split
      · rename_i hsensor
        rw [State.takeReference_of_sensor hsensor, hpocket]
      · rename_i hsensor
        simp [State.takeReference_of_valid (htheta.trans hvalid) (Bool.eq_false_iff.mpr hsensor),
          hpocket, hbd, r]
    · rename_i hinvalid
      rw [State.takeReference_of_invalid (htheta.trans hinvalid), hpocket]
  · rw [← hpocket] at h
    rw [State.doorOpened_of_over h, State.arbitrate_pocket_of_phase _ _ (by simp)]
    exact ⟨by simp, by simp [r, hpocket], State.motorRun_enterPhase_of_drops _ _ rfl,
      by simp [hqueue]⟩
  · rw [← hpocket] at h
    rw [State.doorOpened_of_waiting h, State.arbitrate_pocket_of_phase]
    · exact ⟨by rw [hpocket], by rw [hpocket], by simp [hqueue]⟩
    · revert h
      cases (a.pocket p).phase <;> simp
end

section
/-! START_CYCLE (R9). -/

namespace Sys2Proof.Machine

/-! ### Arguments (R7, R8) -/

theorem cycleChoices_of_bits (stage rev auto : Bool) :
    cycleChoices (if stage then 1 else 0) (if rev then 1 else 0) (if auto then 1 else 0)
      = some ⟨HeatStage.ofBool stage, rev, auto⟩ := by
  cases stage <;> cases rev <;> cases auto <;> rfl

@[simp] theorem HeatStage.reduced?_ofBool (b : Bool) : (HeatStage.ofBool b).reduced? = b := by
  cases b <;> rfl

theorem boolByte_eq (b : Bool) : boolByte b = if b then 1 else 0 := by
  cases b <;> rfl

/-- The reply status says CLAMPED exactly where some value was changed (R7). -/
theorem Reply.done_clamp (a : CycleArgs) (data : List Byte) :
    Reply.done (a.clamp != a) data
      = ⟨if a.clamp.t = a.t ∧ a.clamp.c = a.c ∧ a.clamp.thetaX = a.thetaX ∧ a.clamp.w = a.w
            ∧ a.clamp.b = a.b ∧ a.clamp.rt = a.rt then .ok else .clamped, data⟩ := by
  have hext : a.clamp = a ↔ a.clamp.t = a.t ∧ a.clamp.c = a.c ∧ a.clamp.thetaX = a.thetaX
      ∧ a.clamp.w = a.w ∧ a.clamp.b = a.b ∧ a.clamp.rt = a.rt := by
    constructor
    · intro h; simp only [h, and_self]
    · rintro ⟨ht, hc, hx, hw, hb, hr⟩
      generalize a.clamp = x at *
      cases x; cases a; simp_all
  by_cases h : a.clamp = a
  · simp [Reply.done, h]
  · simp [Reply.done, ← hext, h]

/-! ### What stays when a pocket's own record is replaced first -/

theorem actsOnPocket_of_setPocket {p : PocketId} {s t : State} {k : Pocket}
    (h : actsOnPocket p (s.setPocket p k) t) : actsOnPocket p s t := by
  obtain ⟨hworld, ⟨hrun, hfaults, hgrant⟩, hrp⟩ := h
  rw [State.pocket_setPocket_other] at hrun hfaults hgrant
  exact ⟨hworld, ⟨hrun, hfaults, hgrant⟩, hrp⟩

/-! ### The act (R9, R10) -/

theorem State.pocket_checkStartWait (s : State) (p : PocketId) :
    (s.checkStartWait p).pocket p =
      if s.inRun ∧ (s.pocket p).phase = .startWait ∧ (s.sense p).door.level ∧ s.lm.line = .normal then
        (s.pocket p).move .spinup s.time s.cfg.period
      else s.pocket p := by
  unfold State.checkStartWait
  split
  · simp [State.enterSpinup]
  · rfl

@[simp] theorem State.queue_checkStartWait (s : State) (p : PocketId) :
    (s.checkStartWait p).jc.queue = s.jc.queue := by
  unfold State.checkStartWait
  split <;> rfl

/-- The pocket's own record as START_CYCLE begins with it (R9, steps 1 to 5; R44). -/
def State.freshPocket (s : State) (p : PocketId) (a : CycleArgs) (ch : CycleChoices) : Pocket :=
  { s.pocket p with
    run := RunRecord.start s.bd.epoch (s.cfg.copies p) a ch, lastBurstReverse := false }

/-- An accepted START_CYCLE is an act on the state with the pocket's fresh record. -/
theorem State.startCycle_acts (s : State) (p : PocketId) (a : CycleArgs) (ch : CycleChoices) :
    ActsOn p (s.setPocket p (s.freshPocket p a ch)) (s.startCycle p a ch) :=
  (((ActsOn.refl p _).changePhase _).postRequest _).checkStartWait

/-- R2, R21: on the way into a running phase both timers start full. -/
theorem Pocket.timers_move_of_start {k : Pocket} {new : Phase} (now period : Nat)
    (hold : k.phase.running = false) (hnew : new.running = true) :
    (k.move new now period).timers = { PocketTimers.stopped with
      second := some (now + seconds 1), periodic := some (now + seconds period) } := by
  simp [Pocket.move, PocketTimers.move, hold, hnew]

/-- R2, R21: between running phases both timers go on. -/
theorem Pocket.timers_move_of_running {k : Pocket} {new : Phase} (now period : Nat)
    (hold : k.phase.running = true) (hnew : new.running = true) :
    (k.move new now period).timers = { PocketTimers.stopped with
      second := k.timers.second, periodic := k.timers.periodic } := by
  simp [Pocket.move, PocketTimers.move, hold, hnew]

/-- A request that would start a periodic timer already full changes nothing of its pocket. -/
theorem State.pocket_postRequest_of_full {s : State} {p : PocketId} (k : RecordKind)
    (h : (s.pocket p).timers.periodic = some (s.time + seconds s.cfg.period)) :
    (s.postRequest p k).pocket p = s.pocket p := by
  rw [State.pocket_postRequest_self, ← h]
  split <;> rfl

/-- An accepted START_CYCLE before the test of R10: the pocket is in START_WAIT. -/
def State.startWaiting (s : State) (p : PocketId) (a : CycleArgs) (ch : CycleChoices) : State :=
  ((s.setPocket p (s.freshPocket p a ch)).changePhase p .startWait).postRequest p .start

theorem State.startCycle_eq (s : State) (p : PocketId) (a : CycleArgs) (ch : CycleChoices) :
    s.startCycle p a ch = (s.startWaiting p a ch).checkStartWait p := rfl

/-- The START request restarts the periodic timer that the change of phase has just started. -/
theorem State.pocket_startWaiting {s : State} {p : PocketId} (a : CycleArgs) (ch : CycleChoices)
    (hold : (s.pocket p).phase.running = false) :
    (s.startWaiting p a ch).pocket p
      = (s.freshPocket p a ch).move .startWait s.time s.cfg.period := by
  have hfull : ((s.freshPocket p a ch).move .startWait s.time s.cfg.period).timers.periodic
      = some (s.time + seconds s.cfg.period) := by
    rw [Pocket.timers_move_of_start (k := s.freshPocket p a ch) _ _ hold rfl]
  rw [State.startWaiting, State.pocket_postRequest_of_full] <;>
    rw [State.pocket_changePhase_self, State.pocket_setPocket_self]
  · rfl
  · exact hfull

/-- The pocket after an accepted START_CYCLE leaves START_WAIT by R10. -/
theorem State.pocket_startCycle {s : State} {p : PocketId} (a : CycleArgs) (ch : CycleChoices)
    (hrun : s.inRun = true) (hold : (s.pocket p).phase.running = false) :
    (s.startCycle p a ch).pocket p =
      if (s.sense p).door.level = true ∧ s.lm.line = .normal then
        ((s.freshPocket p a ch).move .startWait s.time s.cfg.period).move .spinup s.time s.cfg.period
      else (s.freshPocket p a ch).move .startWait s.time s.cfg.period := by
  have hwaits := s.pocket_startWaiting a ch hold
  have hsense : (s.startWaiting p a ch).sense p = s.sense p := rfl
  have hinRun : (s.startWaiting p a ch).inRun = true := hrun
  rw [State.startCycle_eq, State.pocket_checkStartWait, hwaits, hsense, hinRun]
  simp [State.startWaiting, Pocket.move]

/-- The fields of the pocket that an accepted START_CYCLE fixes (R2, R9, R10, R21, R44). -/
theorem State.startCycle_fields {s : State} {p : PocketId} (a : CycleArgs) (ch : CycleChoices)
    (hrun : s.inRun = true) (hold : (s.pocket p).phase.running = false) :
    let k := (s.startCycle p a ch).pocket p
    k.run = RunRecord.start s.bd.epoch (s.cfg.copies p) a ch ∧ k.faults = (s.pocket p).faults
      ∧ k.phase = (if (s.sense p).door.level ∧ s.lm.line = .normal then .spinup else .startWait)
      ∧ k.timers.second = some (s.time + seconds 1)
      ∧ k.timers.periodic = some (s.time + seconds s.cfg.period) ∧ k.lastBurstReverse = false := by
  intro k
  have hwait := Pocket.timers_move_of_start (k := s.freshPocket p a ch) (new := .startWait) s.time
    s.cfg.period hold rfl
  have hspin := Pocket.timers_move_of_running (new := .spinup) (k :=
    (s.freshPocket p a ch).move .startWait s.time s.cfg.period) s.time s.cfg.period rfl rfl
  have hk : k = _ := State.pocket_startCycle a ch hrun hold
  by_cases hgo : (s.sense p).door.level = true ∧ s.lm.line = .normal
  · rw [if_pos hgo] at hk ⊢
    rw [hk, hspin, hwait]
    exact ⟨rfl, rfl, rfl, rfl, rfl, rfl⟩
  · rw [if_neg hgo] at hk ⊢
    rw [hk, hwait]
    exact ⟨rfl, rfl, rfl, rfl, rfl, rfl⟩

/-! ### The command -/

theorem State.serveStartCycle_of_rest {s : State} {p : PocketId} (a : CycleArgs) (ch : CycleChoices)
    (hrun : s.inRun = true) (h : (s.pocket p).phase = .idle ∨ (s.pocket p).phase = .done) :
    s.serveStartCycle (pocketByte p) a (some ch)
      = (s.startCycle p a.clamp ch).carriedOut
          (.done (a.clamp != a) (cycleData p a.clamp ch s.ss.journalFault.isSome)) := by
  simp [State.serveStartCycle, State.pocketRequest, hrun, h]

/-- R7: a START_CYCLE with defined choices that passes its tests. -/
theorem exec_startCycle {s : State} {p : PocketId} (dt : Nat) (tag : Byte) (T C x W Rt : Half)
    (B : Byte) (stage rev auto : Bool) (hs : s.serving)
    (hphase : (s.pocket p).phase = .idle ∨ (s.pocket p).phase = .done) :
    let a : CycleArgs := ⟨T.toNat, C.toNat, x.toInt, W.toNat, B.toNat, Rt.toNat⟩
    let ch : CycleChoices := ⟨HeatStage.ofBool stage, rev, auto⟩
    exec (.startCycle dt tag (pocketByte p) T (if stage then 1 else 0) C x W B Rt
        (if rev then 1 else 0) (if auto then 1 else 0)) s
      = .next (((s.asked dt 0x03#8 tag).startCycle p a.clamp ch).carriedOut
          (.done (a.clamp != a) (cycleData p a.clamp ch s.ss.journalFault.isSome))).settle := by
  intro a ch
  have hserved := request_served s dt tag (.startCycle (pocketByte p) T (if stage then 1 else 0) C x W
    B Rt (if rev then 1 else 0) (if auto then 1 else 0)) hs.listening
  refine congrArg _ (hserved.trans (congrArg Served.settle ?_))
  refine Eq.trans ?_ (State.serveStartCycle_of_rest _ ch (hs.inRun_asked dt 0x03#8 tag) hphase)
  rw [State.serve, cycleChoices_of_bits]
  rfl

end Sys2Proof.Machine

open Sys2Proof Sys2Proof.Machine

/-- Settles O13: the act is framed from the state with the fresh record, and a grant in SPINUP keeps what
the act left. -/
theorem startCycleBeginsACycle : Obligations.StartCycleBeginsACycle := by
  intro dt tag p T C x W Rt B stage rev auto s hs hphase t' c' x' w' b' rt'
  refine ⟨_, exec_startCycle dt tag T C x W Rt B stage rev auto hs hphase, ?_⟩
  generalize ha : (⟨T.toNat, C.toNat, x.toInt, W.toNat, B.toNat, Rt.toNat⟩ : CycleArgs) = a
  generalize hch : (⟨HeatStage.ofBool stage, rev, auto⟩ : CycleChoices) = ch
  have hclamp : a.clamp = ⟨t', c', x', w', b', rt'⟩ := by
    subst ha
    simp [CycleArgs.clamp, clampNat, clampInt, t', c', x', w', b', rt']
  have hresting : ((s.asked dt 0x03#8 tag).pocket p).phase.running = false := by
    change (s.pocket p).phase.running = false
    rcases hphase with h | h <;> rw [h] <;> rfl
  have hrun := hs.inRun_asked dt 0x03#8 tag
  have hacts : ActsOn p ((s.setPocket p (s.freshPocket p a.clamp ch)).asked dt 0x03#8 tag)
      ((s.asked dt 0x03#8 tag).startCycle p a.clamp ch) :=
    State.startCycle_acts (s.asked dt 0x03#8 tag) p a.clamp ch
  obtain ⟨urun, ufaults, uphase, usecond, uperiodic, ureverse⟩ :=
    State.startCycle_fields a.clamp ch hrun hresting
  have uqueue : ((s.asked dt 0x03#8 tag).startCycle p a.clamp ch).jc.queue
      = enqueue s.jc.queue p .start (s.time + dt) := State.queue_checkStartWait _ p
  generalize (s.asked dt 0x03#8 tag).startCycle p a.clamp ch = u at *
  generalize hr : Reply.done (a.clamp != a)
    (cycleData p a.clamp ch s.ss.journalFault.isSome) = r
  have hmoving : (u.pocket p).phase ≠ .acRest := by
    rw [uphase]
    split <;> simp
  obtain ⟨htime, hanswers, hframe⟩ := hacts.replied r
  obtain ⟨trun, tfaults, tphase, tsecond, tperiodic, tqueue, _, _⟩ := carriedOut_keeps u r p
  have treverse := (u.arbitrate_lastBurstReverse p hmoving).trans ureverse
  have hreply : r = _ := hr.symm.trans (Reply.done_clamp _ _)
  refine ⟨htime, actsOnPocket_of_setPocket hframe, ?_, ?_, tfaults.trans ufaults,
    (tphase hmoving).1.trans uphase, ?_, ?_, treverse, ?_⟩
  · refine Eq.mp (congrArg (answers s _ 0x03#8 tag) ?_) hanswers
    rw [hreply, hclamp, ← ha, ← hch]
    simp only [cycleData, boolByte_eq, HeatStage.reduced?_ofBool, List.append_assoc,
      List.cons_append, List.nil_append]
  · rw [trun, urun, hclamp, ← hch]
    rfl
  · rw [tsecond, usecond, htime]
    rfl
  · rw [tperiodic, uperiodic, htime]
    rfl
  · rw [tqueue, uqueue, htime]
    rfl
end

section
/-! STOP (R28), and DECLINE (R157) as the act of a STOP in HELD. -/

namespace Sys2Proof.Machine

/-! ### States that differ in the link alone -/

/-- The state with another link. -/
def State.withLink (s : State) (l : Link) : State := { s with ml := l }

/-- The two states agree but for the link, and there in the event queue: what a request leaves when another
kind of request is outstanding. -/
def SameButLink (s t : State) : Prop := ∃ l : Link, l.events = s.ml.events ∧ t = s.withLink l

theorem Link.events_post_congr {k l : Link} (h : k.events = l.events) (m : Nat) (e : EventEntry) :
    (k.post m e).events = (l.post m e).events := by
  unfold Link.post
  rw [h]
  split
  · exact h
  · split
    · rfl
    · rfl

@[simp] theorem Link.events_reply (l : Link) (r : Reply) : (l.reply r).events = l.events := by
  unfold Link.reply
  split <;> rfl

/-- The arbiter grants the oldest request where the slot is free. -/
theorem State.arbitrate_of_waiting {s : State} {r : StartRequest} {rest : List StartRequest}
    (hrun : s.inRun = true) (hslot : s.ssa.slot = none) (hqueue : s.ssa.queue = r :: rest) :
    s.arbitrate = ({ s with ssa := ⟨some ⟨r, s.time, s.holdEnd r⟩, rest⟩ } : State).takeGrant r := by
  unfold State.arbitrate
  rw [hrun, hslot, hqueue]

theorem State.arbitrate_of_nothing {s : State}
    (h : ¬∃ r rest, s.inRun = true ∧ s.ssa.slot = none ∧ s.ssa.queue = r :: rest) :
    s.arbitrate = s := by
  unfold State.arbitrate
  split
  · exact absurd ⟨_, _, ‹_›, ‹_›, ‹_›⟩ h
  · rfl

/-- The phase a plan enters: AC_REST with its acts, any other by a change of phase alone (R152). -/
theorem State.enterPlan_eq (s : State) (p : PocketId) (pl : PlanRecord) (kind : RecordKind) :
    s.enterPlan p pl kind
      = ((if pl.dest = .acRest then
            (s.setRun p (pl.run (s.pocket p).run s.bd.stamp)).enterAcRest p
          else (s.setRun p (pl.run (s.pocket p).run s.bd.stamp)).changePhase p pl.dest).postRequest p
        kind).checkStartWait p := by
  unfold State.enterPlan
  cases pl.dest <;> rfl

/-- The plan of a DECLINE (R157). -/
def State.declined (s : State) (p : PocketId) : PlanRecord :=
  declinePlan s.cfg s.bd (s.sense p) (s.pocket p) (s.rp.get p)

theorem State.decline_eq (s : State) (p : PocketId) :
    s.decline p =
      if (s.declined p).kind = .resumeCool then
        ((s.holdPlan p (s.declined p)).endHeat p .stop false).enterPlan p (s.declined p) .resume
      else (s.holdPlan p (s.declined p)).enterPlan p (s.declined p) .phase := by
  unfold State.decline
  dsimp only
  split
  · rename_i hcool
    exact (if_pos (c := (s.declined p).kind = .resumeCool) hcool).symm
  · rename_i hfinish
    exact (if_neg (c := (s.declined p).kind = .resumeCool) hfinish).symm

/-! An act reads nothing of the link and writes its events alone, so it keeps two such states alike. -/

namespace SameButLink

theorem ite {c : Prop} [Decidable c] {a b a' b' : State} (h : SameButLink a b)
    (h' : SameButLink a' b') : SameButLink (if c then a else a') (if c then b else b') := by
  split
  · exact h
  · exact h'

theorem post {s t : State} (h : SameButLink s t) (e : EventKind) (q : Option PocketId) (a : Half) :
    SameButLink (s.post e q a) (t.post e q a) := by
  obtain ⟨l, hl, rfl⟩ := h
  exact ⟨_, Link.events_post_congr hl _ _, rfl⟩

theorem changePhase {s t : State} (h : SameButLink s t) (p : PocketId) (ph : Phase) :
    SameButLink (s.changePhase p ph) (t.changePhase p ph) := by
  obtain ⟨l, hl, rfl⟩ := h
  exact ⟨_, Link.events_post_congr hl _ _, rfl⟩

theorem setPocket {s t : State} (h : SameButLink s t) (p : PocketId) (k : Pocket) :
    SameButLink (s.setPocket p k) (t.setPocket p k) := by
  obtain ⟨l, hl, rfl⟩ := h
  exact ⟨l, hl, rfl⟩

theorem setRun {s t : State} (h : SameButLink s t) (p : PocketId) (r : RunRecord) :
    SameButLink (s.setRun p r) (t.setRun p r) := by
  obtain ⟨l, hl, rfl⟩ := h
  exact ⟨l, hl, rfl⟩

theorem postRequest {s t : State} (h : SameButLink s t) (p : PocketId) (k : RecordKind) :
    SameButLink (s.postRequest p k) (t.postRequest p k) := by
  obtain ⟨l, hl, rfl⟩ := h
  exact ⟨l, hl, rfl⟩

theorem enterPhase {s t : State} (h : SameButLink s t) (p : PocketId) (ph : Phase) :
    SameButLink (s.enterPhase p ph) (t.enterPhase p ph) :=
  (h.changePhase p ph).postRequest p .phase

theorem holdPlan {s t : State} (h : SameButLink s t) (p : PocketId) (pl : PlanRecord) :
    SameButLink (s.holdPlan p pl) (t.holdPlan p pl) := by
  obtain ⟨l, hl, rfl⟩ := h
  exact ⟨_, Link.events_post_congr hl _ _, rfl⟩

theorem endHeat {s t : State} (h : SameButLink s t) (p : PocketId) (c : HeatCause) (hold : Bool) :
    SameButLink (s.endHeat p c hold) (t.endHeat p c hold) := by
  obtain ⟨l, hl, rfl⟩ := h
  have hsame : SameButLink s (s.withLink l) := ⟨l, hl, rfl⟩
  have hended := hsame.setRun p ((s.pocket p).run.endHeat c hold)
  exact (ite (hended.enterPhase p .cool) hended).post _ _ _

theorem enterAcRest {s t : State} (h : SameButLink s t) (p : PocketId) :
    SameButLink (s.enterAcRest p) (t.enterAcRest p) := by
  obtain ⟨l, hl, rfl⟩ := h
  exact ⟨_, Link.events_post_congr hl _ _, rfl⟩

theorem startBurst {s t : State} (h : SameButLink s t) (p : PocketId) :
    SameButLink (s.startBurst p) (t.startBurst p) := by
  obtain ⟨l, hl, rfl⟩ := h
  exact ⟨_, Link.events_post_congr hl _ _, rfl⟩

theorem enterSpinup {s t : State} (h : SameButLink s t) (p : PocketId) :
    SameButLink (s.enterSpinup p) (t.enterSpinup p) := by
  obtain ⟨l, hl, rfl⟩ := h
  exact ⟨_, Link.events_post_congr hl _ _, rfl⟩

theorem checkStartWait {s t : State} (h : SameButLink s t) (p : PocketId) :
    SameButLink (s.checkStartWait p) (t.checkStartWait p) := by
  have hspin := h.enterSpinup p
  obtain ⟨l, hl, rfl⟩ := h
  exact ite hspin ⟨l, hl, rfl⟩

theorem enterPlan {s t : State} (h : SameButLink s t) (p : PocketId) (pl : PlanRecord)
    (kind : RecordKind) : SameButLink (s.enterPlan p pl kind) (t.enterPlan p pl kind) := by
  rw [State.enterPlan_eq, State.enterPlan_eq]
  obtain ⟨l, hl, rfl⟩ := h
  have hsame : SameButLink s (s.withLink l) := ⟨l, hl, rfl⟩
  have hrun := hsame.setRun p (pl.run (s.pocket p).run s.bd.stamp)
  exact ((ite (hrun.enterAcRest p) (hrun.changePhase p pl.dest)).postRequest p kind).checkStartWait p

theorem decline {s t : State} (h : SameButLink s t) (p : PocketId) :
    SameButLink (s.decline p) (t.decline p) := by
  have hplan := h.holdPlan p (s.declined p)
  rw [State.decline_eq, State.decline_eq]
  obtain ⟨l, hl, rfl⟩ := h
  exact ite ((hplan.endHeat p .stop false).enterPlan p _ .resume) (hplan.enterPlan p _ .phase)

theorem setSlot {s t : State} (h : SameButLink s t) (x : Arbiter) :
    SameButLink { s with ssa := x } { t with ssa := x } := by
  obtain ⟨l, hl, rfl⟩ := h
  exact ⟨l, hl, rfl⟩

theorem takeGrant {s t : State} (h : SameButLink s t) (r : StartRequest) :
    SameButLink (s.takeGrant r) (t.takeGrant r) := by
  have hburst := h.startBurst r.pocket
  obtain ⟨l, hl, rfl⟩ := h
  have hpocket : (s.withLink l).pocket r.pocket = s.pocket r.pocket := rfl
  unfold State.takeGrant
  rw [hpocket]
  dsimp only
  split
  · exact ⟨l, hl, rfl⟩
  · exact hburst
  · split <;> exact ⟨l, hl, rfl⟩
  · exact ⟨l, hl, rfl⟩

theorem arbitrate {s t : State} (h : SameButLink s t) : SameButLink s.arbitrate t.arbitrate := by
  obtain ⟨l, hl, rfl⟩ := h
  by_cases hw : ∃ r rest, s.inRun = true ∧ s.ssa.slot = none ∧ s.ssa.queue = r :: rest
  · obtain ⟨r, rest, hrun, hslot, hqueue⟩ := hw
    rw [State.arbitrate_of_waiting hrun hslot hqueue,
      State.arbitrate_of_waiting (s := s.withLink l) hrun hslot hqueue]
    have hsame : SameButLink s (s.withLink l) := ⟨l, hl, rfl⟩
    exact (hsame.setSlot ⟨some ⟨r, s.time, s.holdEnd r⟩, rest⟩).takeGrant r
  · rw [State.arbitrate_of_nothing hw, State.arbitrate_of_nothing (s := s.withLink l) hw]
    exact ⟨l, hl, rfl⟩

theorem carriedOut {s t : State} (h : SameButLink s t) (r : Reply) :
    SameButLink (s.carriedOut r).settle (t.carriedOut r).settle := by
  have hgrant := h.arbitrate
  simp only [State.carriedOut, Served.settle]
  generalize s.arbitrate = a at hgrant ⊢
  obtain ⟨l, hl, ht⟩ := hgrant
  rw [ht]
  exact ⟨l.reply r, by simp [hl], rfl⟩

theorem eq {s t : State} (h : SameButLink s t) :
    { s with ml := t.ml } = t ∧ s.ml.events = t.ml.events := by
  obtain ⟨l, hl, rfl⟩ := h
  exact ⟨rfl, hl.symm⟩

/-- Two requests find the same state but for the request that is outstanding. -/
theorem asked (s : State) (dt : Nat) (kind kind' tag : Byte) :
    SameButLink (s.asked dt kind tag) (s.asked dt kind' tag) :=
  ⟨(s.asked dt kind' tag).ml, rfl, rfl⟩

end SameButLink

/-! ### The act of a DECLINE -/

/-- A plan that leaves the credit, the target and the copies of the run record is an act. -/
theorem ActsOn.enterPlan {p : PocketId} {a s : State} (h : ActsOn p a s) {pl : PlanRecord}
    (kind : RecordKind)
    (hd : (pl.run (s.pocket p).run s.bd.stamp).d = (s.pocket p).run.d)
    (ht : (pl.run (s.pocket p).run s.bd.stamp).t = (s.pocket p).run.t)
    (hc : (pl.run (s.pocket p).run s.bd.stamp).copies = (s.pocket p).run.copies) :
    ActsOn p a (s.enterPlan p pl kind) := by
  rw [State.enterPlan_eq]
  have hrun := h.setRun hd ht hc
  refine (ActsOn.postRequest ?_ kind).checkStartWait
  split
  · exact hrun.enterAcRest
  · exact hrun.changePhase _

/-- R157: a DECLINE leaves the credit, the target and the copies of any run record. -/
theorem State.declined_run (s : State) (p : PocketId) (r : RunRecord) (now : Stamp) :
    ((s.declined p).run r now).d = r.d ∧ ((s.declined p).run r now).t = r.t
      ∧ ((s.declined p).run r now).copies = r.copies := by
  unfold State.declined declinePlan
  dsimp only
  split <;> exact ⟨rfl, rfl, rfl⟩

/-- A DECLINE is an act on the state that holds its plan. -/
theorem State.decline_acts (s : State) (p : PocketId) :
    ActsOn p { s with rp := s.rp.set p (some (s.declined p)) } (s.decline p) := by
  have hplan : ActsOn p { s with rp := s.rp.set p (some (s.declined p)) }
      (s.holdPlan p (s.declined p)) := (ActsOn.refl p _).post _ _ _
  rw [State.decline_eq]
  split
  · obtain ⟨hd, ht, hc⟩ := s.declined_run p
      (((s.holdPlan p (s.declined p)).endHeat p .stop false).pocket p).run
      ((s.holdPlan p (s.declined p)).endHeat p .stop false).bd.stamp
    exact (hplan.endHeat _ _).enterPlan _ hd ht hc
  · obtain ⟨hd, ht, hc⟩ := s.declined_run p ((s.holdPlan p (s.declined p)).pocket p).run
      (s.holdPlan p (s.declined p)).bd.stamp
    exact hplan.enterPlan _ hd ht hc

/-! ### The act of a STOP, by phase (table of R28) -/

theorem State.stopBy_of_rejected {s : State} {p : PocketId}
    (h : (s.pocket p).phase ∈ [.idle, .done, .faultHold]) : s.stopBy p = none := by
  simp only [List.mem_cons, List.not_mem_nil, or_false] at h
  rcases h with h | h | h <;> simp [State.stopBy, h]

theorem State.stopBy_of_early {s : State} {p : PocketId}
    (h : (s.pocket p).phase ∈ [.startWait, .spinup]) : s.stopBy p = some (s.stopEarly p) := by
  simp only [List.mem_cons, List.not_mem_nil, or_false] at h
  rcases h with h | h <;> simp [State.stopBy, h]

theorem State.stopBy_of_heating {s : State} {p : PocketId}
    (h : (s.pocket p).phase ∈ [.purge, .ignition, .heat, .heatWait]) :
    s.stopBy p = some (s.endHeat p .stop false) := by
  simp only [List.mem_cons, List.not_mem_nil, or_false] at h
  rcases h with h | h | h | h <;> simp [State.stopBy, h]

theorem State.stopBy_of_cool {s : State} {p : PocketId} (h : (s.pocket p).phase = .cool) :
    s.stopBy p = some (s.setRun p (s.pocket p).run.stopped) := by
  simp [State.stopBy, h]

theorem State.stopBy_of_resting {s : State} {p : PocketId}
    (h : (s.pocket p).phase ∈ [.acRest, .acBurst, .paused]) :
    s.stopBy p = some (s.enterPhase p .done) := by
  simp only [List.mem_cons, List.not_mem_nil, or_false] at h
  rcases h with h | h | h <;> simp [State.stopBy, h]

theorem State.stopBy_of_held {s : State} {p : PocketId} (h : (s.pocket p).phase = .held) :
    s.stopBy p = some (s.decline p) := by
  simp [State.stopBy, h]

theorem ActsOn.stopEarly {p : PocketId} {a s : State} (h : ActsOn p a s) :
    ActsOn p a (s.stopEarly p) := by
  unfold State.stopEarly
  dsimp only
  split
  · exact h.enterPhase _
  · split
    · exact h.endHeat _ _
    · exact h.setRun (by rfl) (by rfl) (by rfl)

/-- In every phase of the table an accepted STOP is an act, in HELD on the state with the new plan. -/
theorem State.stopBy_acts {s : State} {p : PocketId}
    (h : (s.pocket p).phase ∉ [.idle, .done, .faultHold, .recovering]) :
    ∃ u plans, s.stopBy p = some u ∧ ActsOn p { s with rp := plans } u := by
  have hrefl : ActsOn p { s with rp := s.rp } s := ActsOn.refl p s
  unfold State.stopBy
  split
  · exact ⟨_, _, rfl, hrefl.stopEarly⟩
  · exact ⟨_, _, rfl, hrefl.stopEarly⟩
  · exact ⟨_, _, rfl, hrefl.endHeat _ _⟩
  · exact ⟨_, _, rfl, hrefl.endHeat _ _⟩
  · exact ⟨_, _, rfl, hrefl.endHeat _ _⟩
  · exact ⟨_, _, rfl, hrefl.endHeat _ _⟩
  · exact ⟨_, _, rfl, hrefl.setRun (by rfl) (by rfl) (by rfl)⟩
  · exact ⟨_, _, rfl, hrefl.enterPhase _⟩
  · exact ⟨_, _, rfl, hrefl.enterPhase _⟩
  · exact ⟨_, _, rfl, hrefl.enterPhase _⟩
  · exact ⟨_, _, rfl, s.decline_acts p⟩
  all_goals exact absurd (by simp [*]) h

/-! ### What a carried out request leaves -/

/-- The reply and the frame of an act on the state with other plans. -/
theorem replied_with_plans {p : PocketId} {s u : State} {dt : Nat} {kind tag : Byte}
    {plans : Pair (Option PlanRecord)} (h : ActsOn p { s.asked dt kind tag with rp := plans } u)
    (r : Reply) :
    answers s (u.carriedOut r).settle kind tag r ∧ keepsWorld s (u.carriedOut r).settle
      ∧ keepsOther p s (u.carriedOut r).settle := by
  have hacts : ActsOn p (({ s with rp := plans } : State).asked dt kind tag) u := h
  obtain ⟨_, hanswers, hworld, hother, _⟩ := hacts.replied r
  exact ⟨hanswers, hworld, hother⟩

/-- A pocket that an act does not leave in AC_REST keeps the phase and the run record that it left. -/
theorem carriedOut_phase_run {u : State} {p : PocketId} {ph : Phase} {run : RunRecord} (r : Reply)
    (h : (u.pocket p).phase = ph ∧ (u.pocket p).run = run) (hph : ph ≠ .acRest) :
    ((u.carriedOut r).settle.pocket p).phase = ph ∧ ((u.carriedOut r).settle.pocket p).run = run := by
  obtain ⟨rfl, rfl⟩ := h
  obtain ⟨hrun, _, hphase, _⟩ := carriedOut_keeps u r p
  exact ⟨(hphase hph).1, hrun⟩

/-! ### The rows of the table, before the grant -/

theorem State.stopEarly_of_unheated {s : State} {p : PocketId} (hh : (s.pocket p).run.h = 0)
    (hd : (s.pocket p).run.d = 0) :
    ((s.stopEarly p).pocket p).phase = .idle
      ∧ ((s.stopEarly p).pocket p).run = (s.pocket p).run := by
  simp [State.stopEarly, hh, hd]

/-- With heat counted or credit earned an early STOP keeps the phase and ends the heat of the cycle. -/
theorem State.stopEarly_of_heated {s : State} {p : PocketId}
    (hp : (s.pocket p).phase ∈ [.startWait, .spinup])
    (h : 0 < (s.pocket p).run.h ∨ 0 < (s.pocket p).run.d) :
    ((s.stopEarly p).pocket p).phase = (s.pocket p).phase
      ∧ ((s.stopEarly p).pocket p).run = (if (s.pocket p).run.target = .heat then
          (s.pocket p).run.endHeat .stop false else (s.pocket p).run.stopped) := by
  have hcold : (s.pocket p).phase.heating = false := by
    revert hp
    cases (s.pocket p).phase <;> simp [Phase.heating]
  unfold State.stopEarly
  dsimp only
  rw [if_neg (by omega)]
  split
  · exact ⟨by simp [State.phase_endHeat, hcold], State.run_endHeat _ _ _ _⟩
  · exact ⟨by simp, by simp⟩

theorem State.endHeat_of_heating {s : State} {p : PocketId}
    (hp : (s.pocket p).phase ∈ [.purge, .ignition, .heat, .heatWait]) (c : HeatCause) (hold : Bool) :
    ((s.endHeat p c hold).pocket p).phase = .cool
      ∧ ((s.endHeat p c hold).pocket p).run = (s.pocket p).run.endHeat c hold := by
  refine ⟨?_, State.run_endHeat _ _ _ _⟩
  rw [State.phase_endHeat, if_pos]
  revert hp
  cases (s.pocket p).phase <;> simp [Phase.heating]

/-! ### The commands -/

theorem State.serveStop_of_none {s : State} {p : PocketId} (hrun : s.inRun = true)
    (h : s.stopBy p = none) : s.serveStop (pocketByte p) = s.answer .wrongPhase := by
  simp [State.serveStop, State.pocketRequest, hrun, h]

theorem State.serveStop_of_some {s u : State} {p : PocketId} (hrun : s.inRun = true)
    (h : s.stopBy p = some u) : s.serveStop (pocketByte p) = u.carriedOut .ok := by
  simp [State.serveStop, State.pocketRequest, hrun, h]

theorem exec_stop {s : State} (dt : Nat) (tag b : Byte) (hs : s.serving) :
    exec (.stop dt tag b) s = .next ((s.asked dt 0x07#8 tag).serveStop b).settle :=
  congrArg _ (request_served s dt tag (.stop b) hs.listening)

/-- A DECLINE that passes its test (R157). -/
theorem exec_decline_of_held {s : State} {p : PocketId} (dt : Nat) (tag : Byte) (hs : s.serving)
    (hheld : (s.pocket p).phase = .held) :
    exec (.decline dt tag (pocketByte p)) s
      = .next (((s.asked dt 0x0B#8 tag).decline p).carriedOut .ok).settle := by
  have hrun := hs.inRun_asked dt 0x0B#8 tag
  have hpasses : ((s.asked dt 0x0B#8 tag).pocket p).phase = .held := hheld
  refine congrArg _ ((request_served s dt tag (.decline (pocketByte p)) hs.listening).trans
    (congrArg Served.settle ?_))
  simp [State.serve, State.serveDecline, State.pocketRequest, Request.kind, hrun, hpasses]

end Sys2Proof.Machine

open Sys2Proof Sys2Proof.Machine

/-- Settles O17, row by row: each row is the act of its phases, of which the grant that may follow keeps the
phase and the run record; in HELD STOP and DECLINE act alike on two states that differ in the outstanding
request alone. -/
theorem stopActsByPhase : Obligations.StopActsByPhase := by
  intro dt tag p s hs _ k
  have hrun := hs.inRun_asked dt 0x07#8 tag
  have hstop := exec_stop dt tag (pocketByte p) hs
  have hk : (s.asked dt 0x07#8 tag).pocket p = k := rfl
  refine ⟨fun h => ?_, fun h => ?_⟩
  · rw [hstop, State.serveStop_of_none hrun (State.stopBy_of_rejected h)]
    rfl
  obtain ⟨u, plans, hu, hacts⟩ := State.stopBy_acts (s := s.asked dt 0x07#8 tag) h
  rw [State.serveStop_of_some hrun hu] at hstop
  obtain ⟨hanswers, hworld, hother⟩ := replied_with_plans hacts .ok
  have hrow : ∀ {v}, (s.asked dt 0x07#8 tag).stopBy p = some v → u = v :=
    fun hv => Option.some.inj (hu.symm.trans hv)
  refine ⟨_, hstop, hanswers, hworld, hother, fun hp hh hd => ?_, fun hp hpos => ?_, fun hp => ?_,
    fun hp => ?_, fun hp => ?_, fun hp => ?_⟩
  · rw [hrow (State.stopBy_of_early hp)]
    exact carriedOut_phase_run _
      (State.stopEarly_of_unheated (s := s.asked dt 0x07#8 tag) hh hd) (by decide)
  · rw [hrow (State.stopBy_of_early hp)]
    obtain ⟨hphase, hrec⟩ := carriedOut_phase_run .ok
      (State.stopEarly_of_heated (s := s.asked dt 0x07#8 tag) hp hpos)
      (fun hrest => absurd (hrest ▸ hp : Phase.acRest ∈ _) (by decide))
    refine ⟨hphase, fun htarget => ?_, fun htarget => ?_⟩
    · exact hrec.trans (if_pos htarget)
    · exact hrec.trans (if_neg (by rw [hk, htarget]; decide))
  · rw [hrow (State.stopBy_of_heating hp)]
    exact carriedOut_phase_run _
      (State.endHeat_of_heating (s := s.asked dt 0x07#8 tag) hp .stop false) (by decide)
  · rw [hrow (State.stopBy_of_cool hp)]
    exact carriedOut_phase_run _ ⟨by simp [hk, hp], by simp [hk, RunRecord.stopped]⟩ (by decide)
  · rw [hrow (State.stopBy_of_resting hp)]
    obtain ⟨hphase, hrec⟩ := carriedOut_phase_run (p := p) (ph := .done) (run := k.run)
      (u := (s.asked dt 0x07#8 tag).enterPhase p .done) .ok ⟨by simp, by simp [hk]⟩ (by decide)
    have hgrant := ((s.asked dt 0x07#8 tag).enterPhase p .done).arbitrate_pocket_of_phase p (by simp)
    exact ⟨hphase, hrec,
      (congrArg Pocket.motorRun hgrant).trans (State.motorRun_enterPhase_of_drops _ _ rfl)⟩
  · rw [hrow (State.stopBy_of_held hp)]
    exact ⟨_, exec_decline_of_held dt tag hs hp,
      (((SameButLink.asked s dt 0x07#8 0x0B#8 tag).decline p).carriedOut .ok).eq⟩
end

section
/-! CONFIG_READ (R172). -/

namespace Sys2Proof.Machine

/-! ### The defined fields (11.1) -/

/-- How many fields a group defines; none for an unknown group. -/
def fieldCount (g : Nat) : Nat := (groupRanges g).elim 0 List.length

/-- A group's field ids are those below its count. -/
theorem fieldRange_eq_none_iff (g f : Nat) : fieldRange g f = none ↔ fieldCount g ≤ f := by
  unfold fieldRange fieldCount
  cases groupRanges g with
  | none => simp
  | some rs => simp

/-! ### The reply -/

/-- The reply of CONFIG_READ from a working copy. -/
def configReadReply (c : WorkingCopy) (g f : Nat) : Reply :=
  if f < fieldCount g then ⟨.ok, le16Int (c.field g f)⟩ else ⟨.badArg, []⟩

/-- Outside groups 1 to 4 every field is unknown. -/
theorem configReadReply_of_unknown_group {g : Nat} (c : WorkingCopy) (f : Nat)
    (h : fieldCount g = 0) : configReadReply c g f = ⟨.badArg, []⟩ :=
  if_neg (by omega)

/-- A CONFIG_READ changes nothing. -/
theorem State.serveConfigRead_eq (s : State) (g f : Byte) :
    s.serveConfigRead g f = (s, some (configReadReply s.cfg g.toNat f.toNat)) := by
  have hknown := fieldRange_eq_none_iff g.toNat f.toNat
  unfold State.serveConfigRead configReadReply
  split
  · rename_i hnone
    rw [if_neg (Nat.not_lt.mpr (hknown.mp hnone))]
    rfl
  · rename_i hsome
    rw [if_pos (Nat.lt_of_not_le fun hle => by simp [hknown.mpr hle] at hsome)]
    rfl

/-- A request that leaves the state it finds is answered, and nothing else changes. -/
theorem State.settle_asked (s : State) (dt : Nat) (kind tag : Byte) (r : Reply) :
    Served.settle (s.asked dt kind tag, some r) = s.answered dt kind tag r := rfl

/-! ### The command -/

theorem exec_configRead {s : State} (dt : Nat) (tag g f : Byte) (hs : s.listening) :
    exec (.configRead dt tag g f) s
      = .next (s.answered dt 0x0E#8 tag (configReadReply s.cfg g.toNat f.toNat)) := by
  have hserved := request_served s dt tag (.configRead g f) hs
  refine congrArg _ (hserved.trans ?_)
  rw [State.serve, State.serveConfigRead_eq, State.settle_asked]
  rfl

end Sys2Proof.Machine

open Sys2Proof Sys2Proof.Machine

/-- Settles O8, by the group id: in groups 1 to 4 the model's table of ranges has the stated number of
fields, and every other group has none. -/
theorem configReadReadsOneField : Obligations.ConfigReadReadsOneField := by
  intro dt tag g f s hs count values
  refine (exec_configRead dt tag g f hs).trans (congrArg _ (congrArg _ ?_))
  subst count values
  generalize g.toNat = group
  match group with
  | 1 => rfl
  | 2 => rfl
  | 3 => rfl
  | 4 => rfl
  | 0 => exact configReadReply_of_unknown_group _ _ rfl
  | _ + 5 => exact configReadReply_of_unknown_group _ _ rfl
end

section
/-! What an act of a Pocket Sequencer does to the queues: the start queue stays free of repeats, the write
queue keeps one request per pocket and the same bus requests, and the same request stays outstanding. -/

namespace Sys2Proof.Machine

/-! ### The write queue (R118) -/

/-- An upgraded request of a pocket is a request of that pocket (R118). -/
theorem WriteKind.upgrade_checkpoint (p : PocketId) (queued arriving : RecordKind) :
    ∃ kind, (WriteKind.checkpoint p queued).upgrade (.checkpoint p arriving) = .checkpoint p kind := by
  unfold WriteKind.upgrade
  split
  · exact ⟨_, rfl⟩
  · exact ⟨_, rfl⟩

theorem WriteRequest.what_of_ofPocket {w : WriteRequest} {p : PocketId} (h : w.ofPocket p = true) :
    ∃ kind, w.what = .checkpoint p kind := by
  obtain ⟨what, age⟩ := w
  cases what with
  | checkpoint q kind => exact ⟨kind, by rw [eq_of_beq h]⟩
  | store => cases h
  | read q slot => cases h

theorem WriteRequest.ofPocket_upgrade {w : WriteRequest} {p : PocketId} (h : w.ofPocket p = true)
    (kind : RecordKind) (q : PocketId) :
    ({ w with what := w.what.upgrade (.checkpoint p kind) } : WriteRequest).ofPocket q
      = w.ofPocket q := by
  obtain ⟨queued, hq⟩ := WriteRequest.what_of_ofPocket h
  obtain ⟨taken, ht⟩ := WriteKind.upgrade_checkpoint p queued kind
  simp only [WriteRequest.ofPocket, hq, ht]

theorem WriteRequest.ofLink_upgrade {w : WriteRequest} {p : PocketId} (h : w.ofPocket p = true)
    (kind : RecordKind) :
    ({ w with what := w.what.upgrade (.checkpoint p kind) } : WriteRequest).ofLink = w.ofLink := by
  obtain ⟨queued, hq⟩ := WriteRequest.what_of_ofPocket h
  obtain ⟨taken, ht⟩ := WriteKind.upgrade_checkpoint p queued kind
  simp only [WriteRequest.ofLink, hq, ht]

/-- An upgrade in place leaves the count of every test that does not see the kind of a record. -/
theorem countP_upgraded (queue : List WriteRequest) (p : PocketId) (kind : RecordKind)
    (test : WriteRequest → Bool)
    (h : ∀ w : WriteRequest, w.ofPocket p = true →
      test { w with what := w.what.upgrade (.checkpoint p kind) } = test w) :
    (queue.map fun w => if w.ofPocket p then
      { w with what := w.what.upgrade (.checkpoint p kind) } else w).countP test
      = queue.countP test := by
  rw [List.countP_map]
  refine List.countP_congr fun w _ => ?_
  by_cases hw : w.ofPocket p = true
  · simp [hw, h w hw]
  · simp [hw]

theorem countP_link_enqueue (queue : List WriteRequest) (p : PocketId) (kind : RecordKind) (now : Nat) :
    (enqueue queue p kind now).countP (·.ofLink) = queue.countP (·.ofLink) := by
  unfold enqueue
  split
  · exact countP_upgraded _ _ _ _ fun w hw => WriteRequest.ofLink_upgrade hw kind
  · simp [List.countP_append, WriteRequest.ofLink]

theorem countP_pocket_enqueue {queue : List WriteRequest} {q : PocketId}
    (h : queue.countP (·.ofPocket q) ≤ 1) (p : PocketId) (kind : RecordKind) (now : Nat) :
    (enqueue queue p kind now).countP (·.ofPocket q) ≤ 1 := by
  unfold enqueue
  split
  · rw [countP_upgraded _ _ _ _ fun w hw => WriteRequest.ofPocket_upgrade hw kind q]
    exact h
  · rename_i hnone
    rw [List.countP_append]
    by_cases hq : p = q
    · subst hq
      have hzero : queue.countP (·.ofPocket p) = 0 := by
        rw [List.countP_eq_zero]
        intro w hw hp
        exact hnone (List.any_eq_true.mpr ⟨w, hw, hp⟩)
      rw [hzero, List.countP_singleton]
      split <;> omega
    · simpa [WriteRequest.ofPocket, hq] using h

/-! ### The start queue (R45, R48) -/

theorem Arbiter.nodup_arrive {a : Arbiter} (h : a.queue.Nodup) (r : StartRequest) :
    (a.arrive r).queue.Nodup := by
  unfold Arbiter.arrive
  split
  · exact h
  · rename_i hr
    rw [List.nodup_append]
    refine ⟨h, by simp, fun x hx y hy => ?_⟩
    rw [List.mem_singleton] at hy
    rintro rfl
    exact hr (by rw [List.contains_iff_mem]; exact hy ▸ hx)

theorem Arbiter.nodup_leave {a : Arbiter} (h : a.queue.Nodup) (p : PocketId) (old new : Phase) :
    (a.leave p old new).queue.Nodup :=
  h.filter _

/-- The kind and tag of the outstanding request. -/
def Link.owed (l : Link) : Option (Byte × Byte) := l.outstanding.map fun o => (o.kind, o.tag)

theorem Link.isSome_owed (l : Link) : l.owed.isSome = l.outstanding.isSome := by
  simp [Link.owed]

@[simp] theorem Link.owed_post (l : Link) (m : Nat) (e : EventEntry) :
    (l.post m e).owed = l.owed := by
  unfold Link.post
  split
  · rfl
  · split
    · rfl
    · simp [Link.owed, Function.comp_def]

@[simp] theorem Link.isSome_outstanding_post (l : Link) (m : Nat) (e : EventEntry) :
    (l.post m e).outstanding.isSome = l.outstanding.isSome := by
  rw [← Link.isSome_owed, Link.owed_post, Link.isSome_owed]

/-! ### Acts -/

/-- What an act keeps of the queues, and of the request it may belong to. -/
structure KeepsQueues (s t : State) : Prop where
  starts : s.ssa.queue.Nodup → t.ssa.queue.Nodup
  writes : ∀ q, s.jc.queue.countP (·.ofPocket q) ≤ 1 → t.jc.queue.countP (·.ofPocket q) ≤ 1
  links : t.jc.queue.countP (·.ofLink) = s.jc.queue.countP (·.ofLink)
  owed : t.ml.owed = s.ml.owed
  rx : t.ml.rx = s.ml.rx
  events : ∀ e ∈ s.ml.events, e ∈ t.ml.events

namespace KeepsQueues

variable {a s : State} {p : PocketId}

theorem refl (s : State) : KeepsQueues s s := ⟨id, fun _ => id, rfl, rfl, rfl, fun _ h => h⟩

theorem trans {a b c : State} (h : KeepsQueues a b) (k : KeepsQueues b c) : KeepsQueues a c where
  starts := fun x => k.starts (h.starts x)
  writes := fun q x => k.writes q (h.writes q x)
  links := k.links.trans h.links
  owed := k.owed.trans h.owed
  rx := k.rx.trans h.rx
  events := fun e x => k.events e (h.events e x)

theorem asked {s t : State} (h : KeepsQueues s t) :
    t.ml.outstanding.isSome = s.ml.outstanding.isSome := by
  rw [← Link.isSome_owed, h.owed, Link.isSome_owed]

/-- A state with the same queues and the same link. -/
theorem of_eq {t : State} (h : KeepsQueues a s) (hssa : t.ssa = s.ssa) (hjc : t.jc = s.jc)
    (hml : t.ml = s.ml) : KeepsQueues a t :=
  h.trans ⟨fun x => by rwa [hssa], fun _ x => by rwa [hjc], by rw [hjc], by rw [hml], by rw [hml],
    fun _ x => by rwa [hml]⟩

theorem setPocket (h : KeepsQueues a s) (k : Pocket) : KeepsQueues a (s.setPocket p k) :=
  h.of_eq rfl rfl rfl

theorem setRun (h : KeepsQueues a s) (r : RunRecord) : KeepsQueues a (s.setRun p r) :=
  h.of_eq rfl rfl rfl

theorem setTimers (h : KeepsQueues a s) (t : PocketTimers) : KeepsQueues a (s.setTimers p t) :=
  h.of_eq rfl rfl rfl

theorem post (h : KeepsQueues a s) (e : EventKind) (q : Option PocketId) (k : Half) :
    KeepsQueues a (s.post e q k) :=
  h.trans ⟨id, fun _ => id, rfl, Link.owed_post _ _ _, Link.rx_post _ _ _,
    fun _ => Link.mem_post _ _ _ _⟩

theorem postStart (h : KeepsQueues a s) (k : StartKind) : KeepsQueues a (s.postStart p k) :=
  h.trans ⟨fun x => Arbiter.nodup_arrive x _, fun _ => id, rfl, rfl, rfl, fun _ h => h⟩

theorem postRequest (h : KeepsQueues a s) (k : RecordKind) : KeepsQueues a (s.postRequest p k) :=
  h.trans ⟨id, fun _ x => countP_pocket_enqueue x _ _ _, countP_link_enqueue _ _ _ _, rfl,
    rfl, fun _ h => h⟩

theorem changePhase (h : KeepsQueues a s) (ph : Phase) : KeepsQueues a (s.changePhase p ph) :=
  h.trans ⟨fun x => Arbiter.nodup_leave x _ _ _, fun _ => id, rfl, Link.owed_post _ _ _,
    Link.rx_post _ _ _, fun _ => Link.mem_post _ _ _ _⟩

theorem enterPhase (h : KeepsQueues a s) (ph : Phase) : KeepsQueues a (s.enterPhase p ph) :=
  (h.changePhase ph).postRequest _

theorem setFault (h : KeepsQueues a s) (f : PocketFault) : KeepsQueues a (s.setFault p f) := by
  unfold State.setFault
  split
  · exact h
  · exact (h.setPocket _).post _ _ _

theorem takeReference (h : KeepsQueues a s) : KeepsQueues a (s.takeReference p) := by
  unfold State.takeReference
  dsimp only
  split
  · exact h
  · split
    · exact h
    · exact h.setRun _

theorem endHeat (h : KeepsQueues a s) (c : HeatCause) (hold : Bool) :
    KeepsQueues a (s.endHeat p c hold) := by
  unfold State.endHeat
  dsimp only
  refine KeepsQueues.post ?_ _ _ _
  split
  · exact (h.setRun _).enterPhase _
  · exact h.setRun _

theorem enterHeatWait (h : KeepsQueues a s) : KeepsQueues a (s.enterHeatWait p) := by
  unfold State.enterHeatWait
  dsimp only
  split
  · exact h.changePhase _
  · exact (h.changePhase _).setTimers _

theorem enterIgnition (h : KeepsQueues a s) : KeepsQueues a (s.enterIgnition p) := by
  unfold State.enterIgnition
  dsimp only
  split
  · exact (h.changePhase _).endHeat _ _
  · split
    · exact (h.changePhase _).postStart _
    · exact (h.changePhase _).enterHeatWait

theorem enterPurge (h : KeepsQueues a s) : KeepsQueues a (s.enterPurge p) := by
  unfold State.enterPurge
  dsimp only
  split
  · exact (h.changePhase _).endHeat _ _
  · split <;> exact (h.changePhase _).setTimers _

theorem towardHeat (h : KeepsQueues a s) : KeepsQueues a (s.towardHeat p) := by
  unfold State.towardHeat
  dsimp only
  split
  · exact h.enterPurge
  · exact h.enterIgnition

theorem enterHeat (h : KeepsQueues a s) : KeepsQueues a (s.enterHeat p) :=
  (((h.changePhase _).setPocket _).post _ _ _).postRequest _

theorem checkHeatWait (h : KeepsQueues a s) : KeepsQueues a (s.checkHeatWait p) := by
  unfold State.checkHeatWait
  split
  · exact h.enterIgnition
  · exact h

theorem guardTrip (h : KeepsQueues a s) (g : Guard) : KeepsQueues a (s.guardTrip p g) := by
  unfold State.guardTrip
  dsimp only
  split
  · exact (h.setPocket _).post _ _ _
  · exact ((h.setPocket _).post _ _ _).endHeat _ _
  · exact (((h.setPocket _).post _ _ _).setFault _).endHeat _ _

theorem evaluateGuard (h : KeepsQueues a s) (g : Guard) (b : Bool) :
    KeepsQueues a (s.evaluateGuard p g b) := by
  unfold State.evaluateGuard
  split
  · exact h.guardTrip g
  · exact h

theorem drumStall (h : KeepsQueues a s) : KeepsQueues a (s.drumStall p) :=
  (h.setFault _).enterPhase _

theorem enterSpinup (h : KeepsQueues a s) : KeepsQueues a (s.enterSpinup p) :=
  (h.changePhase _).postStart _

theorem checkStartWait (h : KeepsQueues a s) : KeepsQueues a (s.checkStartWait p) := by
  unfold State.checkStartWait
  split
  · exact h.enterSpinup
  · exact h

theorem leaveSpinup (h : KeepsQueues a s) : KeepsQueues a (s.leaveSpinup p) := by
  unfold State.leaveSpinup
  split
  · exact h.towardHeat
  · exact h.enterPhase _
  · exact h.enterPhase _

theorem enterAcRest (h : KeepsQueues a s) : KeepsQueues a (s.enterAcRest p) :=
  (h.changePhase _).setPocket _

theorem endCool (h : KeepsQueues a s) : KeepsQueues a (s.endCool p) := by
  unfold State.endCool
  dsimp only
  split
  · exact ((h.setRun _).enterAcRest).postRequest _
  · exact h.enterPhase _
  · exact h.enterPhase _

theorem startBurst (h : KeepsQueues a s) : KeepsQueues a (s.startBurst p) :=
  (h.changePhase _).setPocket _

theorem pauseDoor (h : KeepsQueues a s) : KeepsQueues a (s.pauseDoor p) :=
  (h.takeReference.setPocket _).enterPhase _

theorem doorOpened (h : KeepsQueues a s) : KeepsQueues a (s.doorOpened p) := by
  unfold State.doorOpened
  dsimp only
  split
  · exact h.pauseDoor
  · split
    · exact h.enterPhase _
    · exact h.enterPhase _
    · exact h.enterPhase _
    · exact h

theorem airflowProven (h : KeepsQueues a s) : KeepsQueues a (s.airflowProven p) := by
  unfold State.airflowProven
  dsimp only
  split
  · split
    · exact h.leaveSpinup
    · exact h
  · exact h.setTimers _
  · exact (h.setTimers _).checkHeatWait
  · exact h

theorem airflowLost (h : KeepsQueues a s) : KeepsQueues a (s.airflowLost p) := by
  unfold State.airflowLost
  dsimp only
  split
  · exact h.setTimers _
  · exact h.enterHeatWait
  · exact h.enterHeatWait
  · exact h.setTimers _
  · exact h

theorem highLimitTrip (h : KeepsQueues a s) : KeepsQueues a (s.highLimitTrip p) := by
  unfold State.highLimitTrip
  dsimp only
  split
  · split
    · exact ((h.setRun _).setFault _).endHeat _ _
    · split
      · exact ((h.setRun _).setFault _).enterHeatWait
      · exact ((h.setRun _).setFault _).enterHeatWait
      · exact (h.setRun _).setFault _
  · exact h

theorem flameSeen (h : KeepsQueues a s) : KeepsQueues a (s.flameSeen p) := by
  unfold State.flameSeen
  dsimp only
  split
  · exact h.enterHeat
  · exact h

theorem inputChanged (h : KeepsQueues a s) (i : ContactInput) (b : Bool) :
    KeepsQueues a (s.inputChanged p i b) := by
  unfold State.inputChanged
  split
  · exact h.checkStartWait
  · exact h.doorOpened
  · exact h.airflowProven
  · exact h.airflowLost
  · exact h.checkHeatWait
  · exact h.highLimitTrip
  · exact h.flameSeen
  · exact h

theorem postInput (h : KeepsQueues a s) (i : ContactInput) (b : Bool) :
    KeepsQueues a (s.postInput p i b) := by
  unfold State.postInput
  split
  · exact h
  all_goals exact h.post _ _ _

theorem rotationProof (h : KeepsQueues a s) : KeepsQueues a (s.rotationProof p) := by
  unfold State.rotationProof
  dsimp only
  split
  · exact (h.setPocket _).leaveSpinup
  · exact (h.setPocket _).setTimers _

theorem burstEnd (h : KeepsQueues a s) : KeepsQueues a (s.burstEnd p) := by
  unfold State.burstEnd
  split
  · exact h.enterPhase _
  · exact h.enterAcRest

theorem lineSound (h : KeepsQueues a s) : KeepsQueues a (s.lineSound p) :=
  h.checkStartWait.checkHeatWait

theorem lineLow (h : KeepsQueues a s) : KeepsQueues a (s.lineLow p) := by
  unfold State.lineLow
  split
  · exact h.enterHeatWait
  · exact h

theorem sensorAfter (h : KeepsQueues a s) (code : Nat) : KeepsQueues a (s.sensorAfter p code) := by
  unfold State.sensorAfter
  dsimp only
  split
  · split
    · exact h
    · split
      · exact ((h.setPocket _).post _ _ _).endHeat _ _
      · exact (h.setPocket _).post _ _ _
  · split
    · exact (h.setPocket _).post _ _ _
    · exact h

theorem tempHighGuard (h : KeepsQueues a s) : KeepsQueues a (s.tempHighGuard p) := by
  unfold State.tempHighGuard
  split
  · exact h
  · exact h.evaluateGuard _ _

theorem countHeat (h : KeepsQueues a s) : KeepsQueues a (s.countHeat p) := by
  unfold State.countHeat
  dsimp only
  split
  · exact h.setRun _
  · exact h

theorem coolEndTest (h : KeepsQueues a s) : KeepsQueues a (s.coolEndTest p) := by
  unfold State.coolEndTest
  dsimp only
  split
  · exact h.endCool
  · split
    · exact (h.post _ _ _).endCool
    · exact h

theorem countCool (h : KeepsQueues a s) : KeepsQueues a (s.countCool p) := by
  unfold State.countCool
  dsimp only
  split
  · exact h.setRun _
  · exact h

theorem coolStep (h : KeepsQueues a s) : KeepsQueues a (s.coolStep p) := by
  unfold State.coolStep
  split
  · exact h.countCool.coolEndTest
  · exact h

theorem windowTest (h : KeepsQueues a s) : KeepsQueues a (s.windowTest p) := by
  unfold State.windowTest
  split
  · split
    · exact h.enterPhase _
    · exact h.setPocket _
    · exact h
  · exact h

theorem spinupVent (h : KeepsQueues a s) : KeepsQueues a (s.spinupVent p) := by
  unfold State.spinupVent
  dsimp only
  split
  · exact ((h.setFault _).endHeat _ _).enterPhase _
  · exact (h.setFault _).enterPhase _
  · exact (h.setFault _).enterPhase _

theorem ventBlocked (h : KeepsQueues a s) : KeepsQueues a (s.ventBlocked p) :=
  (h.setFault _).endHeat _ _

theorem lockout (h : KeepsQueues a s) : KeepsQueues a (s.lockout p) :=
  (h.setFault _).endHeat _ _

theorem trialFailed (h : KeepsQueues a s) : KeepsQueues a (s.trialFailed p) := by
  unfold State.trialFailed
  dsimp only
  split
  · exact ((h.setRun _).post _ _ _).towardHeat
  · exact ((h.setRun _).post _ _ _).lockout

theorem holdPlan (h : KeepsQueues a s) (pl : PlanRecord) : KeepsQueues a (s.holdPlan p pl) :=
  h.trans ⟨id, fun _ => id, rfl, Link.owed_post _ _ _, Link.rx_post _ _ _,
    fun _ => Link.mem_post _ _ _ _⟩

theorem enterPlan (h : KeepsQueues a s) (pl : PlanRecord) (kind : RecordKind) :
    KeepsQueues a (s.enterPlan p pl kind) := by
  rw [State.enterPlan_eq]
  refine (KeepsQueues.postRequest ?_ kind).checkStartWait
  split
  · exact (h.setRun _).enterAcRest
  · exact (h.setRun _).changePhase _

theorem decline (h : KeepsQueues a s) : KeepsQueues a (s.decline p) := by
  rw [State.decline_eq]
  split
  · exact ((h.holdPlan _).endHeat _ _).enterPlan _ _
  · exact (h.holdPlan _).enterPlan _ _

theorem stopEarly (h : KeepsQueues a s) : KeepsQueues a (s.stopEarly p) := by
  unfold State.stopEarly
  dsimp only
  split
  · exact h.enterPhase _
  · split
    · exact h.endHeat _ _
    · exact h.setRun _

theorem stopBy (h : KeepsQueues a s) {u : State} (hu : s.stopBy p = some u) : KeepsQueues a u := by
  unfold State.stopBy at hu
  split at hu
  iterate 2 exact Option.some.inj hu ▸ h.stopEarly
  iterate 4 exact Option.some.inj hu ▸ h.endHeat _ _
  · exact Option.some.inj hu ▸ h.setRun _
  iterate 3 exact Option.some.inj hu ▸ h.enterPhase _
  · exact Option.some.inj hu ▸ h.decline
  all_goals cases hu

theorem clearPocket (h : KeepsQueues a s) : KeepsQueues a (s.clearPocket p) := by
  unfold State.clearPocket
  dsimp only
  split
  · exact (h.setPocket _).enterPhase _
  · split
    · exact (h.setPocket _).setRun _
    · exact h.setPocket _

theorem takeGrant (h : KeepsQueues a s) (r : StartRequest) : KeepsQueues a (s.takeGrant r) := by
  unfold State.takeGrant
  dsimp only
  split
  · exact h.setPocket _
  · exact h.startBurst
  · split
    · exact h.setTimers _
    · exact h
  · exact h

theorem setSlot (h : KeepsQueues a s) {x : Arbiter} (hx : s.ssa.queue.Nodup → x.queue.Nodup) :
    KeepsQueues a { s with ssa := x } :=
  h.trans ⟨hx, fun _ => id, rfl, rfl, rfl, fun _ h => h⟩

theorem arbitrate (h : KeepsQueues a s) : KeepsQueues a s.arbitrate := by
  unfold State.arbitrate
  split
  · rename_i r rest _ _ hq
    exact (h.setSlot fun x => (List.nodup_cons.mp (hq ▸ x)).2).takeGrant r
  · exact h

end KeepsQueues

end Sys2Proof.Machine
end

section
/-! The working copy stays whole, in range and in order: CONFIG_WRITE (R173, R174, R98) and the load of a
stored block (R175) on any working copy. -/

namespace Sys2Proof.Machine

/-! ### Lengths -/

theorem shaped_iff (c : WorkingCopy) : shaped c = true ↔
    c.part.length = 31 ∧ c.inst.u.length = 18 ∧ c.inst.l.length = 18 ∧ c.plan.length = 22 := by
  simp [shaped, and_assoc]

@[simp] theorem length_lowerAfter (prev : Int) (xs : List Int) :
    (lowerAfter prev xs).length = xs.length := by
  induction xs generalizing prev with
  | nil => rfl
  | cons x xs ih => simp [lowerAfter, ih]

@[simp] theorem length_normaliseDecay (xs : List Int) : (normaliseDecay xs).length = xs.length := by
  cases xs <;> simp [normaliseDecay]

@[simp] theorem length_raiseAfter (prev : Int) (xs : List Int) :
    (raiseAfter prev xs).length = xs.length := by
  induction xs generalizing prev with
  | nil => rfl
  | cons x xs ih => simp [raiseAfter, ih]

@[simp] theorem length_upwardPass (xs : List Int) : (upwardPass xs).length = xs.length := by
  cases xs <;> simp [upwardPass]

@[simp] theorem length_downwardPass (xs : List Int) : (downwardPass xs).length = xs.length := by
  induction xs with
  | nil => rfl
  | cons x xs ih =>
    unfold downwardPass
    split
    · rename_i h
      rw [h] at ih
      simp [← ih]
    · rename_i h
      rw [h] at ih
      simp [← ih]

@[simp] theorem length_normaliseCodes (xs : List Int) : (normaliseCodes xs).length = xs.length := by
  simp [normaliseCodes]

@[simp] theorem length_decodeFields (bs : List Byte) (offset : Nat) (rs : List FieldRange) :
    (decodeFields bs offset rs).length = rs.length := by
  induction rs generalizing offset with
  | nil => rfl
  | cons r rs ih => simp [decodeFields, ih]

theorem length_correctFields (rs : List FieldRange) (ds vs : List Int) (hd : ds.length = rs.length)
    (hv : vs.length = rs.length) : (correctFields rs ds vs).length = rs.length := by
  induction rs generalizing ds vs with
  | nil => rfl
  | cons r rs ih =>
    cases ds with
    | nil => simp at hd
    | cons d ds =>
      cases vs with
      | nil => simp at hv
      | cons v vs => simp [correctFields, ih ds vs (by simpa using hd) (by simpa using hv)]

theorem shaped_withDecay {c : WorkingCopy} (h : shaped c = true) : shaped c.withDecay = true := by
  obtain ⟨h1, h2, h3, h4⟩ := (shaped_iff c).mp h
  exact (shaped_iff _).mpr ⟨h1, h2, h3, by simp [WorkingCopy.withDecay, h4]⟩

theorem shaped_withCodes {c : WorkingCopy} (h : shaped c = true) : shaped c.withCodes = true := by
  obtain ⟨h1, h2, h3, h4⟩ := (shaped_iff c).mp h
  exact (shaped_iff _).mpr ⟨by simp [WorkingCopy.withCodes, WorkingCopy.breakCodes, h1], h2, h3, h4⟩

theorem shaped_withThresholds {c : WorkingCopy} (h : shaped c = true) :
    shaped c.withThresholds = true := by
  obtain ⟨h1, h2, h3, h4⟩ := (shaped_iff c).mp h
  exact (shaped_iff _).mpr ⟨by simp [WorkingCopy.withThresholds, h1], h2, h3, h4⟩

theorem shaped_settle {c : WorkingCopy} (h : shaped c = true) (g f : Nat) :
    shaped (c.settle g f) = true := by
  unfold WorkingCopy.settle
  split
  · exact shaped_withDecay h
  · split
    · exact shaped_withCodes h
    · split
      · exact shaped_withThresholds h
      · exact h

theorem shaped_setField {c : WorkingCopy} (h : shaped c = true) (g f : Nat) (v : Int) :
    shaped (c.setField g f v) = true := by
  obtain ⟨h1, h2, h3, h4⟩ := (shaped_iff c).mp h
  refine (shaped_iff _).mpr ?_
  unfold WorkingCopy.setField WorkingCopy.setGroup WorkingCopy.group
  split <;> simp [Pair.set, h1, h2, h3, h4]

/-- A CONFIG_WRITE that is taken writes an accepted value and settles the copy (R173). -/
theorem WorkingCopy.write_eq_some {c c' : WorkingCopy} {g f : Nat} {v : Half} {clamped : Bool}
    (h : c.write g f v = some (c', clamped)) :
    ∃ r taken, fieldRange g f = some r ∧ r.accept (r.decode v) = some taken
      ∧ c' = (c.setField g f taken).settle g f := by
  unfold WorkingCopy.write at h
  split at h
  · cases h
  · rename_i r hr
    split at h
    · cases h
    · rename_i taken htaken
      simp only [Option.some.injEq, Prod.mk.injEq] at h
      exact ⟨r, taken, hr, htaken, h.1.symm⟩

theorem shaped_write {c c' : WorkingCopy} {g f : Nat} {v : Half} {clamped : Bool}
    (hc : shaped c = true) (h : c.write g f v = some (c', clamped)) : shaped c' = true := by
  obtain ⟨r, taken, _, _, rfl⟩ := WorkingCopy.write_eq_some h
  exact shaped_settle (shaped_setField hc g f taken) g f

theorem shaped_defaults : shaped Config.defaults = true := rfl

theorem shaped_correctCopy {c : WorkingCopy} (h : shaped c = true) : shaped (correctCopy c) = true := by
  obtain ⟨h1, h2, h3, h4⟩ := (shaped_iff c).mp h
  refine shaped_withThresholds (shaped_withCodes (shaped_withDecay ((shaped_iff _).mpr ⟨?_, ?_, ?_, ?_⟩)))
  · exact length_correctFields _ _ _ rfl h1
  · exact length_correctFields _ _ _ rfl h2
  · exact length_correctFields _ _ _ rfl h3
  · exact length_correctFields _ _ _ rfl h4

theorem shaped_blockFields (bs : List Byte) : shaped (blockFields bs) = true :=
  (shaped_iff _).mpr ⟨length_decodeFields _ _ _, length_decodeFields _ _ _, length_decodeFields _ _ _,
    length_decodeFields _ _ _⟩

/-- The load of a stored block gives the defaults, or the corrected fields of the block (R175, R176). -/
theorem loadStored_cases (cut : Bool) (bs : List Byte) :
    (loadStored cut bs).1 = Config.defaults
      ∨ (loadStored cut bs).1 = correctCopy (blockFields bs) := by
  unfold loadStored loadBlock
  split
  · exact .inl rfl
  · split
    · exact .inl rfl
    · split
      · exact .inl rfl
      · split
        · exact .inl rfl
        · exact .inr rfl

theorem shaped_loadStored (cut : Bool) (bs : List Byte) : shaped (loadStored cut bs).1 = true := by
  rcases loadStored_cases cut bs with h | h <;> rw [h]
  · exact shaped_defaults
  · exact shaped_correctCopy (shaped_blockFields bs)

/-! ### Values in range -/

/-- A range that holds a value. -/
def FieldRange.sane : FieldRange → Bool
  | .number lo hi | .temperature lo hi => lo ≤ hi
  | .choice cs => !cs.isEmpty
  | .member n => 0 < n
  | .classes => true

theorem clampInt_bounds {lo hi : Int} (h : lo ≤ hi) (v : Int) :
    lo ≤ clampInt lo hi v ∧ clampInt lo hi v ≤ hi := by
  unfold clampInt
  omega

theorem clampChoice_mem {cs : List Int} (h : cs ≠ []) (v : Int) : clampChoice cs v ∈ cs := by
  induction cs with
  | nil => exact absurd rfl h
  | cons c cs ih =>
    unfold clampChoice
    split
    · simp_all
    · simp_all
    · rename_i heq
      cases heq
      split
      · simp
      · rename_i hrest _
        exact List.mem_cons_of_mem _ (ih hrest)

theorem FieldRange.ok_accept {r : FieldRange} (hr : r.sane = true) {v taken : Int}
    (h : r.accept v = some taken) : r.ok taken = true := by
  cases r with
  | number lo hi =>
    cases h
    simpa [FieldRange.ok] using clampInt_bounds (by simpa [FieldRange.sane] using hr) v
  | temperature lo hi =>
    cases h
    simpa [FieldRange.ok] using clampInt_bounds (by simpa [FieldRange.sane] using hr) v
  | choice cs =>
    cases h
    simpa [FieldRange.ok] using clampChoice_mem (by simpa [FieldRange.sane] using hr) v
  | member n =>
    simp only [FieldRange.accept, Option.ite_none_right_eq_some, Option.some.injEq] at h
    exact h.2 ▸ h.1
  | classes =>
    simp only [FieldRange.accept, Option.ite_none_right_eq_some, Option.some.injEq] at h
    exact h.2 ▸ h.1

theorem FieldRange.ok_correct {r : FieldRange} (hr : r.sane = true) {d : Int} (hd : r.ok d = true)
    (v : Int) : r.ok (r.correct d v) = true := by
  cases r with
  | number lo hi =>
    obtain ⟨hlow, hhigh⟩ := clampInt_bounds (of_decide_eq_true hr) v
    exact Bool.and_eq_true_iff.mpr ⟨decide_eq_true hlow, decide_eq_true hhigh⟩
  | temperature lo hi =>
    obtain ⟨hlow, hhigh⟩ := clampInt_bounds (of_decide_eq_true hr) v
    exact Bool.and_eq_true_iff.mpr ⟨decide_eq_true hlow, decide_eq_true hhigh⟩
  | choice cs =>
    simpa [FieldRange.ok, FieldRange.correct] using
      clampChoice_mem (by simpa [FieldRange.sane] using hr) v
  | member n =>
    simp only [FieldRange.correct]
    split
    · assumption
    · exact hd
  | classes =>
    have hlow := Int.emod_nonneg v (b := 128) (by decide)
    have hhigh := Int.emod_lt_of_pos v (b := 128) (by decide)
    simp [FieldRange.correct, FieldRange.ok, hlow, hhigh]

/-- Being in range, field by field. -/
theorem inRanges_iff (rs : List FieldRange) (vs : List Int) : inRanges rs vs = true ↔
    rs.length = vs.length ∧ ∀ i (hr : i < rs.length) (hv : i < vs.length), rs[i].ok vs[i] = true := by
  induction rs generalizing vs with
  | nil => cases vs <;> simp [inRanges]
  | cons r rs ih =>
    cases vs with
    | nil => simp [inRanges]
    | cons v vs =>
      simp only [inRanges, Bool.and_eq_true, ih, List.length_cons, Nat.add_right_cancel_iff]
      constructor
      · rintro ⟨h0, hl, h⟩
        refine ⟨hl, fun i hr hv => ?_⟩
        cases i with
        | zero => exact h0
        | succ i => exact h i (by omega) (by omega)
      · rintro ⟨hl, h⟩
        exact ⟨h 0 (by omega) (by omega), hl, fun i hr hv => h (i + 1) (by omega) (by omega)⟩

theorem inRanges_append {rs rs' : List FieldRange} {vs vs' : List Int} (h : inRanges rs vs = true)
    (h' : inRanges rs' vs' = true) : inRanges (rs ++ rs') (vs ++ vs') = true := by
  induction rs generalizing vs with
  | nil => cases vs <;> simp_all [inRanges]
  | cons r rs ih => cases vs <;> simp_all [inRanges]

theorem inRanges_take {rs : List FieldRange} {vs : List Int} (h : inRanges rs vs = true) (n : Nat) :
    inRanges (rs.take n) (vs.take n) = true := by
  rw [inRanges_iff] at h ⊢
  refine ⟨by simp [h.1], fun i hr hv => ?_⟩
  simpa using h.2 i (by simp at hr; omega) (by simp at hv; omega)

theorem inRanges_drop {rs : List FieldRange} {vs : List Int} (h : inRanges rs vs = true) (n : Nat) :
    inRanges (rs.drop n) (vs.drop n) = true := by
  rw [inRanges_iff] at h ⊢
  refine ⟨by simp [h.1], fun i hr hv => ?_⟩
  simpa using h.2 (n + i) (by simp at hr; omega) (by simp at hv; omega)

theorem inRanges_set {rs : List FieldRange} {vs : List Int} (h : inRanges rs vs = true) {i : Nat}
    {r : FieldRange} (hr : rs[i]? = some r) {v : Int} (hv : r.ok v = true) :
    inRanges rs (vs.set i v) = true := by
  rw [inRanges_iff] at h ⊢
  refine ⟨by simp [h.1], fun j hj hj' => ?_⟩
  rw [List.getElem_set]
  split
  · rename_i heq
    subst heq
    rw [List.getElem?_eq_getElem hj, Option.some.injEq] at hr
    exact hr ▸ hv
  · exact h.2 j hj (by simpa using hj')

theorem inRanges_replicate {n : Nat} {r : FieldRange} {vs : List Int} :
    inRanges (List.replicate n r) vs = true ↔ vs.length = n ∧ ∀ v ∈ vs, r.ok v = true := by
  induction n generalizing vs with
  | zero => cases vs <;> simp [inRanges]
  | succ n ih =>
    cases vs with
    | nil => simp [List.replicate_succ, inRanges]
    | cons v vs => simp [List.replicate_succ, inRanges, ih, and_left_comm]

theorem inRanges_correctFields {rs : List FieldRange} (hs : rs.all (·.sane) = true) {ds vs : List Int}
    (hd : inRanges rs ds = true) (hv : vs.length = rs.length) :
    inRanges rs (correctFields rs ds vs) = true := by
  induction rs generalizing ds vs with
  | nil => rfl
  | cons r rs ih =>
    obtain ⟨hr, hrs⟩ : r.sane = true ∧ rs.all (·.sane) = true := by simpa using hs
    cases ds with
    | nil => cases hd
    | cons d ds =>
      obtain ⟨hd0, hds⟩ : r.ok d = true ∧ inRanges rs ds = true := by simpa [inRanges] using hd
      cases vs with
      | nil => simp at hv
      | cons v vs =>
        simp [correctFields, inRanges, FieldRange.ok_correct hr hd0 v,
          ih hrs hds (by simpa using hv)]

/-! ### The decay table (R174) -/

theorem lowerAfter_le (prev : Int) (xs : List Int) : ∀ y ∈ lowerAfter prev xs, y ≤ prev := by
  induction xs generalizing prev with
  | nil => simp [lowerAfter]
  | cons x xs ih =>
    intro y hy
    simp only [lowerAfter, List.mem_cons] at hy
    rcases hy with rfl | hy
    · split <;> omega
    · have := ih _ y hy
      split at this <;> omega

theorem lowerAfter_sorted (prev : Int) (xs : List Int) : (lowerAfter prev xs).Pairwise (· ≥ ·) := by
  induction xs generalizing prev with
  | nil => exact .nil
  | cons x xs ih => exact .cons (lowerAfter_le _ xs) (ih _)

theorem normaliseDecay_sorted (xs : List Int) : (normaliseDecay xs).Pairwise (· ≥ ·) := by
  cases xs with
  | nil => exact .nil
  | cons x xs => exact .cons (lowerAfter_le x xs) (lowerAfter_sorted x xs)

theorem lowerAfter_bounds {lo hi prev : Int} {xs : List Int} (hp : lo ≤ prev ∧ prev ≤ hi)
    (h : ∀ x ∈ xs, lo ≤ x ∧ x ≤ hi) : ∀ y ∈ lowerAfter prev xs, lo ≤ y ∧ y ≤ hi := by
  induction xs generalizing prev with
  | nil => simp [lowerAfter]
  | cons x xs ih =>
    have hx := h x (by simp)
    have hy : lo ≤ (if x > prev then prev else x) ∧ (if x > prev then prev else x) ≤ hi := by
      split <;> assumption
    intro y hmem
    simp only [lowerAfter, List.mem_cons] at hmem
    rcases hmem with rfl | hmem
    · exact hy
    · exact ih hy (fun z hz => h z (List.mem_cons_of_mem _ hz)) y hmem

theorem normaliseDecay_bounds {lo hi : Int} {xs : List Int} (h : ∀ x ∈ xs, lo ≤ x ∧ x ≤ hi) :
    ∀ y ∈ normaliseDecay xs, lo ≤ y ∧ y ≤ hi := by
  cases xs with
  | nil => simp [normaliseDecay]
  | cons x xs =>
    intro y hy
    rcases List.mem_cons.mp hy with rfl | hy
    · exact h y (by simp)
    · exact lowerAfter_bounds (h x (by simp)) (fun z hz => h z (List.mem_cons_of_mem _ hz)) y hy

/-! ### The breakpoint codes (R174) -/

/-- Each code of the upward pass is above the code before it, or at the top of the scale. -/
theorem raiseAfter_chain (prev : Int) (xs : List Int) :
    (prev :: raiseAfter prev xs).IsChain (fun a b => min 1023 (a + 1) ≤ b) := by
  induction xs generalizing prev with
  | nil => simp [raiseAfter]
  | cons x xs ih =>
    have := ih (if x ≤ prev then min 1023 (prev + 1) else x)
    refine .cons_cons ?_ this
    split <;> omega

theorem raiseAfter_bounds {prev : Int} {xs : List Int} (hp : 0 ≤ prev ∧ prev ≤ 1023)
    (h : ∀ x ∈ xs, 0 ≤ x ∧ x ≤ 1023) : ∀ y ∈ raiseAfter prev xs, 0 ≤ y ∧ y ≤ 1023 := by
  induction xs generalizing prev with
  | nil => simp [raiseAfter]
  | cons x xs ih =>
    have hx := h x (by simp)
    have hy : 0 ≤ (if x ≤ prev then min 1023 (prev + 1) else x)
        ∧ (if x ≤ prev then min 1023 (prev + 1) else x) ≤ 1023 := by
      split <;> omega
    intro y hmem
    simp only [raiseAfter, List.mem_cons] at hmem
    rcases hmem with rfl | hmem
    · exact hy
    · exact ih hy (fun z hz => h z (List.mem_cons_of_mem _ hz)) y hmem

theorem downwardPass_sorted (xs : List Int) : (downwardPass xs).Pairwise (· < ·) := by
  induction xs with
  | nil => exact .nil
  | cons x xs ih =>
    unfold downwardPass
    split
    · exact List.pairwise_singleton _ _
    · rename_i y ys h
      rw [h] at ih
      refine .cons (fun z hz => ?_) ih
      have hyz : y ≤ z := by
        rcases List.mem_cons.mp hz with rfl | hz
        · exact le_refl _
        · exact le_of_lt ((List.pairwise_cons.mp ih).1 z hz)
      split <;> omega

/-- The downward pass after an upward one takes nothing below zero, over nine codes. -/
theorem downwardPass_bounds {xs : List Int} (hchain : xs.IsChain (fun a b => min 1023 (a + 1) ≤ b))
    (h : ∀ x ∈ xs, 0 ≤ x ∧ x ≤ 1023) (hlen : xs.length ≤ 1024) :
    (∀ y ∈ downwardPass xs, 0 ≤ y ∧ y ≤ 1023)
      ∧ ∀ x rest y ys, xs = x :: rest → downwardPass xs = y :: ys →
          min x (1023 - rest.length) ≤ y := by
  induction xs with
  | nil => simp [downwardPass]
  | cons x xs ih =>
    have hx := h x (by simp)
    obtain ⟨hall, hhead⟩ := ih hchain.tail (fun z hz => h z (List.mem_cons_of_mem _ hz))
      (by simp at hlen; omega)
    cases xs with
    | nil =>
      simp only [downwardPass]
      refine ⟨by simpa using hx, ?_⟩
      rintro _ _ _ _ ⟨rfl, rfl⟩ ⟨rfl, rfl⟩
      omega
    | cons x1 rest =>
      obtain ⟨hstep, _⟩ := List.isChain_cons_cons.mp hchain
      have hx1 := h x1 (by simp)
      obtain ⟨y, ys, hy⟩ : ∃ y ys, downwardPass (x1 :: rest) = y :: ys := by
        cases hd : downwardPass (x1 :: rest) with
        | nil => have := length_downwardPass (x1 :: rest); simp [hd] at this
        | cons y ys => exact ⟨y, ys, rfl⟩
      have hylow := hhead x1 rest y ys rfl hy
      have hyb := hall y (by simp [hy])
      have heq : downwardPass (x :: x1 :: rest) = (if x ≥ y then y - 1 else x) :: y :: ys := by
        rw [downwardPass, hy]
      simp only [List.length_cons] at hlen
      have hlow : min x (1023 - ((rest.length + 1 : Nat) : Int)) ≤ (if x ≥ y then y - 1 else x) := by
        push_cast
        split <;> omega
      refine ⟨fun z hz => ?_, ?_⟩
      · rw [heq] at hz
        rcases List.mem_cons.mp hz with rfl | hz
        · refine ⟨?_, by split <;> omega⟩
          push_cast at hlow
          omega
        · exact hall z (hy ▸ hz)
      · rintro a as z zs ⟨rfl, rfl⟩ hz
        rw [heq] at hz
        cases hz
        simpa using hlow

theorem normaliseCodes_sorted (xs : List Int) : (normaliseCodes xs).Pairwise (· < ·) :=
  downwardPass_sorted _

theorem normaliseCodes_bounds {xs : List Int} (h : ∀ x ∈ xs, 0 ≤ x ∧ x ≤ 1023)
    (hlen : xs.length ≤ 1024) : ∀ y ∈ normaliseCodes xs, 0 ≤ y ∧ y ≤ 1023 := by
  cases xs with
  | nil => simp [normaliseCodes, upwardPass, downwardPass]
  | cons x xs =>
    have hx := h x (by simp)
    refine (downwardPass_bounds (raiseAfter_chain x xs) (fun z hz => ?_) (by simpa using hlen)).1
    rcases List.mem_cons.mp hz with rfl | hz
    · exact hx
    · exact raiseAfter_bounds hx (fun w hw => h w (List.mem_cons_of_mem _ hw)) z hz

/-! ### The whole copy -/

/-- The parts of copySafe. -/
structure CopySafe (c : WorkingCopy) : Prop where
  part : inRanges partRanges c.part = true
  instU : inRanges instRanges c.inst.u = true
  instL : inRanges instRanges c.inst.l = true
  plan : inRanges planRanges c.plan = true
  decay : (c.plan.drop 6).Pairwise (· ≥ ·)
  codes : c.breakCodes.Pairwise (· < ·)
  floor : c.partField 8 < c.partField 7
  wake : c.partField 7 ≤ c.partField 5
  arm : c.partField 5 ≤ c.partField 6

theorem copySafe_iff (c : WorkingCopy) : copySafe c = true ↔ CopySafe c := by
  simp only [copySafe, Bool.and_eq_true, decide_eq_true_eq]
  constructor
  · rintro ⟨⟨⟨⟨⟨⟨⟨⟨h1, h2⟩, h3⟩, h4⟩, h5⟩, h6⟩, h7⟩, h8⟩, h9⟩
    exact ⟨h1, h2, h3, h4, h5, h6, h7, h8, h9⟩
  · rintro ⟨h1, h2, h3, h4, h5, h6, h7, h8, h9⟩
    exact ⟨⟨⟨⟨⟨⟨⟨⟨h1, h2⟩, h3⟩, h4⟩, h5⟩, h6⟩, h7⟩, h8⟩, h9⟩

theorem copySafe_defaults : copySafe Config.defaults = true := by decide

theorem ok_number_iff {lo hi v : Int} : (FieldRange.number lo hi).ok v = true ↔ lo ≤ v ∧ v ≤ hi := by
  simp [FieldRange.ok]

/-- A group with the decay table made non-increasing is in range. -/
theorem inRanges_withDecay {vs : List Int} (h : inRanges planRanges vs = true) :
    inRanges planRanges (vs.take 6 ++ normaliseDecay (vs.drop 6)) = true := by
  obtain ⟨hlen, hall⟩ := inRanges_replicate.mp
    (inRanges_drop h 6 : inRanges (List.replicate 16 (.number 0 256)) (vs.drop 6) = true)
  refine inRanges_append (rs := planRanges.take 6) (rs' := List.replicate 16 (.number 0 256))
    (inRanges_take h 6) (inRanges_replicate.mpr ⟨by simpa using hlen, fun v hv => ?_⟩)
  exact ok_number_iff.mpr (normaliseDecay_bounds (fun x hx => ok_number_iff.mp (hall x hx)) v hv)

theorem inRanges_codes {vs : List Int} (h : inRanges partRanges vs = true) :
    ((vs.drop 13).take 9).length = 9 ∧ ∀ v ∈ (vs.drop 13).take 9, 0 ≤ v ∧ v ≤ 1023 := by
  have hcodes : inRanges (List.replicate 9 (.number 0 1023)) ((vs.drop 13).take 9) = true :=
    inRanges_take (inRanges_drop h 13) 9
  obtain ⟨hlen, hall⟩ := inRanges_replicate.mp hcodes
  exact ⟨hlen, fun v hv => ok_number_iff.mp (hall v hv)⟩

/-- A group with the breakpoint codes made ascending is in range. -/
theorem inRanges_withCodes {vs : List Int} (h : inRanges partRanges vs = true) :
    inRanges partRanges (vs.take 13 ++ normaliseCodes ((vs.drop 13).take 9) ++ vs.drop 22) = true := by
  obtain ⟨hlen, hall⟩ := inRanges_codes h
  refine inRanges_append (rs := partRanges.take 13 ++ List.replicate 9 (.number 0 1023))
    (rs' := partRanges.drop 22) (inRanges_append (inRanges_take h 13)
      (inRanges_replicate.mpr ⟨(length_normaliseCodes _).trans hlen, fun v hv => ?_⟩))
    (inRanges_drop h 22)
  exact ok_number_iff.mpr (normaliseCodes_bounds hall (by omega) v hv)

theorem length_of_inRanges {rs : List FieldRange} {vs : List Int} (h : inRanges rs vs = true) :
    vs.length = rs.length := ((inRanges_iff rs vs).mp h).1.symm

/-- The range of one field of the part group in range. -/
theorem partField_bounds {c : WorkingCopy} (h : inRanges partRanges c.part = true) {i : Nat}
    {lo hi : Int} (hr : partRanges[i]? = some (.number lo hi)) :
    lo ≤ c.partField i ∧ c.partField i ≤ hi := by
  obtain ⟨hlen, hall⟩ := (inRanges_iff _ _).mp h
  obtain ⟨hi', hget⟩ := List.getElem?_eq_some_iff.mp hr
  have hv : i < c.part.length := by omega
  have := hall i hi' hv
  rw [hget, ok_number_iff] at this
  simpa [WorkingCopy.partField, List.getD_eq_getElem?_getD, List.getElem?_eq_getElem hv] using this

/-- The threshold order keeps the fields in range (R98). -/
theorem inRanges_withThresholds {c : WorkingCopy} (h : inRanges partRanges c.part = true) :
    inRanges partRanges c.withThresholds.part = true := by
  have h5 := partField_bounds h (i := 5) rfl
  have h6 := partField_bounds h (i := 6) rfl
  have h7 := partField_bounds h (i := 7) rfl
  have h8 := partField_bounds h (i := 8) rfl
  refine inRanges_set (r := .number 80 250) (inRanges_set (r := .number 80 200) (inRanges_set
    (r := .number 50 200) h rfl ?_) rfl ?_) rfl ?_ <;> rw [ok_number_iff] <;> omega

/-- A field of the part group after another was set. -/
theorem partField_set (c : WorkingCopy) (i j : Nat) (v : Int) (hj : i < c.part.length) :
    ({ c with part := c.part.set i v } : WorkingCopy).partField j
      = if j = i then v else c.partField j := by
  unfold WorkingCopy.partField
  by_cases h : j = i
  · subst h
    simp [List.getD_eq_getElem?_getD, hj]
  · simp [List.getD_eq_getElem?_getD, h, List.getElem?_set_ne (Ne.symm h)]

theorem partField_withThresholds {c : WorkingCopy} (hlen : c.part.length = 31) :
    c.withThresholds.partField 8 = c.partField 8
      ∧ c.withThresholds.partField 7 = max (c.partField 7) (c.partField 8 + 1)
      ∧ c.withThresholds.partField 5 = max (c.partField 5) (c.withThresholds.partField 7)
      ∧ c.withThresholds.partField 6 = max (c.partField 6) (c.withThresholds.partField 5) := by
  simp [WorkingCopy.withThresholds, WorkingCopy.partField, hlen,
    List.getD_eq_getElem?_getD]

theorem breakCodes_withThresholds (c : WorkingCopy) : c.withThresholds.breakCodes = c.breakCodes := by
  simp [WorkingCopy.withThresholds, WorkingCopy.breakCodes, List.drop_set]

theorem breakCodes_withCodes {c : WorkingCopy} (hlen : c.part.length = 31) :
    c.withCodes.breakCodes = normaliseCodes c.breakCodes := by
  have h13 : (c.part.take 13).length = 13 := by simp [hlen]
  have h9 : (normaliseCodes c.breakCodes).length = 9 := by simp [WorkingCopy.breakCodes, hlen]
  unfold WorkingCopy.withCodes
  rw [WorkingCopy.breakCodes, List.append_assoc, List.drop_left' h13, List.take_left' h9]

/-- Below the breakpoint codes a normalisation of them changes no field. -/
theorem partField_withCodes {c : WorkingCopy} (hlen : c.part.length = 31) {i : Nat} (hi : i < 13) :
    c.withCodes.partField i = c.partField i := by
  unfold WorkingCopy.withCodes WorkingCopy.partField
  simp only [List.getD_eq_getElem?_getD]
  rw [List.append_assoc, List.getElem?_append_left (by simp [hlen, hi]), List.getElem?_take_of_lt hi]

theorem drop_withDecay {c : WorkingCopy} (hlen : c.plan.length = 22) :
    c.withDecay.plan.drop 6 = normaliseDecay (c.plan.drop 6) := by
  have h6 : (c.plan.take 6).length = 6 := by simp [hlen]
  exact List.drop_left' h6

/-- Every field in range, the copy with all three orders made is safe. -/
theorem copySafe_ordered {c : WorkingCopy} (hp : inRanges partRanges c.part = true)
    (hu : inRanges instRanges c.inst.u = true) (hl : inRanges instRanges c.inst.l = true)
    (hplan : inRanges planRanges c.plan = true) :
    CopySafe c.withDecay.withCodes.withThresholds := by
  have hcodes : inRanges partRanges c.withDecay.withCodes.part = true := inRanges_withCodes hp
  have hlen : c.withDecay.withCodes.part.length = 31 := length_of_inRanges hcodes
  obtain ⟨_, h7, h5, h6⟩ := partField_withThresholds hlen
  refine ⟨inRanges_withThresholds hcodes, hu, hl, inRanges_withDecay hplan, ?_, ?_, ?_, ?_, ?_⟩
  · exact drop_withDecay (length_of_inRanges hplan) ▸ normaliseDecay_sorted _
  · rw [breakCodes_withThresholds,
      breakCodes_withCodes (c := c.withDecay) (length_of_inRanges hp)]
    exact normaliseCodes_sorted _
  · omega
  · omega
  · omega

theorem copySafe_correctCopy {c : WorkingCopy} (h : shaped c = true) :
    copySafe (correctCopy c) = true := by
  obtain ⟨h1, h2, h3, h4⟩ := (shaped_iff c).mp h
  refine (copySafe_iff _).mpr (copySafe_ordered ?_ ?_ ?_ ?_)
  · exact inRanges_correctFields (by decide) (by decide) h1
  · exact inRanges_correctFields (by decide) (by decide) h2
  · exact inRanges_correctFields (by decide) (by decide) h3
  · exact inRanges_correctFields (by decide) (by decide) h4

theorem copySafe_loadStored (cut : Bool) (bs : List Byte) : copySafe (loadStored cut bs).1 = true := by
  rcases loadStored_cases cut bs with h | h <;> rw [h]
  · exact copySafe_defaults
  · exact copySafe_correctCopy (shaped_blockFields bs)

/-! ### CONFIG_WRITE -/

theorem sane_of_fieldRange {g f : Nat} {r : FieldRange} (h : fieldRange g f = some r) :
    r.sane = true := by
  have hgroup : ∀ rs : List FieldRange, rs.all (·.sane) = true → rs[f]? = some r → r.sane = true :=
    fun rs hall hr => List.all_eq_true.mp hall r (List.mem_of_getElem? hr)
  unfold fieldRange groupRanges at h
  split at h
  · exact hgroup partRanges (by decide) h
  · exact hgroup instRanges (by decide) h
  · exact hgroup instRanges (by decide) h
  · exact hgroup planRanges (by decide) h
  · cases h

/-- A written field of the plan group, settled (R173, R174). -/
theorem CopySafe.write_plan {c : WorkingCopy} (h : CopySafe c) {f : Nat} {r : FieldRange}
    (hr : planRanges[f]? = some r) {v : Int} (hv : r.ok v = true) :
    CopySafe ((c.setField 4 f v).settle 4 f) := by
  have hplan : inRanges planRanges (c.plan.set f v) = true := inRanges_set h.plan hr hv
  by_cases hf : 6 ≤ f
  · have hset : (c.setField 4 f v).settle 4 f = (c.setField 4 f v).withDecay := by
      simp [WorkingCopy.settle, hf]
    rw [hset]
    exact { h with
      plan := inRanges_withDecay hplan
      decay := drop_withDecay (c := c.setField 4 f v) (length_of_inRanges hplan)
        ▸ normaliseDecay_sorted _ }
  · have hset : (c.setField 4 f v).settle 4 f = c.setField 4 f v := by
      simp [WorkingCopy.settle, hf]
    rw [hset]
    refine { h with plan := hplan, decay := ?_ }
    change ((c.plan.set f v).drop 6).Pairwise _
    rw [List.drop_set_of_lt (by omega)]
    exact h.decay

/-- A written field of the part group, settled (R173, R174, R98). -/
theorem CopySafe.write_part {c : WorkingCopy} (h : CopySafe c) {f : Nat} {r : FieldRange}
    (hr : partRanges[f]? = some r) {v : Int} (hv : r.ok v = true) :
    CopySafe ((c.setField 1 f v).settle 1 f) := by
  have hpart : inRanges partRanges (c.part.set f v) = true := inRanges_set h.part hr hv
  have hlen : c.part.length = 31 := length_of_inRanges h.part
  have hf31 : f < c.part.length := by
    rw [hlen]
    exact (List.getElem?_eq_some_iff.mp hr).1
  have hfield : ∀ j, (c.setField 1 f v).partField j = if j = f then v else c.partField j :=
    fun j => partField_set c f j v hf31
  by_cases hcodes : 13 ≤ f
  · have hset : (c.setField 1 f v).settle 1 f = (c.setField 1 f v).withCodes := by
      simp [WorkingCopy.settle, hcodes]
    have hkeep : ∀ j, j < 13 → (c.setField 1 f v).withCodes.partField j = c.partField j := by
      intro j hj
      rw [partField_withCodes (c := c.setField 1 f v) (length_of_inRanges hpart) hj, hfield,
        if_neg (by omega)]
    rw [hset]
    refine { h with part := inRanges_withCodes hpart, codes := ?_, floor := ?_, wake := ?_, arm := ?_ }
    · rw [breakCodes_withCodes (c := c.setField 1 f v) (length_of_inRanges hpart)]
      exact normaliseCodes_sorted _
    · rw [hkeep 8 (by omega), hkeep 7 (by omega)]; exact h.floor
    · rw [hkeep 7 (by omega), hkeep 5 (by omega)]; exact h.wake
    · rw [hkeep 5 (by omega), hkeep 6 (by omega)]; exact h.arm
  · have hcodesKept : (c.setField 1 f v).breakCodes = c.breakCodes := by
      change ((c.part.set f v).drop 13).take 9 = (c.part.drop 13).take 9
      rw [List.drop_set_of_lt (by omega)]
    by_cases hth : 5 ≤ f ∧ f ≤ 8
    · have hset : (c.setField 1 f v).settle 1 f = (c.setField 1 f v).withThresholds := by
        simp [WorkingCopy.settle, hcodes, hth]
      rw [hset]
      obtain ⟨_, h7, h5, h6⟩ := partField_withThresholds (c := c.setField 1 f v)
        (length_of_inRanges hpart)
      refine { h with part := inRanges_withThresholds hpart, codes := ?_, floor := ?_, wake := ?_,
                      arm := ?_ }
      · rw [breakCodes_withThresholds, hcodesKept]; exact h.codes
      · omega
      · omega
      · omega
    · have hset : (c.setField 1 f v).settle 1 f = c.setField 1 f v := by
        simp only [WorkingCopy.settle]
        rw [if_neg (by omega), if_neg (by omega), if_neg (by omega)]
      have hkeep : ∀ j, 5 ≤ j → j ≤ 8 → (c.setField 1 f v).partField j = c.partField j := by
        intro j h5 h8
        rw [hfield, if_neg (by omega)]
      rw [hset]
      refine { h with part := hpart, codes := hcodesKept ▸ h.codes, floor := ?_, wake := ?_, arm := ?_ }
      · rw [hkeep 8 (by omega) (by omega), hkeep 7 (by omega) (by omega)]; exact h.floor
      · rw [hkeep 7 (by omega) (by omega), hkeep 5 (by omega) (by omega)]; exact h.wake
      · rw [hkeep 5 (by omega) (by omega), hkeep 6 (by omega) (by omega)]; exact h.arm

/-- The order-keeping work leaves a pocket installation group as written. -/
theorem settle_inst (c : WorkingCopy) {g : Nat} (hg : g = 2 ∨ g = 3) (f : Nat) : c.settle g f = c := by
  simp only [WorkingCopy.settle]
  rw [if_neg (by omega), if_neg (by omega), if_neg (by omega)]

theorem copySafe_write {c c' : WorkingCopy} {g f : Nat} {v : Half} {clamped : Bool}
    (hc : copySafe c = true) (h : c.write g f v = some (c', clamped)) : copySafe c' = true := by
  obtain ⟨r, taken, hr, htaken, rfl⟩ := WorkingCopy.write_eq_some h
  have hok := FieldRange.ok_accept (sane_of_fieldRange hr) htaken
  rw [copySafe_iff] at hc ⊢
  unfold fieldRange groupRanges at hr
  split at hr
  · exact hc.write_part hr hok
  · rw [settle_inst _ (.inl rfl)]
    exact { hc with instU := inRanges_set hc.instU hr hok }
  · rw [settle_inst _ (.inr rfl)]
    exact { hc with instL := inRanges_set hc.instL hr hok }
  · exact hc.write_plan hr hok
  · cases hr

end Sys2Proof.Machine
end

section
/-! What every command keeps. Keeps s t says that t follows from s with the same waiting commands at the same
instant, and has each of the properties of O55 to O59 that s has. It can be chained, so each helper of the
model is shown to keep once, and each command is a chain of helpers. -/

namespace Sys2Proof.Machine

/-! ### The properties, part by part -/

/-- The replies that wait in the transmitter. -/
def Link.replies (l : Link) : Nat := l.tx.countP (fun f => !f.reject)

/-- The parts of eventsSafe and queuesSafe that the work of a command keeps at every moment of it. -/
structure QueuesBound (s : State) : Prop where
  events : s.ml.events.length ≤ 16
  starts : s.ssa.queue.Nodup
  writes : ∀ q, s.jc.queue.countP (·.ofPocket q) ≤ 1
  replies : s.ml.replies ≤ if s.ml.outstanding.isSome then 1 else 0
  links : s.jc.linkRequests = 0 ∨ s.jc.linkRequests = 1
    ∧ (s.ml.orphan = true ∨ s.ml.outstanding.isSome = true ∧ s.ml.replies = 0)

/-- The parts of eventsSafe and queuesSafe. -/
structure QueuesSafe (s : State) : Prop extends QueuesBound s where
  served : s.inRun = true → s.ssa.slot = none → s.ssa.queue = []

theorem queuesSafe_iff (s : State) :
    s.eventsSafe = true ∧ s.queuesSafe = true ↔ QueuesSafe s := by
  have hlen : s.ml.outstanding.toList.length = if s.ml.outstanding.isSome then 1 else 0 := by
    cases s.ml.outstanding <;> rfl
  have hserved : (!s.inRun || s.ssa.slot.isSome || s.ssa.queue.isEmpty) = true ↔
      (s.inRun = true → s.ssa.slot = none → s.ssa.queue = []) := by
    cases s.inRun <;> cases s.ssa.slot <;> simp
  have hlinks : (s.jc.linkRequests == 0 || (s.jc.linkRequests == 1
        && (s.ml.orphan || (s.ml.outstanding.isSome && s.ml.replies == 0)))) = true ↔
      (s.jc.linkRequests = 0 ∨ s.jc.linkRequests = 1
        ∧ (s.ml.orphan = true ∨ s.ml.outstanding.isSome = true ∧ s.ml.replies = 0)) := by
    simp
  unfold State.eventsSafe State.queuesSafe State.linkSafe
  simp only [Bool.and_eq_true, decide_eq_true_eq, hlen, hserved]
  constructor
  · rintro ⟨h1, ⟨⟨⟨h2, h3⟩, h4⟩, h5⟩, h6, h7⟩
    exact ⟨⟨h1, h2, fun q => by cases q <;> assumption, h6, hlinks.mp h7⟩, h3⟩
  · rintro ⟨⟨h1, h2, h4, h5, h6⟩, h3⟩
    exact ⟨h1, ⟨⟨⟨h2, h3⟩, h4 .U⟩, h4 .L⟩, h5, hlinks.mpr h6⟩

/-- The parts of journalSafe. -/
theorem journalSafe_iff (s : State) : s.journalSafe = true ↔
    Memory.wf s.journal = true ∧ shaped s.cfg = true
      ∧ ∀ job n ph, s.jc.engine = .busy job n ph → job.fits = true := by
  unfold State.journalSafe
  cases s.jc.engine <;> simp [and_assoc]

/-- The parts of creditSafe. -/
theorem creditSafe_iff (s : State) (p : PocketId) : s.creditSafe p = true ↔
    (s.pocket p).run.d ≤ (s.pocket p).run.t ∧ (s.pocket p).run.t ≤ 57600
      ∧ ∀ pl, s.rp.get p = some pl → pl.applied = true
          ∨ s.inRun = false ∧ pl.figures.dPrime ≤ (s.pocket p).run.t := by
  unfold State.creditSafe
  cases s.rp.get p <;> simp [and_assoc]

/-- In RUN every plan is applied. -/
theorem creditSafe_iff_of_inRun {s : State} (h : s.inRun = true) (p : PocketId) :
    s.creditSafe p = true ↔
      (s.pocket p).run.d ≤ (s.pocket p).run.t ∧ (s.pocket p).run.t ≤ 57600
        ∧ ∀ pl, s.rp.get p = some pl → pl.applied = true := by
  simp [creditSafe_iff, h]

/-- The motor outputs of a pocket are inactive. -/
def Pocket.off (k : Pocket) : Prop := k.motorRun = false ∧ k.motorRev = false

theorem outputsSafe_iff (s : State) :
    s.outputsSafe = true ↔ (s.inRun = false → s.psq.u.off ∧ s.psq.l.off) := by
  unfold State.outputsSafe Pocket.off
  cases s.inRun <;> simp [and_assoc]

/-! ### Keeping them -/

/-- All but the queues. -/
structure KeepsData (s t : State) : Prop where
  pending : t.pending = s.pending
  time : t.time = s.time
  journal : s.journalSafe = true → t.journalSafe = true
  copy : copySafe s.cfg = true → copySafe t.cfg = true
  credit : (∀ p, s.creditSafe p = true) → ∀ p, t.creditSafe p = true
  outputs : s.outputsSafe = true → t.outputsSafe = true

/-- All of them. -/
structure Keeps (s t : State) : Prop extends KeepsData s t where
  queues : QueuesSafe s → QueuesSafe t

theorem KeepsData.trans {a b c : State} (h : KeepsData a b) (k : KeepsData b c) : KeepsData a c where
  pending := k.pending.trans h.pending
  time := k.time.trans h.time
  journal := fun x => k.journal (h.journal x)
  copy := fun x => k.copy (h.copy x)
  credit := fun x => k.credit (h.credit x)
  outputs := fun x => k.outputs (h.outputs x)

theorem KeepsData.refl (s : State) : KeepsData s s := ⟨rfl, rfl, id, id, id, id⟩

theorem Keeps.refl (s : State) : Keeps s s := { KeepsData.refl s with queues := id }

theorem Keeps.trans {a b c : State} (h : Keeps a b) (k : Keeps b c) : Keeps a c :=
  { h.toKeepsData.trans k.toKeepsData with queues := fun x => k.queues (h.queues x) }

/-- A change outside of what the properties read. -/
theorem KeepsData.of_eq {s t : State} (hpending : t.pending = s.pending) (htime : t.time = s.time)
    (hcfg : t.cfg = s.cfg) (hpower : t.ss.power = s.ss.power) (hpsq : t.psq = s.psq)
    (hengine : t.jc.engine = s.jc.engine) (hrp : t.rp = s.rp) (hjournal : t.journal = s.journal) :
    KeepsData s t := by
  have hrun : t.inRun = s.inRun := by simp only [State.inRun, hpower]
  refine ⟨hpending, htime, fun h => ?_, fun h => hcfg ▸ h, fun h p => ?_, fun h => ?_⟩
  · rw [journalSafe_iff] at h ⊢
    rwa [hjournal, hcfg, hengine]
  · have := h p
    rw [creditSafe_iff] at this ⊢
    simpa only [State.pocket, hpsq, hrp, hrun] using this
  · rw [outputsSafe_iff] at h ⊢
    rwa [hrun, hpsq]

theorem QueuesSafe.of_eq {s t : State} (h : QueuesSafe s) (hpower : t.ss.power = s.ss.power)
    (hssa : t.ssa = s.ssa) (hjc : t.jc = s.jc) (hml : t.ml = s.ml) : QueuesSafe t where
  events := hml ▸ h.events
  starts := hssa ▸ h.starts
  served := by simpa only [hssa, State.inRun, hpower] using h.served
  writes := hjc ▸ h.writes
  replies := hml ▸ h.replies
  links := by simpa only [hml, hjc] using h.links

theorem Keeps.of_eq {s t : State} (hpending : t.pending = s.pending := by rfl)
    (htime : t.time = s.time := by rfl) (hcfg : t.cfg = s.cfg := by rfl)
    (hpower : t.ss.power = s.ss.power := by rfl) (hpsq : t.psq = s.psq := by rfl)
    (hssa : t.ssa = s.ssa := by rfl) (hjc : t.jc = s.jc := by rfl) (hrp : t.rp = s.rp := by rfl)
    (hml : t.ml = s.ml := by rfl) (hjournal : t.journal = s.journal := by rfl) : Keeps s t :=
  { KeepsData.of_eq hpending htime hcfg hpower hpsq (by rw [hjc]) hrp hjournal with
    queues := fun h => h.of_eq hpower hssa hjc hml }

/-- A change of the link alone keeps the rest. -/
theorem Keeps.setLink {s : State} {l : Link}
    (h : QueuesSafe s → QueuesSafe { s with ml := l }) : Keeps s { s with ml := l } :=
  { KeepsData.of_eq (s := s) (t := { s with ml := l }) rfl rfl rfl rfl rfl rfl rfl rfl with queues := h }

theorem QueuesSafe.post {s : State} (h : QueuesSafe s) (e : EventKind) (q : Option PocketId)
    (a : Half) : QueuesSafe (s.post e q a) where
  events := Link.length_post _ _ _ h.events
  starts := h.starts
  served := h.served
  writes := h.writes
  replies := by simpa [State.post, Link.replies] using h.replies
  links := by simpa [State.post, Link.replies] using h.links

theorem Keeps.post (s : State) (e : EventKind) (q : Option PocketId) (a : Half) :
    Keeps s (s.post e q a) :=
  Keeps.setLink fun h => h.post e q a

theorem Keeps.setSense (s : State) (p : PocketId) (k : Sensing) : Keeps s (s.setSense p k) :=
  Keeps.of_eq

theorem Keeps.setJournalFault (s : State) (c : JournalCause) (place : JournalPlace) (tell : Bool) :
    Keeps s (s.setJournalFault c place tell) := by
  have hset : Keeps s { s with ss := { s.ss with journalFault := some (c, place) } } :=
    Keeps.of_eq
  unfold State.setJournalFault
  dsimp only
  split
  · exact hset.trans (Keeps.post _ _ _ _)
  · exact hset

/-! ### Work in RUN, and the grant that ends it -/

/-- What the work of a command in RUN leaves beside the credit, before the start slot is given. -/
structure WorkFrame (s u : State) : Prop where
  pending : u.pending = s.pending
  time : u.time = s.time
  cfg : u.cfg = s.cfg
  power : u.ss.power = s.ss.power
  journal : u.journal = s.journal
  engine : u.jc.engine = s.jc.engine
  tx : u.ml.tx = s.ml.tx
  orphan : u.ml.orphan = s.ml.orphan
  events : s.ml.events.length ≤ 16 → u.ml.events.length ≤ 16
  queues : KeepsQueues s u

/-- What the work of a command in RUN keeps, before the start slot is given. -/
structure WorksInRun (s u : State) : Prop extends WorkFrame s u where
  credit : s.inRun = true → ∀ p, s.creditSafe p = true → u.creditSafe p = true

theorem WorkFrame.inRun {s u : State} (h : WorkFrame s u) : u.inRun = s.inRun := by
  simp only [State.inRun, h.power]

theorem WorkFrame.refl (s : State) : WorkFrame s s :=
  ⟨rfl, rfl, rfl, rfl, rfl, rfl, rfl, rfl, id, KeepsQueues.refl s⟩

theorem WorkFrame.trans {a b c : State} (h : WorkFrame a b) (k : WorkFrame b c) : WorkFrame a c where
  pending := k.pending.trans h.pending
  time := k.time.trans h.time
  cfg := k.cfg.trans h.cfg
  power := k.power.trans h.power
  journal := k.journal.trans h.journal
  engine := k.engine.trans h.engine
  tx := k.tx.trans h.tx
  orphan := k.orphan.trans h.orphan
  events := fun x => k.events (h.events x)
  queues := h.queues.trans k.queues

theorem WorksInRun.refl (s : State) : WorksInRun s s :=
  { WorkFrame.refl s with credit := fun _ _ => id }

theorem WorksInRun.trans {a b c : State} (h : WorksInRun a b) (k : WorksInRun b c) : WorksInRun a c :=
  { h.toWorkFrame.trans k.toWorkFrame with
    credit := fun hrun p x => k.credit (h.inRun.trans hrun) p (h.credit hrun p x) }

theorem ActsOn.creditSafe {p : PocketId} {s u : State} (h : ActsOn p s u) (q : PocketId) :
    u.creditSafe q = s.creditSafe q := by
  obtain ⟨hd, ht⟩ := h.credit q
  unfold State.creditSafe
  rw [hd, ht, h.rp, h.inRun]

/-- An act on a pocket is such work. -/
theorem ActsOn.works {p : PocketId} {s u : State} (h : ActsOn p s u) (hq : KeepsQueues s u) :
    WorksInRun s u where
  pending := h.pending
  time := h.time
  cfg := h.cfg
  power := by rw [h.ss]
  journal := h.journal
  engine := h.engine
  credit := fun _ q x => (h.creditSafe q).trans x
  tx := h.tx
  orphan := h.orphan
  events := h.events
  queues := hq

theorem WorksInRun.setSense (s : State) (p : PocketId) (k : Sensing) : WorksInRun s (s.setSense p k) :=
  { pending := rfl, time := rfl, cfg := rfl, power := rfl, journal := rfl, engine := rfl, tx := rfl
    orphan := rfl, events := id, queues := (KeepsQueues.refl s).of_eq rfl rfl rfl
    credit := fun _ _ => id }

theorem WorksInRun.arbitrated {s u : State} (h : WorksInRun s u) : WorksInRun s u.arbitrate := by
  obtain ⟨p, hp⟩ := u.arbitrate_acts
  exact h.trans (hp.works ((KeepsQueues.refl u).arbitrate))

/-- R45: after the grant no request waits before a free slot. -/
theorem State.arbitrate_serves (s : State) (hrun : s.inRun = true)
    (hslot : s.arbitrate.ssa.slot = none) : s.arbitrate.ssa.queue = [] := by
  by_cases hw : ∃ r rest, s.inRun = true ∧ s.ssa.slot = none ∧ s.ssa.queue = r :: rest
  · obtain ⟨r, rest, h1, h2, h3⟩ := hw
    rw [State.arbitrate_of_waiting h1 h2 h3, (takeGrant_keeps _ r _ rfl rfl).slot] at hslot
    cases hslot
  · rw [State.arbitrate_of_nothing hw] at hslot ⊢
    cases hq : s.ssa.queue with
    | nil => rfl
    | cons r rest => exact absurd ⟨r, rest, hrun, hslot, hq⟩ hw

theorem KeepsQueues.linkRequests {s u : State} (h : KeepsQueues s u)
    (he : u.jc.engine = s.jc.engine) : u.jc.linkRequests = s.jc.linkRequests := by
  unfold JournalController.linkRequests
  rw [h.links, he]

theorem WorkFrame.queuesBound {s u : State} (h : WorkFrame s u) (x : QueuesBound s) :
    QueuesBound u where
  events := h.events x.events
  starts := h.queues.starts x.starts
  writes := fun q => h.queues.writes q (x.writes q)
  replies := by
    simpa only [Link.replies, h.tx, h.queues.asked] using x.replies
  links := by
    simpa only [Link.replies, h.tx, h.orphan, h.queues.asked, h.queues.linkRequests h.engine] using
      x.links

theorem WorkFrame.journalSafe {s u : State} (h : WorkFrame s u) (x : s.journalSafe = true) :
    u.journalSafe = true := by
  rw [journalSafe_iff] at x ⊢
  rwa [h.journal, h.cfg, h.engine]

theorem outputsSafe_of_inRun {s : State} (h : s.inRun = true) : s.outputsSafe = true := by
  simp [State.outputsSafe, h]

/-- Work in RUN that leaves no request before a free slot keeps every property. -/
theorem WorksInRun.keeps {s u : State} (h : WorksInRun s u) (hrun : s.inRun = true)
    (hserved : QueuesSafe s → u.ssa.slot = none → u.ssa.queue = []) : Keeps s u where
  pending := h.pending
  time := h.time
  journal := h.journalSafe
  copy := fun x => h.cfg ▸ x
  credit := fun x p => h.credit hrun p (x p)
  outputs := fun _ => outputsSafe_of_inRun (h.inRun.trans hrun)
  queues := fun x => ⟨h.queuesBound x.toQueuesBound, fun _ => hserved x⟩

theorem WorksInRun.granted {s u : State} (h : WorksInRun s u) (hrun : s.inRun = true) :
    Keeps s u.arbitrate :=
  h.arbitrated.keeps hrun fun _ => u.arbitrate_serves (h.inRun.trans hrun)

/-- Out of RUN the arbiter grants nothing. -/
theorem State.arbitrate_of_not_inRun {s : State} (h : s.inRun = false) : s.arbitrate = s := by
  refine State.arbitrate_of_nothing ?_
  rintro ⟨r, rest, hrun, -, -⟩
  rw [h] at hrun
  cases hrun

/-! ### Plans and credit -/

/-- A plan changes the credit to its D' or not at all, and neither the target nor the copies (R153). -/
theorem PlanRecord.credit_run (pl : PlanRecord) (r : RunRecord) (now : Stamp) :
    ((pl.run r now).d = r.d ∨ (pl.run r now).d = pl.figures.dPrime) ∧ (pl.run r now).t = r.t
      ∧ (pl.run r now).copies = r.copies := by
  obtain ⟨_, kind, dest, _, _, _, _, _, _⟩ := pl
  unfold PlanRecord.run
  cases kind with
  | resumeHeat => cases dest <;> exact ⟨.inr rfl, rfl, rfl⟩
  | skipToAntiCrease => cases dest <;> exact ⟨.inl rfl, rfl, rfl⟩
  | _ => cases dest <;> exact ⟨.inl rfl, rfl, rfl⟩

end Sys2Proof.Machine
end

section
/-! The work of the commands in RUN keeps the properties: what changes credit, plans or sensing stands beside
the acts of one pocket. -/

namespace Sys2Proof.Machine

/-! ### Credit and plans -/

theorem State.creditSafe_of_other {s u : State} {p q : PocketId} (hq : q ≠ p)
    (hpocket : u.pocket p.other = s.pocket p.other) (hrp : u.rp.get p.other = s.rp.get p.other)
    (hrun : u.inRun = s.inRun) : u.creditSafe q = s.creditSafe q := by
  rw [PocketId.eq_other_of_ne hq]
  simp only [State.creditSafe, hpocket, hrp, hrun]

/-- A run record whose credit is within its target is work in RUN. -/
theorem WorksInRun.setRun {s : State} {p : PocketId} {r : RunRecord}
    (hd : (s.pocket p).run.d ≤ (s.pocket p).run.t → (s.pocket p).run.t ≤ 57600 →
      r.d ≤ r.t ∧ r.t ≤ 57600) : WorksInRun s (s.setRun p r) where
  pending := rfl
  time := rfl
  cfg := rfl
  power := rfl
  journal := rfl
  engine := rfl
  credit := fun hrun q x => by
    by_cases hq : q = p
    · subst hq
      rw [creditSafe_iff_of_inRun hrun] at x
      obtain ⟨hdt, ht, hplan⟩ := x
      rw [creditSafe_iff_of_inRun (s := s.setRun q r) hrun, State.pocket_setRun_self]
      exact ⟨(hd hdt ht).1, (hd hdt ht).2, hplan⟩
    · rwa [State.creditSafe_of_other (s := s) (u := s.setRun p r) hq (by simp) rfl rfl]
  tx := rfl
  orphan := rfl
  events := id
  queues := (KeepsQueues.refl s).setRun r

/-- A plan record that is applied may be held in RUN. -/
theorem WorksInRun.setPlan (s : State) (p : PocketId) {pl : Option PlanRecord}
    (h : (∀ old, s.rp.get p = some old → old.applied = true) → ∀ new, pl = some new →
      new.applied = true) :
    WorksInRun s { s with rp := s.rp.set p pl } where
  pending := rfl
  time := rfl
  cfg := rfl
  power := rfl
  journal := rfl
  engine := rfl
  credit := fun hrun q x => by
    by_cases hq : q = p
    · subst hq
      rw [creditSafe_iff_of_inRun hrun] at x
      obtain ⟨hdt, ht, hplan⟩ := x
      refine (creditSafe_iff_of_inRun (s := { s with rp := s.rp.set q pl }) hrun q).mpr
        ⟨hdt, ht, fun new hnew => h hplan new ?_⟩
      simpa using hnew
    · rwa [State.creditSafe_of_other (s := s) (u := { s with rp := s.rp.set p pl }) hq rfl
        (by simp) rfl]
  tx := rfl
  orphan := rfl
  events := id
  queues := (KeepsQueues.refl s).of_eq rfl rfl rfl

theorem WorksInRun.post (s : State) (e : EventKind) (q : Option PocketId) (a : Half) :
    WorksInRun s (s.post e q a) :=
  ((ActsOn.refl .U s).post e q a).works ((KeepsQueues.refl s).post e q a)

theorem WorksInRun.holdPlan (s : State) (p : PocketId) {pl : PlanRecord} (h : pl.applied = true) :
    WorksInRun s (s.holdPlan p pl) := by
  have hset : WorksInRun s { s with rp := s.rp.set p (some pl) } :=
    WorksInRun.setPlan s p fun _ new hnew => Option.some.inj hnew ▸ h
  exact hset.trans (WorksInRun.post _ _ _ _)

/-- The entry of a plan is an act on the pocket that has the plan's run record. -/
theorem State.enterPlan_acts (s : State) (p : PocketId) (pl : PlanRecord) (kind : RecordKind) :
    ActsOn p (s.setRun p (pl.run (s.pocket p).run s.bd.stamp)) (s.enterPlan p pl kind) := by
  rw [State.enterPlan_eq]
  refine (ActsOn.postRequest ?_ kind).checkStartWait
  split
  · exact (ActsOn.refl p _).enterAcRest
  · exact (ActsOn.refl p _).changePhase _

theorem State.enterPlan_queues (s : State) (p : PocketId) (pl : PlanRecord) (kind : RecordKind) :
    KeepsQueues (s.setRun p (pl.run (s.pocket p).run s.bd.stamp)) (s.enterPlan p pl kind) := by
  rw [State.enterPlan_eq]
  refine (KeepsQueues.postRequest ?_ kind).checkStartWait
  split
  · exact (KeepsQueues.refl _).enterAcRest
  · exact (KeepsQueues.refl _).changePhase _

theorem WorkFrame.setRun (s : State) (p : PocketId) (r : RunRecord) : WorkFrame s (s.setRun p r) :=
  ⟨rfl, rfl, rfl, rfl, rfl, rfl, rfl, rfl, id, (KeepsQueues.refl s).setRun r⟩

theorem WorkFrame.enterPlan (s : State) (p : PocketId) (pl : PlanRecord) (kind : RecordKind) :
    WorkFrame s (s.enterPlan p pl kind) :=
  (WorkFrame.setRun s p _).trans
    ((s.enterPlan_acts p pl kind).works (s.enterPlan_queues p pl kind)).toWorkFrame

/-- The entry of a plan whose D' is within the target (R152). -/
theorem WorksInRun.enterPlan {s : State} {p : PocketId} {pl : PlanRecord} (kind : RecordKind)
    (h : (s.pocket p).run.d ≤ (s.pocket p).run.t → pl.figures.dPrime ≤ (s.pocket p).run.t) :
    WorksInRun s (s.enterPlan p pl kind) := by
  obtain ⟨hd, ht, -⟩ := pl.credit_run (s.pocket p).run s.bd.stamp
  have hrun : WorksInRun s (s.setRun p (pl.run (s.pocket p).run s.bd.stamp)) :=
    WorksInRun.setRun fun hdt hmax => by
      rw [ht]
      have hplan := h hdt
      rcases hd with hd | hd <;> omega
  exact hrun.trans ((s.enterPlan_acts p pl kind).works (s.enterPlan_queues p pl kind))

/-- D' is the credit less the reheat allowance (R147). -/
theorem figures_dPrime_le (c : WorkingCopy) (run : RunRecord) (e : Option Nat) (theta : Option Int)
    (distrust : Bool) : (figures c run e theta distrust).dPrime ≤ run.d :=
  Nat.sub_le _ _

/-- A plan computed from a run record holds that record's figures, whatever it decides. -/
theorem coolDecision_figures (c : WorkingCopy) (run : RunRecord) (fig : Figures) (door : Nat) :
    (coolDecision c run fig door).figures = fig := by
  unfold coolDecision
  split <;> rfl

theorem continuePlan_figures (c : WorkingCopy) (b : Backup) (k : Sensing) (pk : Pocket) :
    (continuePlan c b k pk).figures = liveFigures c b k pk := by
  unfold continuePlan
  dsimp only
  split
  · rfl
  · exact coolDecision_figures _ _ _ _
  · exact coolDecision_figures _ _ _ _

theorem WorksInRun.continueCycle (s : State) (p : PocketId) : WorksInRun s (s.continueCycle p) := by
  refine (WorksInRun.holdPlan s p rfl).trans (WorksInRun.enterPlan _ fun hdt => ?_)
  rw [continuePlan_figures]
  exact (figures_dPrime_le _ _ _ _ _).trans hdt

theorem WorksInRun.confirm (s : State) (p : PocketId) : WorksInRun s (s.confirm p) := by
  unfold State.confirm
  exact (WorksInRun.holdPlan s p rfl).trans
    (WorksInRun.enterPlan _ fun hdt => (figures_dPrime_le _ _ _ _ _).trans hdt)

theorem WorksInRun.decline (s : State) (p : PocketId) : WorksInRun s (s.decline p) := by
  have hplan : WorksInRun s { s with rp := s.rp.set p (some (s.declined p)) } :=
    WorksInRun.setPlan s p fun _ new hnew => Option.some.inj hnew ▸ rfl
  have hsame : KeepsQueues { s with rp := s.rp.set p (some (s.declined p)) } s :=
    (KeepsQueues.refl _).of_eq rfl rfl rfl
  exact hplan.trans ((s.decline_acts p).works hsame.decline)

/-! ### The pocket timer -/

theorem WorksInRun.accrueCredit (s : State) (p : PocketId) : WorksInRun s (s.accrueCredit p) := by
  unfold State.accrueCredit
  dsimp only
  split
  · exact WorksInRun.setRun fun _ ht => ⟨Nat.min_le_left _ _, ht⟩
  · exact WorksInRun.refl s

theorem WorksInRun.pocketSecond (s : State) (p : PocketId) : WorksInRun s (s.pocketSecond p) := by
  refine (WorksInRun.accrueCredit s p).trans ?_
  generalize hu : s.accrueCredit p = u
  unfold State.pocketSecond
  rw [hu]
  dsimp only
  have hacts := (ActsOn.refl p u).countHeat
  have hqueues := (KeepsQueues.refl u).countHeat (p := p)
  split
  · exact (hacts.endHeat _ _).windowTest.works (hqueues.endHeat _ _).windowTest
  · exact hacts.runLongGuard.coolStep.windowTest.works
      (hqueues.evaluateGuard _ _).coolStep.windowTest

/-! ### Pulses -/

theorem WorksInRun.pulseTaken (s : State) (p : PocketId) : WorksInRun s (s.pulseTaken p) := by
  unfold State.pulseTaken
  dsimp only
  split
  · split
    · exact (ActsOn.refl p s).rotationProof.works (KeepsQueues.refl s).rotationProof
    · exact WorksInRun.refl s
  · split
    · split
      · exact (ActsOn.refl p s).burstEnd.works (KeepsQueues.refl s).burstEnd
      · exact WorksInRun.refl s
    · exact (((ActsOn.refl p s).setPocket (by rfl) (by rfl) (by rfl)).works
        ((KeepsQueues.refl s).setPocket _)).trans (WorksInRun.setSense _ _ _)
  · exact WorksInRun.refl s

/-! ### Requests -/

theorem ActsOn.clearPocket {p : PocketId} {a s : State} (h : ActsOn p a s) :
    ActsOn p a (s.clearPocket p) := by
  unfold State.clearPocket
  dsimp only
  have hfaults := h.setPocket (k := { s.pocket p with faults := FaultSet.empty })
    (by rfl) (by rfl) (by rfl)
  split
  · exact hfaults.enterPhase _
  · split
    · exact hfaults.setRun (by simp) (by simp) (by simp)
    · exact hfaults

theorem WorksInRun.startCycle (s : State) (p : PocketId) (a : CycleArgs) (ch : CycleChoices)
    (ht : a.t ≤ 57600) : WorksInRun s (s.startCycle p a ch) := by
  have hfresh : WorksInRun s (s.setPocket p (s.freshPocket p a ch)) := by
    have hrun : WorksInRun s (s.setRun p (s.freshPocket p a ch).run) :=
      WorksInRun.setRun fun _ _ => ⟨Nat.zero_le _, ht⟩
    have hrest : ActsOn p (s.setRun p (s.freshPocket p a ch).run)
        ((s.setRun p (s.freshPocket p a ch).run).setPocket p (s.freshPocket p a ch)) :=
      (ActsOn.refl p _).setPocket (by simp) (by simp) (by simp)
    have heq : (s.setRun p (s.freshPocket p a ch).run).setPocket p (s.freshPocket p a ch)
        = s.setPocket p (s.freshPocket p a ch) := by
      cases p <;> rfl
    exact heq ▸ hrun.trans (hrest.works ((KeepsQueues.refl _).setPocket _))
  exact hfresh.trans ((s.startCycle_acts p a ch).works
    (((KeepsQueues.refl _).changePhase _).postRequest _).checkStartWait)

theorem WorksInRun.extendTo {s : State} {p : PocketId} {t : Nat}
    (ht : t ≤ 57600) (hold : (s.pocket p).run.t ≤ 57600 → (s.pocket p).run.t ≤ t) :
    WorksInRun s (s.extendTo p t) := by
  have hrun : WorksInRun s (s.setRun p { (s.pocket p).run with t := t }) :=
    WorksInRun.setRun fun hdt hmax => ⟨hdt.trans (hold hmax), ht⟩
  unfold State.extendTo
  dsimp only
  split
  · split
    · exact hrun.trans (((ActsOn.refl p _).setRun (by rfl) (by rfl) (by rfl)).towardHeat.works
        ((KeepsQueues.refl _).setRun _).towardHeat)
    · exact hrun
  · refine hrun.trans (WorksInRun.setPlan _ p fun hold new hnew => ?_)
    obtain ⟨old, holdp, rfl⟩ := Option.map_eq_some_iff.mp hnew
    exact hold old holdp
  · exact hrun

end Sys2Proof.Machine
end

section
/-! The power states, the journal and the load keep the properties. -/

namespace Sys2Proof.Machine

/-! ### Changes of one block -/

/-- A change of the Journal Controller alone. -/
theorem Keeps.setJournal {s : State} {jc : JournalController}
    (hfits : s.journalSafe = true → ∀ job n ph, jc.engine = .busy job n ph → job.fits = true)
    (hwrites : ∀ q, s.jc.queue.countP (·.ofPocket q) ≤ 1 → jc.queue.countP (·.ofPocket q) ≤ 1)
    (hlinks : jc.linkRequests ≤ s.jc.linkRequests) :
    Keeps s { s with jc := jc } where
  pending := rfl
  time := rfl
  journal := fun h => by
    have hjob := hfits h
    rw [journalSafe_iff] at h ⊢
    exact ⟨h.1, h.2.1, hjob⟩
  copy := id
  credit := id
  outputs := id
  queues := fun h =>
    { events := h.events
      starts := h.starts
      served := h.served
      writes := fun q => hwrites q (h.writes q)
      replies := h.replies
      links := by
        change jc.linkRequests = 0 ∨ jc.linkRequests = 1 ∧ _
        have hbound := h.links
        by_cases hnone : jc.linkRequests = 0
        · exact .inl hnone
        · exact .inr ⟨by omega, (hbound.resolve_left (by omega)).2⟩ }

/-- A change of the journal memory alone. -/
theorem Keeps.setMemory {s : State} {m : List Host.Cell} {cut : Bool}
    (h : s.journalSafe = true → Memory.wf m = true) :
    Keeps s { s with journal := m, storeCut := cut } where
  pending := rfl
  time := rfl
  journal := fun x => by
    have hm := h x
    rw [journalSafe_iff] at x ⊢
    exact ⟨hm, x.2⟩
  copy := id
  credit := id
  outputs := id
  queues := fun h => h.of_eq rfl rfl rfl rfl

theorem State.creditSafe_congr {s t : State} {p : PocketId}
    (hd : (t.pocket p).run.d = (s.pocket p).run.d) (ht : (t.pocket p).run.t = (s.pocket p).run.t)
    (hrp : t.rp = s.rp) (hrun : t.inRun = s.inRun) : t.creditSafe p = s.creditSafe p := by
  unfold State.creditSafe
  rw [hd, ht, hrp, hrun]

/-- Changes of both sequencers that leave credit and outputs. -/
theorem Keeps.setPockets {s : State} {k : Pair Pocket}
    (hcredit : ∀ p, (k.get p).run.d = (s.pocket p).run.d ∧ (k.get p).run.t = (s.pocket p).run.t)
    (hoff : s.psq.u.off ∧ s.psq.l.off → k.u.off ∧ k.l.off) : Keeps s { s with psq := k } where
  pending := rfl
  time := rfl
  journal := id
  copy := id
  credit := fun h p =>
    (State.creditSafe_congr (t := { s with psq := k }) (hcredit p).1 (hcredit p).2 rfl rfl).trans (h p)
  outputs := fun h => by
    rw [outputsSafe_iff] at h ⊢
    exact fun hrun => hoff (h hrun)
  queues := fun h => h.of_eq rfl rfl rfl rfl

/-! ### WAKE and DARK -/

theorem Keeps.enterWake (s : State) : Keeps s s.enterWake where
  pending := rfl
  time := rfl
  journal := fun h => by
    rw [journalSafe_iff] at h ⊢
    exact ⟨h.1, h.2.1, fun job n ph hbusy => nomatch hbusy⟩
  copy := id
  credit := fun _ p => by cases p <;> rfl
  outputs := fun _ => rfl
  queues := fun _ =>
    { events := Nat.zero_le _, starts := .nil, served := fun h => nomatch h
      writes := fun q => Nat.zero_le _, replies := Nat.zero_le _, links := .inl rfl }

theorem Keeps.enterDark (s : State) : Keeps s s.enterDark where
  pending := rfl
  time := rfl
  journal := fun h => by
    rw [journalSafe_iff] at h ⊢
    exact ⟨h.1, shaped_defaults, fun job n ph hbusy => nomatch hbusy⟩
  copy := fun _ => copySafe_defaults
  credit := fun _ p => by cases p <;> rfl
  outputs := fun _ => rfl
  queues := fun _ =>
    { events := Nat.zero_le _, starts := .nil, served := fun h => nomatch h
      writes := fun q => Nat.zero_le _, replies := Nat.zero_le _, links := .inl rfl }

theorem Keeps.finishHoldUp (s : State) : Keeps s s.finishHoldUp := by
  unfold State.finishHoldUp
  split
  · split
    · split
      · exact Keeps.enterWake s
      · exact Keeps.refl s
    · exact Keeps.enterDark s
  · exact Keeps.refl s

/-! ### Replies to bus requests -/

@[simp] theorem Link.events_endBusRequest (l : Link) (r : Reply) :
    (l.endBusRequest r).events = l.events := by
  unfold Link.endBusRequest
  split
  · rfl
  · exact Link.events_reply l r

@[simp] theorem Link.outstanding_reply (l : Link) (r : Reply) :
    (l.reply r).outstanding = l.outstanding := by
  unfold Link.reply
  split <;> simp_all

@[simp] theorem Link.outstanding_endBusRequest (l : Link) (r : Reply) :
    (l.endBusRequest r).outstanding = l.outstanding := by
  unfold Link.endBusRequest
  split
  · rfl
  · exact Link.outstanding_reply l r

theorem Link.replies_reply (l : Link) (r : Reply) :
    (l.reply r).replies = l.replies + if l.outstanding.isSome then 1 else 0 := by
  unfold Link.reply Link.replies
  split <;> simp_all

/-- The reply of a bus request is the only one that waits, whoever it was owed to. -/
theorem Link.replies_endBusRequest {l : Link}
    (h : l.replies ≤ if l.outstanding.isSome then 1 else 0)
    (howed : l.orphan = true ∨ l.outstanding.isSome = true ∧ l.replies = 0) (r : Reply) :
    (l.endBusRequest r).replies ≤ if (l.endBusRequest r).outstanding.isSome then 1 else 0 := by
  rw [Link.outstanding_endBusRequest]
  unfold Link.endBusRequest
  split
  · exact h
  · rename_i horphan
    rcases howed with horphan' | ⟨hasked, hnone⟩
    · exact absurd horphan' horphan
    · rw [Link.replies_reply, hnone, Nat.zero_add]

/-- The end of the one bus request that the Journal Controller has. -/
theorem QueuesSafe.endBusRequest {s : State} (h : QueuesSafe s) (hbusy : s.jc.linkRequests ≠ 0)
    {jc : JournalController} (hwrites : ∀ q, jc.queue.countP (·.ofPocket q) ≤ 1)
    (hdone : jc.linkRequests = 0) (r : Reply) :
    QueuesSafe { s with jc := jc, ml := s.ml.endBusRequest r } where
  events := by simpa using h.events
  starts := h.starts
  served := h.served
  writes := hwrites
  replies := Link.replies_endBusRequest h.replies ((h.links.resolve_left hbusy).2) r
  links := .inl hdone

/-- The engine's share of the bus requests. -/
theorem linkRequests_of_busy {jc : JournalController} {job : Job} {n : Nat} {ph : EnginePhase}
    (h : jc.engine = .busy job n ph) :
    jc.linkRequests = jc.queue.countP (·.ofLink) + if job.ofLink then 1 else 0 := by
  simp [JournalController.linkRequests, h]

theorem linkRequests_of_free {jc : JournalController} (h : jc.engine = .free) :
    jc.linkRequests = jc.queue.countP (·.ofLink) := by
  simp [JournalController.linkRequests, h]

/-- The engine ends a bus request: its reply is composed and the engine is free. -/
theorem Keeps.endBusRequest {s : State} {job : Job} {n : Nat} {ph : EnginePhase}
    (h : s.jc.engine = .busy job n ph) (hjob : job.ofLink = true) (r : Reply) :
    Keeps s { s.freeEngine with ml := s.ml.endBusRequest r } where
  pending := rfl
  time := rfl
  journal := fun x => by
    rw [journalSafe_iff] at x ⊢
    exact ⟨x.1, x.2.1, fun job n ph hbusy => nomatch hbusy⟩
  copy := id
  credit := id
  outputs := id
  queues := fun x => by
    have hsum := linkRequests_of_busy h
    rw [hjob, if_pos rfl] at hsum
    have hone := x.links
    refine x.endBusRequest (jc := s.freeEngine.jc) (by omega) x.writes ?_ r
    rw [linkRequests_of_free rfl]
    change s.jc.queue.countP (·.ofLink) = 0
    omega

/-! ### HOLD_UP -/

theorem Pocket.credit_holdUp (k : Pocket) (theta : Option Int) (now : Stamp) :
    (k.holdUp theta now).run.d = k.run.d ∧ (k.holdUp theta now).run.t = k.run.t := by
  unfold Pocket.holdUp
  dsimp only
  split
  · split <;> exact ⟨rfl, rfl⟩
  · exact ⟨rfl, rfl⟩

/-- The queue at HOLD_UP entry: the link's requests leave, the running pockets' LOSS requests join. -/
theorem JournalController.queue_holdUp (j : JournalController) (u l : Bool) (now : Nat) :
    (∀ q, j.queue.countP (·.ofPocket q) ≤ 1 →
        (j.holdUp u l now).queue.countP (·.ofPocket q) ≤ 1)
      ∧ (j.holdUp u l now).queue.countP (·.ofLink) = 0 := by
  have hlink : (j.queue.filter (fun w => !w.ofLink)).countP (·.ofLink) = 0 := by
    rw [List.countP_eq_zero]
    intro w hw
    simpa using (List.mem_filter.mp hw).2
  unfold JournalController.holdUp
  dsimp only
  constructor
  · intro q hq
    have hfilter : (j.queue.filter (fun w => !w.ofLink)).countP (·.ofPocket q) ≤ 1 :=
      (List.filter_sublist.countP_le).trans hq
    cases u <;> cases l <;> simp only [Bool.false_eq_true, if_true, if_false]
    · exact hfilter
    · exact countP_pocket_enqueue hfilter _ _ _
    · exact countP_pocket_enqueue hfilter _ _ _
    · exact countP_pocket_enqueue (countP_pocket_enqueue hfilter _ _ _) _ _ _
  · cases u <;> cases l <;>
      simp only [Bool.false_eq_true, if_true, if_false, countP_link_enqueue, hlink]

theorem Engine.fits_afterLoss {e : Engine} (h : ∀ job n ph, e = .busy job n ph → job.fits = true)
    {job : Job} {n : Nat} {ph : EnginePhase} (hb : e.afterLoss = .busy job n ph) :
    job.fits = true := by
  cases e with
  | free => cases hb
  | busy job' n' ph' =>
    unfold Engine.afterLoss at hb
    dsimp only at hb
    split at hb
    · cases hb
    · cases hb
      exact h _ _ _ rfl

/-- A loss ends no bus request in flight (R127). -/
theorem JournalController.linkRequests_holdUp (j : JournalController) (u l : Bool) (now : Nat) :
    (j.holdUp u l now).linkRequests + j.queue.countP (·.ofLink) = j.linkRequests := by
  have hqueue := (j.queue_holdUp u l now).2
  have hengine : (j.holdUp u l now).engine = j.engine.afterLoss := rfl
  cases he : j.engine with
  | free =>
    rw [linkRequests_of_free he, linkRequests_of_free (by rw [hengine, he]; rfl), hqueue, Nat.zero_add]
  | busy job n ph =>
    rw [linkRequests_of_busy he]
    cases hload : job.ofLoad with
    | true =>
      have hlink : job.ofLink = false := by cases job <;> simp_all [Job.ofLoad, Job.ofLink]
      rw [linkRequests_of_free (by rw [hengine, he]; exact (Engine.onLoss_load hload n ph).2), hqueue,
        hlink]
      simp
    | false =>
      rw [linkRequests_of_busy (by rw [hengine, he]; exact (Engine.onLoss_request hload n ph).2),
        hqueue]
      omega

/-- Entry into HOLD_UP before the test whether it ends at once (R104, R22, R128). -/
def State.heldUp (s : State) : State :=
  { s with
    ss := { s.ss with power := .holdUp, armTimer := none, returnMark := false }
    psq := ⟨s.psq.u.holdUp s.ic.u.theta s.bd.stamp, s.psq.l.holdUp s.ic.l.theta s.bd.stamp⟩
    ssa := Arbiter.idle
    jc := s.jc.holdUp s.psq.u.phase.running s.psq.l.phase.running s.time
    ml := if s.jc.queue.any (·.ofLink) then s.ml.endBusRequest (.bare .aborted) else s.ml
    bd := s.bd.armWatches }

theorem State.enterHoldUp_eq (s : State) : s.enterHoldUp = s.heldUp.finishHoldUp := rfl

theorem QueuesSafe.heldUp {s : State} (h : QueuesSafe s) : QueuesSafe s.heldUp := by
  have hsum := s.jc.linkRequests_holdUp s.psq.u.phase.running s.psq.l.phase.running s.time
  have hwrites := (s.jc.queue_holdUp s.psq.u.phase.running s.psq.l.phase.running s.time).1
  have hlinks := h.links
  by_cases hany : s.jc.queue.any (·.ofLink) = true
  · have hpos : 0 < s.jc.queue.countP (·.ofLink) := by
      rw [List.countP_pos_iff]
      simpa using hany
    have hml : s.heldUp.ml = s.ml.endBusRequest (.bare .aborted) := if_pos hany
    refine ⟨⟨?_, .nil, fun q => hwrites q (h.writes q), ?_, .inl ?_⟩, fun hrun => nomatch hrun⟩
    · rw [hml]
      simpa using h.events
    · rw [hml]
      exact Link.replies_endBusRequest h.replies ((hlinks.resolve_left (by omega)).2) _
    · change (s.jc.holdUp _ _ _).linkRequests = 0
      omega
  · have hzero : s.jc.queue.countP (·.ofLink) = 0 := by
      rw [List.countP_eq_zero]
      intro w hw hl
      exact hany (List.any_eq_true.mpr ⟨w, hw, hl⟩)
    have hml : s.heldUp.ml = s.ml := if_neg hany
    rw [hzero, Nat.add_zero] at hsum
    refine ⟨⟨?_, .nil, fun q => hwrites q (h.writes q), ?_, ?_⟩, fun hrun => nomatch hrun⟩
    · rw [hml]
      exact h.events
    · rw [hml]
      exact h.replies
    · rw [hml]
      change (s.jc.holdUp _ _ _).linkRequests = 0 ∨ (s.jc.holdUp _ _ _).linkRequests = 1 ∧ _
      rw [hsum]
      exact hlinks

theorem Keeps.enterHoldUp (s : State) : Keeps s s.enterHoldUp := by
  rw [State.enterHoldUp_eq]
  refine Keeps.trans ?_ (Keeps.finishHoldUp _)
  refine { pending := rfl, time := rfl, journal := fun h => ?_, copy := id, credit := fun h p => ?_,
           outputs := fun _ => rfl, queues := QueuesSafe.heldUp }
  · rw [journalSafe_iff] at h ⊢
    exact ⟨h.1, h.2.1, fun job n ph hb => Engine.fits_afterLoss h.2.2 hb⟩
  · have hp := h p
    have hcredit : (s.heldUp.pocket p).run.d = (s.pocket p).run.d
        ∧ (s.heldUp.pocket p).run.t = (s.pocket p).run.t := by
      cases p <;> exact Pocket.credit_holdUp _ _ _
    rw [creditSafe_iff] at hp ⊢
    rw [hcredit.1, hcredit.2]
    refine ⟨hp.1, hp.2.1, fun pl hpl => (hp.2.2 pl hpl).imp_right fun hlim => ⟨rfl, hlim.2⟩⟩

/-- The acknowledged bytes of an attempt fall inside the memory. -/
theorem Keeps.storeAcked (s : State) (acked : Nat) : Keeps s (s.storeAcked acked) := by
  unfold State.storeAcked
  split
  · rename_i job n hbusy
    split
    · rename_i a bs hout
      refine Keeps.setMemory fun h => ?_
      obtain ⟨hwf, -, hfits⟩ := (journalSafe_iff s).mp h
      have hin := hfits job n .transfer hbusy
      simp only [Job.fits, hout, decide_eq_true_eq] at hin
      refine Memory.wf_writeBytes hwf _ ?_
      simp only [List.length_take, List.length_dropLast]
      omega
    · exact Keeps.refl s
  · exact Keeps.refl s
  · exact Keeps.refl s
  · exact Keeps.refl s

/-! ### Entry into RUN -/

/-- Credit within its target, and a plan still to be applied within it, whatever the power state. -/
def State.creditBound (s : State) (p : PocketId) : Prop :=
  (s.pocket p).run.d ≤ (s.pocket p).run.t ∧ (s.pocket p).run.t ≤ 57600
    ∧ ∀ pl, s.rp.get p = some pl → pl.applied = true ∨ pl.figures.dPrime ≤ (s.pocket p).run.t

theorem State.creditBound_of_safe {s : State} {p : PocketId} (h : s.creditSafe p = true) :
    s.creditBound p := by
  obtain ⟨hd, ht, hplan⟩ := (creditSafe_iff s p).mp h
  exact ⟨hd, ht, fun pl hpl => (hplan pl hpl).imp_right And.right⟩

theorem State.creditBound_of_eq {s u : State} {p : PocketId} (h : s.creditBound p)
    (hpocket : (u.pocket p).run = (s.pocket p).run) (hrp : u.rp.get p = s.rp.get p) :
    u.creditBound p := by
  unfold State.creditBound
  rw [hpocket, hrp]
  exact h

/-- The state in which a pending plan is entered: it is marked applied, and the pocket has the recovered
faults. -/
def State.applying (s : State) (p : PocketId) (pl : PlanRecord) : State :=
  ({ s with rp := s.rp.set p (some { pl with applied := true }) } : State).setPocket p
    { s.pocket p with faults :=
        match (s.pocket p).recovered with
        | .record _ _ f => f
        | .none | .unreadable => FaultSet.empty }

theorem State.applyPlan_of_pending {s : State} {p : PocketId} {pl : PlanRecord}
    (h : s.rp.get p = some pl) (hpl : pl.applied = false) :
    s.applyPlan p = (s.applying p pl).enterPlan p pl pl.request := by
  unfold State.applyPlan
  rw [h]
  dsimp only
  rw [hpl]
  rfl

theorem State.applyPlan_of_applied {s : State} {p : PocketId}
    (h : ∀ pl, s.rp.get p = some pl → pl.applied = true) : s.applyPlan p = s := by
  unfold State.applyPlan
  split
  · rfl
  · rename_i pl hpl
    rw [if_pos (h pl hpl)]

/-- An act keeps the plans and the other pocket. -/
theorem State.enterPlan_frame (s : State) (p : PocketId) (pl : PlanRecord) (kind : RecordKind) :
    (s.enterPlan p pl kind).rp = s.rp ∧ (s.enterPlan p pl kind).pocket p.other = s.pocket p.other :=
  have hacts := s.enterPlan_acts p pl kind
  ⟨hacts.rp, hacts.other.trans (by simp)⟩

theorem State.applyPlan_cases (s : State) (p : PocketId) :
    (∀ pl, s.rp.get p = some pl → pl.applied = true)
      ∨ ∃ pl, s.rp.get p = some pl ∧ pl.applied = false := by
  by_cases hall : ∀ pl, s.rp.get p = some pl → pl.applied = true
  · exact .inl hall
  · exact .inr (by simpa using hall)

theorem WorkFrame.applyPlan (s : State) (p : PocketId) : WorkFrame s (s.applyPlan p) := by
  rcases s.applyPlan_cases p with hall | ⟨pl, hpl, hpending⟩
  · rw [State.applyPlan_of_applied hall]
    exact WorkFrame.refl s
  · have happlying : WorkFrame s (s.applying p pl) :=
      ⟨rfl, rfl, rfl, rfl, rfl, rfl, rfl, rfl, id, (KeepsQueues.refl s).of_eq rfl rfl rfl⟩
    rw [State.applyPlan_of_pending hpl hpending]
    exact happlying.trans (WorkFrame.enterPlan _ p pl _)

/-- The application of a plan leaves the other pocket. -/
theorem State.applyPlan_other (s : State) (p : PocketId) :
    ((s.applyPlan p).pocket p.other).run = (s.pocket p.other).run
      ∧ (s.applyPlan p).rp.get p.other = s.rp.get p.other := by
  rcases s.applyPlan_cases p with hall | ⟨pl, hpl, hpending⟩
  · rw [State.applyPlan_of_applied hall]
    exact ⟨rfl, rfl⟩
  · obtain ⟨hrp, hother⟩ := (s.applying p pl).enterPlan_frame p pl pl.request
    rw [State.applyPlan_of_pending hpl hpending, hrp, hother]
    exact ⟨by simp [State.applying]; rfl, by simp [State.applying]⟩

/-- The application of a pending plan within its bound leaves the credit safe. -/
theorem State.creditSafe_applyPlan {s : State} {p : PocketId} (hrun : s.inRun = true)
    (hp : s.creditBound p) : (s.applyPlan p).creditSafe p = true := by
  obtain ⟨hd, ht, hplan⟩ := hp
  rcases s.applyPlan_cases p with hall | ⟨pl, hpl, hpending⟩
  · rw [State.applyPlan_of_applied hall]
    exact (creditSafe_iff_of_inRun hrun p).mpr ⟨hd, ht, hall⟩
  · have hle : pl.figures.dPrime ≤ (s.pocket p).run.t :=
      (hplan pl hpl).resolve_left (by simp [hpending])
    have hrunp : ((s.applying p pl).pocket p).run = (s.pocket p).run := by
      simp [State.applying]
    have hwork : WorksInRun (s.applying p pl) ((s.applying p pl).enterPlan p pl pl.request) :=
      WorksInRun.enterPlan _ fun _ => by rw [hrunp]; exact hle
    rw [State.applyPlan_of_pending hpl hpending]
    refine hwork.credit hrun p ?_
    refine (creditSafe_iff_of_inRun (s := s.applying p pl) hrun p).mpr ⟨?_, ?_, fun pl' hpl' => ?_⟩
    · rw [hrunp]; exact hd
    · rw [hrunp]; exact ht
    · have : some { pl with applied := true } = some pl' := by
        simpa [State.applying] using hpl'
      exact Option.some.inj this ▸ rfl

/-- RUN before the plans are applied. -/
def State.running (s : State) : State := { s with ss := { s.ss with power := .run, armTimer := none } }

theorem State.enterRun_eq (s : State) :
    s.enterRun = ((s.running.applyPlan .U).applyPlan .L).arbitrate := rfl

/-- The application of both plans leaves the credit of each pocket safe. -/
theorem State.creditSafe_applyPlans {s : State} (hcredit : ∀ p, s.creditBound p) (p : PocketId) :
    ((s.running.applyPlan .U).applyPlan .L).creditSafe p = true := by
  have hrun : (s.running.applyPlan .U).inRun = true := (WorkFrame.applyPlan s.running .U).inRun
  have hsafeU : (s.running.applyPlan .U).creditSafe .U = true :=
    State.creditSafe_applyPlan (s := s.running) rfl (hcredit .U)
  obtain ⟨hrunL, hrpL⟩ := s.running.applyPlan_other .U
  have hother : (((s.running.applyPlan .U).applyPlan .L).pocket .U).run
      = ((s.running.applyPlan .U).pocket .U).run
      ∧ ((s.running.applyPlan .U).applyPlan .L).rp.get .U = (s.running.applyPlan .U).rp.get .U :=
    (s.running.applyPlan .U).applyPlan_other .L
  cases p with
  | L => exact State.creditSafe_applyPlan hrun (State.creditBound_of_eq (hcredit .L) hrunL hrpL)
  | U =>
    unfold State.creditSafe
    rw [hother.1, hother.2, (WorkFrame.applyPlan (s.running.applyPlan .U) .L).inRun]
    exact hsafeU

theorem Keeps.enterRun (s : State) : Keeps s s.enterRun := by
  have hframe := (WorkFrame.applyPlan s.running .U).trans (WorkFrame.applyPlan _ .L)
  have hsafe : (∀ p, s.creditSafe p = true) →
      ∀ p, ((s.running.applyPlan .U).applyPlan .L).creditSafe p = true :=
    fun h => State.creditSafe_applyPlans fun p => State.creditBound_of_safe (h p)
  rw [State.enterRun_eq]
  generalize (s.running.applyPlan .U).applyPlan .L = u at hframe hsafe
  have hrun : u.inRun = true := hframe.inRun
  have hgrant := (WorksInRun.refl u).arbitrated
  have hall : WorkFrame s.running u.arbitrate := hframe.trans hgrant.toWorkFrame
  exact
    { pending := hall.pending
      time := hall.time
      journal := fun h => hall.journalSafe (s := s.running) (by rw [journalSafe_iff] at h ⊢; exact h)
      copy := fun h => hall.cfg ▸ h
      credit := fun h p => hgrant.credit hrun p (hsafe h p)
      outputs := fun _ => outputsSafe_of_inRun (hgrant.inRun.trans hrun)
      queues := fun h => ⟨hall.queuesBound ⟨h.events, h.starts, h.writes, h.replies, h.links⟩,
        fun _ => u.arbitrate_serves hrun⟩ }

end Sys2Proof.Machine
end

section
/-! The load sequence and the bus engine keep the properties. -/

namespace Sys2Proof.Machine

/-! ### The end of the scan (R140) -/

/-- A valid record has its numbers in range (R117). -/
theorem readRecord_ok {p : PocketId} {bs : List Byte} {r : CheckpointRecord}
    (h : readRecord p bs = .ok r) : 1 ≤ r.seq ∧ 1 ≤ r.epoch ∧ r.run.inRange = true := by
  unfold readRecord at h
  split at h
  · cases h
  · split at h
    · cases h
    · split at h
      · cases h
      · split at h
        · cases h
        · split at h
          · rename_i hall
            cases h
            exact hall
          · cases h

theorem RunRecord.credit_of_inRange {r : RunRecord} (h : r.inRange = true) :
    r.d ≤ r.t ∧ r.t ≤ 57600 := by
  simp only [RunRecord.inRange, Bool.and_eq_true, decide_eq_true_eq] at h
  omega

theorem Pocket.credit_fill {k : Pocket} (h : k.run.d ≤ k.run.t ∧ k.run.t ≤ 57600) (r : ScanRing)
    (p : PocketId) : (k.fill r p).run.d ≤ (k.fill r p).run.t ∧ (k.fill r p).run.t ≤ 57600 := by
  unfold Pocket.fill
  split
  · exact h
  · split
    · exact h
    · rename_i c hc
      unfold ScanRing.record at hc
      split at hc
      · cases hc
      · split at hc
        · rename_i hread
          cases hc
          exact RunRecord.credit_of_inRange (readRecord_ok hread).2.2
        · cases hc

theorem Pocket.off_fill {k : Pocket} (h : k.off) (r : ScanRing) (p : PocketId) : (k.fill r p).off := by
  unfold Pocket.fill
  split
  · exact h
  · split <;> exact h

theorem antiCreaseDecision_figures (b : Backup) (run : RunRecord) (fig : Figures) (door : Nat) :
    (antiCreaseDecision b run fig door).figures = fig := by
  unfold antiCreaseDecision
  dsimp only
  split
  · rfl
  · split
    · rfl
    · split <;> rfl

/-- The D' of a plan at a scan is at most the credit it was computed from (R147). -/
theorem scanPlan_dPrime_le (c : WorkingCopy) (b : Backup) (k : Sensing) (run : RunRecord)
    (recovered : Recovered) (door : Nat) :
    (scanPlan c b k run recovered door).figures.dPrime ≤ run.d := by
  cases recovered with
  | none => exact Nat.zero_le _
  | unreadable => exact Nat.zero_le _
  | record kind phase faults =>
    have hfig := figures_dPrime_le c run (b.elapsed run.tref) k.theta (distrusts k faults)
    cases phase with
    | heat =>
      simp only [scanPlan]
      split <;> exact hfig
    | cool => exact (congrArg Figures.dPrime (coolDecision_figures _ _ _ _)).trans_le hfig
    | antiCrease => exact (congrArg Figures.dPrime (antiCreaseDecision_figures _ _ _ _)).trans_le hfig
    | _ => exact hfig

theorem State.settleEpoch_frame (s : State) (epochs : List Nat) :
    Keeps s (s.settleEpoch epochs) ∧ (s.settleEpoch epochs).psq = s.psq
      ∧ (s.settleEpoch epochs).ss.power = s.ss.power := by
  have hset : Keeps s { s with bd := { s.bd with epoch := chooseEpoch epochs } } :=
    Keeps.of_eq
  have hlost : Keeps s { s with bd := { s.bd with epoch := chooseEpoch epochs }
                                ss := { s.ss with backupLost := true } } :=
    Keeps.of_eq
  unfold State.settleEpoch
  split
  · dsimp only
    split
    · exact ⟨hlost.trans (Keeps.post _ _ _ _), rfl, rfl⟩
    · exact ⟨hset, rfl, rfl⟩
  · exact ⟨Keeps.refl s, rfl, rfl⟩

/-- The scan's results taken over, its epoch chosen and the door watches disarmed (R140, steps 1 to 4). -/
def State.scanned (s : State) (sc : Scan) : State :=
  let s2 : State := { s with
    jc := { s.jc with
      rings := ⟨sc.rings.u.ring, sc.rings.l.ring⟩, engine := .free, scan := none }
    psq := ⟨s.psq.u.fill sc.rings.u .U, s.psq.l.fill sc.rings.l .L⟩ }
  let s3 := s2.settleEpoch sc.epochs
  { s3 with bd := { s3.bd with watch := ⟨s3.bd.watch.u.disarm, s3.bd.watch.l.disarm⟩ } }

theorem State.scanEnd_eq (s : State) (sc : Scan) :
    s.scanEnd sc = (((s.scanned sc).planAtScan .U).planAtScan .L).enterArm := rfl

theorem Keeps.enterArm (s : State) (hrun : s.inRun = false) : Keeps s s.enterArm := by
  have harm : Keeps s { s with ss := { s.ss with
      power := .wake .arm, armTimer := some (s.time + seconds 60) } } :=
    { pending := rfl, time := rfl, journal := id, copy := id
      credit := fun h p => by
        refine (State.creditSafe_congr ?_ ?_ ?_ ?_).trans (h p)
        iterate 3 rfl
        exact hrun.symm
      outputs := fun h => by
        rw [outputsSafe_iff] at h ⊢
        exact fun _ => h hrun
      queues := fun h => ⟨⟨h.events, h.starts, h.writes, h.replies, h.links⟩, fun hr => nomatch hr⟩ }
  unfold State.enterArm
  dsimp only
  split
  · exact harm.trans (Keeps.enterRun _)
  · exact harm

/-- Steps 1 to 4 frame all but the run records, whose credit they leave within the target. -/
theorem State.scanned_spec (s : State) (sc : Scan) :
    (s.scanned sc).pending = s.pending ∧ (s.scanned sc).time = s.time
      ∧ (s.journalSafe = true → (s.scanned sc).journalSafe = true)
      ∧ (copySafe s.cfg = true → copySafe (s.scanned sc).cfg = true)
      ∧ ((∀ p, (s.pocket p).run.d ≤ (s.pocket p).run.t ∧ (s.pocket p).run.t ≤ 57600) →
          ∀ p, ((s.scanned sc).pocket p).run.d ≤ ((s.scanned sc).pocket p).run.t
            ∧ ((s.scanned sc).pocket p).run.t ≤ 57600)
      ∧ (s.scanned sc).ss.power = s.ss.power
      ∧ (s.outputsSafe = true → (s.scanned sc).outputsSafe = true)
      ∧ (QueuesSafe s → QueuesSafe (s.scanned sc)) := by
  generalize hs2 : ({ s with
    jc := { s.jc with rings := ⟨sc.rings.u.ring, sc.rings.l.ring⟩, engine := .free, scan := none }
    psq := ⟨s.psq.u.fill sc.rings.u .U, s.psq.l.fill sc.rings.l .L⟩ } : State) = s2
  obtain ⟨hkeeps, hpsq, hpower⟩ := s2.settleEpoch_frame sc.epochs
  have hlast : Keeps (s2.settleEpoch sc.epochs) (s.scanned sc) := by
    subst hs2
    exact Keeps.of_eq
  have hpsq' : (s.scanned sc).psq = (s2.settleEpoch sc.epochs).psq := by subst hs2; rfl
  have hpower' : (s.scanned sc).ss.power = (s2.settleEpoch sc.epochs).ss.power := by subst hs2; rfl
  have hall := hkeeps.trans hlast
  refine ⟨?_, ?_, fun h => hall.journal ?_, fun h => hall.copy ?_, fun h p => ?_, ?_,
    fun h => hall.outputs ?_, fun h => hall.queues ?_⟩
  · rw [hall.pending, ← hs2]
  · rw [hall.time, ← hs2]
  · subst hs2
    rw [journalSafe_iff] at h ⊢
    exact ⟨h.1, h.2.1, fun job n ph hbusy => nomatch hbusy⟩
  · subst hs2
    exact h
  · have hp := h p
    simp only [State.pocket, hpsq', hpsq]
    subst hs2
    cases p
    · exact Pocket.credit_fill hp _ _
    · exact Pocket.credit_fill hp _ _
  · rw [hpower', hpower, ← hs2]
  · subst hs2
    rw [outputsSafe_iff] at h ⊢
    exact fun hrun => (h hrun).imp (fun hk => Pocket.off_fill hk _ _) (fun hk => Pocket.off_fill hk _ _)
  · subst hs2
    refine ⟨⟨h.events, h.starts, h.writes, h.replies, ?_⟩, h.served⟩
    have hlinks := h.links
    by_cases hzero : s.jc.queue.countP (·.ofLink) = 0
    · refine .inl ?_
      rw [linkRequests_of_free rfl]
      exact hzero
    · have hle : s.jc.queue.countP (·.ofLink) ≤ s.jc.linkRequests := Nat.le_add_right _ _
      refine .inr ?_
      rw [linkRequests_of_free rfl]
      exact ⟨by change s.jc.queue.countP (·.ofLink) = 1; omega, (hlinks.resolve_left (by omega)).2⟩

theorem QueuesSafe.holdPlan {s : State} (h : QueuesSafe s) (p : PocketId) (pl : PlanRecord) :
    QueuesSafe (s.holdPlan p pl) :=
  (h.of_eq (t := { s with rp := s.rp.set p (some pl) }) rfl rfl rfl rfl).post _ _ _

/-- A plan held at the scan is within the target. -/
theorem Keeps.scanEnd {s : State} (hrun : s.inRun = false) (sc : Scan) :
    Keeps s (s.scanEnd sc) := by
  obtain ⟨hpending, htime, hjournal, hcopy, hfilled, hpower, houtputs, hqueues⟩ := s.scanned_spec sc
  rw [State.scanEnd_eq]
  generalize s.scanned sc = u at *
  have hrunU : u.inRun = false := by
    rw [← hrun]
    simp only [State.inRun, hpower]
  refine Keeps.trans ?_ (Keeps.enterArm _ hrunU)
  exact
    { pending := hpending
      time := htime
      journal := hjournal
      copy := hcopy
      credit := fun h p => by
        obtain ⟨hd, ht⟩ := hfilled (fun q => ((creditSafe_iff s q).mp (h q)).imp_right And.left) p
        refine (creditSafe_iff _ p).mpr ⟨hd, ht, fun pl hpl => .inr ⟨hrunU, ?_⟩⟩
        cases p <;> cases hpl <;> exact (scanPlan_dPrime_le _ _ _ _ _ _).trans hd
      outputs := houtputs
      queues := fun h => ((hqueues h).holdPlan _ _).holdPlan _ _ }

/-! ### The load sequence (R133 to R136) -/

theorem Keeps.readSlot (s : State) (p : PocketId) (slot : Fin 124) (sc : Scan) :
    Keeps s (s.readSlot p slot sc) := by
  refine Keeps.setJournal (s := s) (fun _ job n ph hbusy => ?_) (fun q h => h) ?_
  · cases hbusy
    rfl
  · rw [linkRequests_of_busy rfl]
    exact Nat.le_add_right _ _

theorem Keeps.ringEnd {s : State} (hrun : s.inRun = false) (p : PocketId) (sc : Scan) :
    Keeps s (s.ringEnd p sc) := by
  cases p
  · exact Keeps.readSlot _ _ _ _
  · exact Keeps.scanEnd hrun sc

theorem Keeps.slotDone {s : State} (hrun : s.inRun = false) (p : PocketId) (slot : Fin 124) (sc : Scan) :
    Keeps s (s.slotDone p slot sc) := by
  unfold State.slotDone
  split
  · exact Keeps.ringEnd hrun p sc
  · exact Keeps.readSlot _ _ _ _

/-- The working copy is replaced by a safe one (R134). -/
theorem Keeps.configLoaded (s : State) {c : WorkingCopy} (hshaped : shaped c = true)
    (hsafe : copySafe c = true) (defaulted : Bool) (sc : Scan) :
    Keeps s (s.configLoaded c defaulted sc) := by
  have hcopy : Keeps s ({ s with
      cfg := c
      ss := { s.ss with configDefaulted := s.ss.configDefaulted || defaulted }
      psq := ⟨s.psq.u.withCopies (c.copies .U), s.psq.l.withCopies (c.copies .L)⟩ } : State).recompare :=
    { pending := rfl, time := rfl
      journal := fun h => by
        rw [journalSafe_iff] at h ⊢
        exact ⟨h.1, hshaped, h.2.2⟩
      copy := fun _ => hsafe
      credit := fun h p => by
        refine (State.creditSafe_congr ?_ ?_ ?_ ?_).trans (h p)
        · cases p <;> rfl
        · cases p <;> rfl
        · rfl
        · rfl
      outputs := id
      queues := fun h => h.of_eq rfl rfl rfl rfl }
  exact hcopy.trans (Keeps.readSlot _ _ _ _)

theorem Keeps.configReadFailed (s : State) (cause : JournalCause) (sc : Scan) :
    Keeps s (s.configReadFailed cause sc) :=
  (Keeps.configLoaded s shaped_defaults copySafe_defaults true sc).trans (Keeps.setJournalFault _ _ _ _)

theorem State.setJournalFault_frame (s : State) (c : JournalCause) (place : JournalPlace) (tell : Bool) :
    (s.setJournalFault c place tell).psq = s.psq
      ∧ (s.setJournalFault c place tell).ss.power = s.ss.power
      ∧ (s.setJournalFault c place tell).jc = s.jc := by
  unfold State.setJournalFault
  dsimp only
  split <;> exact ⟨rfl, rfl, rfl⟩

theorem Keeps.slotReadFailed {s : State} (hrun : s.inRun = false) (p : PocketId) (cause : JournalCause)
    (sc : Scan) :
    Keeps s (s.slotReadFailed p cause sc) := by
  obtain ⟨-, hpower, -⟩ := s.setJournalFault_frame cause (.ring p) true
  refine (Keeps.setJournalFault s cause (.ring p) true).trans (Keeps.ringEnd ?_ p _)
  simpa only [State.inRun, hpower] using hrun

/-! ### Starts -/

@[simp] theorem length_le16 (v : Half) : (le16 v).length = 2 := rfl
@[simp] theorem length_le16Nat (n : Nat) : (le16Nat n).length = 2 := rfl
@[simp] theorem length_le16Int (i : Int) : (le16Int i).length = 2 := rfl
@[simp] theorem length_le32Nat (n : Nat) : (le32Nat n).length = 4 := rfl

@[simp] theorem CheckpointRecord.length_body (r : CheckpointRecord) : r.body.length = 62 := by
  delta CheckpointRecord.body
  simp only [List.length_append, length_le16Nat, length_le16Int, length_le32Nat, List.length_cons,
    List.length_nil, List.length_replicate]

@[simp] theorem CheckpointRecord.length_encode (r : CheckpointRecord) : r.encode.length = 64 := by
  simp [CheckpointRecord.encode]

@[simp] theorem length_encodeFields (vs : List Int) : (encodeFields vs).length = 2 * vs.length := by
  simp [encodeFields, List.length_flatMap, Nat.mul_comm]

theorem length_blockBody {c : WorkingCopy} (h : shaped c = true) : (blockBody c).length = 180 := by
  obtain ⟨h1, h2, h3, h4⟩ := (shaped_iff c).mp h
  simp [blockBody, h1, h2, h3, h4]

theorem length_composeBlock {c : WorkingCopy} (h : shaped c = true) :
    (composeBlock c).length = 512 := by
  simp only [composeBlock, List.length_append, length_blockBody h, length_le16, List.length_replicate]

theorem foldl_before_mem (ws : List WriteRequest) (w : WriteRequest) :
    ws.foldl (fun best x => if x.before best then x else best) w = w
      ∨ ws.foldl (fun best x => if x.before best then x else best) w ∈ ws := by
  induction ws generalizing w with
  | nil => exact .inl rfl
  | cons x ws ih =>
    rw [List.foldl_cons]
    rcases ih (if x.before w then x else w) with h | h
    · rw [h]
      split
      · exact .inr List.mem_cons_self
      · exact .inl rfl
    · exact .inr (List.mem_cons_of_mem _ h)

/-- The chosen request is one of the queue (R119). -/
theorem chooseRequest_mem {queue : List WriteRequest} {w : WriteRequest}
    (h : chooseRequest queue = some w) : w ∈ queue := by
  cases queue with
  | nil => cases h
  | cons x ws =>
    cases h
    rcases foldl_before_mem ws x with h | h
    · rw [h]
      exact List.mem_cons_self
    · exact List.mem_cons_of_mem _ h

theorem countP_erase_le (queue : List WriteRequest) (w : WriteRequest) (f : WriteRequest → Bool) :
    (queue.erase w).countP f ≤ queue.countP f :=
  List.erase_sublist.countP_le

/-- The start of a bus request moves it from the queue to the engine. -/
theorem Keeps.startLink {s : State} {w : WriteRequest} {job : Job} (hfree : s.jc.engine = .free)
    (hw : w ∈ s.jc.queue) (hlink : w.ofLink = true) (hjob : job.ofLink = true)
    (hfits : s.journalSafe = true → job.fits = true) :
    Keeps s ((s.dequeue w).startJob job) := by
  refine Keeps.setJournal (s := s) (fun h j n ph hbusy => ?_) (fun q h => ?_) (le_of_eq ?_)
  · cases hbusy
    exact hfits h
  · exact (countP_erase_le _ _ _).trans h
  · rw [linkRequests_of_free hfree, linkRequests_of_busy rfl, hjob]
    have hpos : 0 < s.jc.queue.countP (·.ofLink) := List.countP_pos_iff.mpr ⟨w, hw, hlink⟩
    simp only [State.dequeue, List.countP_erase, hw, hlink, and_self, if_true]
    omega

/-- A pocket's request leaves the queue. -/
theorem Keeps.dequeue {s : State} {w : WriteRequest} (hlink : w.ofLink = false) :
    Keeps s (s.dequeue w) := by
  refine Keeps.setJournal (s := s) (fun h => ((journalSafe_iff s).mp h).2.2)
    (fun q h => (countP_erase_le _ _ _).trans h) (le_of_eq ?_)
  simp [JournalController.linkRequests, List.countP_erase, hlink]

/-- A free engine takes a job that is no bus request. -/
theorem Keeps.startJob {s : State} {job : Job} (hfree : s.jc.engine = .free) (hjob : job.ofLink = false)
    (hfits : job.fits = true) : Keeps s (s.startJob job) := by
  refine Keeps.setJournal (s := s) (fun h j n ph hbusy => ?_) (fun q h => h) (le_of_eq ?_)
  · cases hbusy
    exact hfits
  · rw [linkRequests_of_free hfree, linkRequests_of_busy rfl, hjob]
    rfl

theorem Keeps.takeReference (s : State) (p : PocketId) : Keeps s (s.takeReference p) := by
  unfold State.takeReference
  dsimp only
  split
  · exact Keeps.refl s
  · split
    · exact Keeps.refl s
    · refine Keeps.setPockets (s := s) (fun q => ?_) ?_
      · cases p <;> cases q <;> exact ⟨rfl, rfl⟩
      · cases p <;> exact id

theorem Keeps.startWrite {s : State} (hfree : s.jc.engine = .free) (p : PocketId) (kind : RecordKind) :
    Keeps s (s.startWrite p kind) := by
  have hbefore : Keeps s (s.beforeSnapshot p) ∧ (s.beforeSnapshot p).jc = s.jc := by
    unfold State.beforeSnapshot
    split
    · exact ⟨Keeps.takeReference s p, State.jc_takeReference s p⟩
    · exact ⟨Keeps.refl s, rfl⟩
  refine hbefore.1.trans (Keeps.startJob (hbefore.2 ▸ hfree) rfl ?_)
  simpa [Job.fits, Job.bytesOut] using (slotAddress_bounds _ _).2

theorem Keeps.startChosen (n : Nat) {s : State} (hfree : s.jc.engine = .free) :
    Keeps s (s.startChosen n) := by
  induction n generalizing s with
  | zero => exact Keeps.refl s
  | succ n ih =>
    have hrefused : ∀ (w : WriteRequest) (p : PocketId) (c : JournalCause), w.ofLink = false →
        Keeps s (((s.dequeue w).refuse p c).startChosen n) := by
      intro w p c hlink
      refine ((Keeps.dequeue hlink).trans (Keeps.setJournalFault _ _ _ _)).trans (ih ?_)
      obtain ⟨-, -, hjc⟩ := (s.dequeue w).setJournalFault_frame c (.ring p)
        (s.dequeue w).ss.journalFault.isNone
      exact (congrArg JournalController.engine hjc).trans hfree
    unfold State.startChosen
    split
    · exact Keeps.refl s
    · rename_i w hw
      split
      · exact Keeps.refl s
      · exact Keeps.refl s
      · rename_i p kind hwhat
        have hlink : w.ofLink = false := by simp [WriteRequest.ofLink, hwhat]
        split
        · exact hrefused w p _ hlink
        · exact hrefused w p _ hlink
        · exact (Keeps.dequeue hlink).trans (Keeps.startWrite (s := s.dequeue w) hfree p kind)
        · exact (Keeps.dequeue hlink).trans (Keeps.startWrite (s := s.dequeue w) hfree p kind)

/-! ### Failures and completions -/

/-- The engine is free after a job that is no bus request. -/
theorem Keeps.freeEngine {s : State} {job : Job} {n : Nat} {ph : EnginePhase}
    (h : s.jc.engine = .busy job n ph) (hjob : job.ofLink = false) : Keeps s s.freeEngine := by
  refine Keeps.setJournal (s := s) (fun _ j n ph hbusy => nomatch hbusy) (fun q h => h) (le_of_eq ?_)
  rw [linkRequests_of_busy h, linkRequests_of_free rfl, hjob]
  rfl

/-- The engine goes on with its job. -/
theorem Keeps.setEngine {s : State} {job : Job} {n m : Nat} {ph ph' : EnginePhase}
    (h : s.jc.engine = .busy job n ph) :
    Keeps s { s with jc := { s.jc with engine := .busy job m ph' } } := by
  refine Keeps.setJournal (s := s) (fun hs j n' ph' hbusy => ?_) (fun q h => h) (le_of_eq ?_)
  · cases hbusy
    exact ((journalSafe_iff s).mp hs).2.2 job n ph h
  · rw [linkRequests_of_busy h, linkRequests_of_busy rfl]

theorem Keeps.retry {s : State} {job : Job} {n : Nat} {ph : EnginePhase}
    (h : s.jc.engine = .busy job n ph) (attempt : Nat) (cause : JournalCause) (ph' : EnginePhase) :
    Keeps s (s.retry job attempt cause ph') :=
  (Keeps.setEngine h).trans (Keeps.post _ _ _ _)

theorem State.inRun_of_power {s : State} {x : WakeStage} (h : s.ss.power = .wake x) :
    s.inRun = false := by
  simp [State.inRun, h]

/-- The third attempt of a job has failed. -/
theorem Keeps.spent {s : State} {job : Job} {n : Nat} {ph : EnginePhase}
    (h : s.jc.engine = .busy job n ph) (cause : JournalCause) :
    Keeps s (s.spent job cause) := by
  cases job with
  | checkpoint p slot seq image =>
    exact ((Keeps.freeEngine h rfl).trans (Keeps.setJournalFault _ _ _ _)).trans (Keeps.finishHoldUp _)
  | store block =>
    exact ((Keeps.endBusRequest h rfl _).trans (Keeps.setJournalFault _ _ _ _)).trans
      (Keeps.finishHoldUp _)
  | read p slot =>
    exact ((Keeps.endBusRequest h rfl _).trans (Keeps.setJournalFault _ _ _ _)).trans
      (Keeps.finishHoldUp _)
  | configRead =>
    unfold State.spent
    dsimp only
    split
    · exact Keeps.configReadFailed _ _ _
    · exact Keeps.freeEngine h rfl
  | slotRead p slot =>
    unfold State.spent
    dsimp only
    split
    · rename_i hpower _
      exact Keeps.slotReadFailed (State.inRun_of_power hpower) _ _ _
    · exact Keeps.freeEngine h rfl

end Sys2Proof.Machine
end

section
/-! The Message Link and the requests keep the properties. -/

namespace Sys2Proof.Machine

/-! ### The link alone -/

/-- A frame in the receiver is no part of the properties. -/
theorem Keeps.setRx (s : State) (rx : Receiver) : Keeps s (s.setRx rx) :=
  Keeps.setLink fun h => { h with }

@[simp] theorem Link.replies_sendReject (l : Link) (kind tag : Byte) (c : RejectCause) :
    (l.sendReject kind tag c).replies = l.replies := by
  unfold Link.sendReject Link.replies
  split <;> simp

/-- A REJECT joins the transmitter alone. -/
theorem Link.sendReject_frame (l : Link) (kind tag : Byte) (c : RejectCause) :
    (l.sendReject kind tag c).outstanding = l.outstanding ∧ (l.sendReject kind tag c).orphan = l.orphan
      ∧ (l.sendReject kind tag c).events = l.events ∧ (l.sendReject kind tag c).rx = l.rx := by
  unfold Link.sendReject
  split <;> exact ⟨rfl, rfl, rfl, rfl⟩

theorem Keeps.reject (s : State) (kind tag : Byte) (c : RejectCause) :
    Keeps s (s.reject kind tag c) := by
  obtain ⟨hout, horphan, hevents, -⟩ := s.ml.sendReject_frame kind tag c
  refine Keeps.setLink fun h =>
    { events := by simpa only [hevents] using h.events
      starts := h.starts, served := h.served, writes := h.writes
      replies := by simpa only [hout, Link.replies_sendReject] using h.replies
      links := by simpa only [hout, horphan, Link.replies_sendReject] using h.links }

theorem JournalController.linkBusy_iff (j : JournalController) :
    j.linkBusy = true ↔ j.linkRequests ≠ 0 := by
  have hqueue : j.queue.any (·.ofLink) = true ↔ 0 < j.queue.countP (·.ofLink) := by
    rw [List.countP_pos_iff, List.any_eq_true]
  unfold JournalController.linkBusy JournalController.linkRequests
  rw [Bool.or_eq_true, hqueue]
  cases j.engine with
  | free => simp
  | busy job n ph =>
    dsimp only
    cases job.ofLink <;> simp

/-- A break makes an orphan of the one bus request that was the outstanding one (R161, R162). -/
theorem Keeps.lineBreak (s : State) :
    Keeps s { s with ml := { s.ml with
      rx := .lineBreak
      tx := []
      outstanding := none
      orphan := s.ml.orphan || (s.ml.outstanding.isSome && s.jc.linkBusy) } } := by
  refine Keeps.setLink fun h =>
    { events := h.events, starts := h.starts, served := h.served, writes := h.writes
      replies := Nat.zero_le _, links := h.links.imp_right ?_ }
  rintro ⟨hone, howed⟩
  have hbusy := s.jc.linkBusy_iff.mpr (by omega)
  refine ⟨hone, .inl ?_⟩
  rcases howed with horphan | ⟨hasked, -⟩
  · simp [horphan]
  · simp [hasked, hbusy]

theorem Link.deliverReply_frame (l : Link) :
    l.deliverReply.orphan = l.orphan ∧ l.deliverReply.outstanding = none ∧ l.deliverReply.rx = l.rx
      ∧ l.deliverReply.events.length ≤ l.events.length := by
  have hdrop : ∀ n, (l.events.drop n).length ≤ l.events.length := fun n => by simp
  unfold Link.deliverReply
  dsimp only
  split
  · exact ⟨rfl, rfl, rfl, le_refl _⟩
  · split
    · exact ⟨rfl, rfl, rfl, le_refl _⟩
    · exact ⟨rfl, rfl, rfl, hdrop _⟩

/-- The delivery of a reply ends the outstanding request, of a REJECT nothing (R162, log 28). -/
theorem Keeps.deliver (s : State) : Keeps s { s with ml := s.ml.deliver } := by
  refine Keeps.setLink fun h => ?_
  obtain ⟨horphan, hout, -, hevents⟩ := s.ml.deliverReply_frame
  have hreplies := h.replies
  have hlinks := h.links
  unfold Link.deliver
  split
  · exact { h with }
  · rename_i f rest htx
    have hsum : s.ml.replies = (if f.reject then 0 else 1) + rest.countP (fun f => !f.reject) := by
      rw [Link.replies, htx, List.countP_cons]
      cases f.reject <;> simp [Nat.add_comm]
    split
    · rename_i hreject
      rw [if_pos hreject, Nat.zero_add] at hsum
      exact { h with
        replies := by rw [hsum] at hreplies; exact hreplies
        links := by rw [hsum] at hlinks; exact hlinks }
    · rename_i hreply
      rw [if_neg hreply] at hsum
      have hlast : rest.countP (fun f => !f.reject) = 0 := by
        split at hreplies <;> omega
      exact
        { starts := h.starts, served := h.served, writes := h.writes
          events := hevents.trans h.events
          replies := hlast.le.trans (Nat.zero_le _)
          links := hlinks.imp_right fun ⟨hone, howed⟩ => ⟨hone, .inl (by
            rcases howed with ho | ⟨-, hnone⟩
            · exact horphan.trans ho
            · omega)⟩ }

/-! ### Requests -/

/-- Nothing is answered yet of the outstanding request, and no bus request is its own. -/
structure Answerable (s : State) : Prop where
  none : s.ml.replies = 0
  asked : s.ml.outstanding.isSome = true
  links : s.jc.linkRequests = 0 ∨ s.jc.linkRequests = 1 ∧ s.ml.orphan = true

/-- The receiver is as it was, and the same request is outstanding. -/
def Link.sameAsk (l m : Link) : Prop := m.rx = l.rx ∧ m.owed = l.owed

@[simp] theorem Link.rx_reply (l : Link) (r : Reply) : (l.reply r).rx = l.rx := by
  unfold Link.reply
  split <;> rfl

@[simp] theorem Link.owed_reply (l : Link) (r : Reply) : (l.reply r).owed = l.owed := by
  simp [Link.owed]

/-- What a served request keeps, once its reply is composed. -/
structure ServedKeeps (s : State) (x : Served) : Prop where
  data : KeepsData s x.settle
  ask : s.ml.sameAsk x.settle.ml
  queues : Answerable s → QueuesSafe s → QueuesSafe x.settle

theorem ServedKeeps.replied {s u : State} (r : Reply) (h : Keeps s u)
    (ha : Answerable s → Answerable u) (hask : s.ml.sameAsk u.ml) : ServedKeeps s (u, some r) where
  ask := ⟨(Link.rx_reply _ _).trans hask.1, (Link.owed_reply _ _).trans hask.2⟩
  data := h.toKeepsData.trans
    (KeepsData.of_eq (t := { u with ml := u.ml.reply r }) rfl rfl rfl rfl rfl rfl rfl rfl)
  queues := fun hs hq => by
    obtain ⟨hnone, hasked, hlinks⟩ := ha hs
    have hu := h.queues hq
    have horphan : (u.ml.reply r).orphan = u.ml.orphan := by
      unfold Link.reply
      split <;> rfl
    refine ⟨⟨?_, hu.starts, hu.writes, ?_, ?_⟩, hu.served⟩
    · change (u.ml.reply r).events.length ≤ 16
      simpa using hu.events
    · change (u.ml.reply r).replies ≤ if (u.ml.reply r).outstanding.isSome then 1 else 0
      rw [Link.replies_reply, hnone, Link.outstanding_reply, Nat.zero_add]
    · exact hlinks.imp_right fun ⟨hone, ho⟩ => ⟨hone, .inl (horphan.trans ho)⟩

theorem ServedKeeps.answer (s : State) (st : Status) : ServedKeeps s (s.answer st) :=
  .replied _ (Keeps.refl s) id ⟨rfl, rfl⟩

theorem WorkFrame.answerable {s u : State} (h : WorkFrame s u) (hs : Answerable s) : Answerable u where
  none := by rw [Link.replies, h.tx]; exact hs.none
  asked := h.queues.asked.trans hs.asked
  links := by rw [h.queues.linkRequests h.engine, h.orphan]; exact hs.links

theorem ServedKeeps.carriedOut {s u : State} (h : WorksInRun s u) (hrun : s.inRun = true) (r : Reply) :
    ServedKeeps s (u.carriedOut r) :=
  .replied _ (h.granted hrun) h.arbitrated.toWorkFrame.answerable
    ⟨h.arbitrated.queues.rx, h.arbitrated.queues.owed⟩

/-- A pocket's request is refused, or passes in RUN. -/
theorem ServedKeeps.pocketRequest {s : State} {b : Byte} {passes : PocketId → Bool} {fail : Status}
    {act : PocketId → Served} (h : ∀ p, s.inRun = true → passes p = true → ServedKeeps s (act p)) :
    ServedKeeps s (s.pocketRequest b passes fail act) := by
  unfold State.pocketRequest
  split
  · exact .answer _ _
  · split
    · exact .answer _ _
    · rename_i hrun
      split
      · exact h _ (by simpa using hrun) ‹_›
      · exact .answer _ _

theorem ServedKeeps.serveStartCycle (s : State) (b : Byte) (a : CycleArgs) (ch : Option CycleChoices) :
    ServedKeeps s (s.serveStartCycle b a ch) := by
  refine .pocketRequest fun p hrun _ => ?_
  split
  · exact .answer _ _
  · refine .carriedOut (WorksInRun.startCycle s p a.clamp _ ?_) hrun _
    simp only [CycleArgs.clamp, clampNat]
    omega

theorem ServedKeeps.serveExtend (s : State) (b : Byte) (amount : Half) :
    ServedKeeps s (s.serveExtend b amount) := by
  refine .pocketRequest fun p hrun _ => ?_
  exact .carriedOut (WorksInRun.extendTo (by omega) (by omega)) hrun _

theorem ServedKeeps.serveSetStage (s : State) (b stage : Byte) :
    ServedKeeps s (s.serveSetStage b stage) := by
  refine .pocketRequest fun p hrun _ => ?_
  split
  · exact .answer _ _
  · refine .carriedOut (WorksInRun.setRun ?_) hrun _
    exact fun hd ht => ⟨hd, ht⟩

theorem ServedKeeps.serveEndHeat (s : State) (b : Byte) : ServedKeeps s (s.serveEndHeat b) :=
  .pocketRequest fun p hrun _ => .carriedOut
    (((ActsOn.refl p s).endHeat _ _).works ((KeepsQueues.refl s).endHeat _ _)) hrun _

theorem WorksInRun.stopBy {s u : State} {p : PocketId} (h : s.stopBy p = some u) : WorksInRun s u := by
  by_cases hheld : (s.pocket p).phase = .held
  · rw [State.stopBy_of_held hheld] at h
    exact Option.some.inj h ▸ WorksInRun.decline s p
  · have hacts := ActsOn.refl p s
    refine ActsOn.works (p := p) ?_ ((KeepsQueues.refl s).stopBy h)
    unfold State.stopBy at h
    split at h
    iterate 2 exact Option.some.inj h ▸ hacts.stopEarly
    iterate 4 exact Option.some.inj h ▸ hacts.endHeat _ _
    · exact Option.some.inj h ▸ hacts.setRun (by rfl) (by rfl) (by rfl)
    iterate 3 exact Option.some.inj h ▸ hacts.enterPhase _
    · exact absurd ‹_› hheld
    all_goals cases h

theorem ServedKeeps.serveStop (s : State) (b : Byte) : ServedKeeps s (s.serveStop b) := by
  refine .pocketRequest fun p hrun _ => ?_
  split
  · exact .answer _ _
  · rename_i hstop
    exact .carriedOut (WorksInRun.stopBy hstop) hrun _

theorem ServedKeeps.serveClear (s : State) (sel : Byte) : ServedKeeps s (s.serveClear sel) := by
  unfold State.serveClear
  split
  · exact .replied _ Keeps.of_eq (fun h => { h with }) ⟨rfl, rfl⟩
  · exact .pocketRequest fun p hrun _ => .carriedOut
      ((ActsOn.refl p s).clearPocket.works (KeepsQueues.refl s).clearPocket) hrun _

theorem ServedKeeps.servePocket (s : State) (b : Byte) : ServedKeeps s (s.servePocket b) := by
  unfold State.servePocket
  split
  · exact .answer _ _
  · rename_i p _
    have huse : Keeps s (s.useTheta p) ∧ (Answerable s → Answerable (s.useTheta p))
        ∧ s.ml.sameAsk (s.useTheta p).ml := by
      unfold State.useTheta
      split
      · exact ⟨Keeps.refl s, id, rfl, rfl⟩
      · exact ⟨Keeps.of_eq, fun h => { h with }, rfl, rfl⟩
    exact .replied _ huse.1 huse.2.1 huse.2.2

theorem ServedKeeps.serveEvents (s : State) : ServedKeeps s s.serveEvents := by
  refine .replied _ (Keeps.setLink fun h => ?_) (fun h => ?_) ⟨rfl, ?_⟩
  · have hreplies := h.replies
    have hlinks := h.links
    exact { h with
      replies := by simpa [Link.replies] using hreplies
      links := by simpa [Link.replies] using hlinks }
  · exact { h with asked := by simpa using h.asked }
  · simp [Link.owed, Function.comp_def]

theorem ServedKeeps.serveConfigWrite (s : State) (g f : Byte) (v : Half) :
    ServedKeeps s (s.serveConfigWrite g f v) := by
  unfold State.serveConfigWrite
  split
  · exact .answer _ _
  · split
    · exact .answer _ _
    · rename_i c clamped hwrite
      refine .replied _ ?_ (fun h => { h with }) ⟨rfl, rfl⟩
      exact
        { pending := rfl, time := rfl
          journal := fun h => by
            rw [journalSafe_iff] at h ⊢
            exact ⟨h.1, shaped_write h.2.1 hwrite, h.2.2⟩
          copy := fun h => copySafe_write h hwrite
          credit := id, outputs := id
          queues := fun h => h.of_eq rfl rfl rfl rfl }

theorem ServedKeeps.joinQueue (s : State) {what : WriteKind} (horphan : s.ml.orphan = false)
    (hlink : (⟨what, s.time⟩ : WriteRequest).ofLink = true) : ServedKeeps s (s.joinQueue what) where
  ask := ⟨rfl, rfl⟩
  data := KeepsData.of_eq rfl rfl rfl rfl rfl rfl rfl rfl
  queues := fun ha h => by
    have hpocket : ∀ q, (⟨what, s.time⟩ : WriteRequest).ofPocket q = false := by
      intro q
      cases what <;> simp_all [WriteRequest.ofLink, WriteRequest.ofPocket]
    have hnone : s.jc.linkRequests = 0 :=
      ha.links.resolve_right fun ⟨_, ho⟩ => by rw [horphan] at ho; cases ho
    refine ⟨⟨h.events, h.starts, fun q => ?_, h.replies, .inr ⟨?_, .inr ⟨ha.asked, ha.none⟩⟩⟩, h.served⟩
    · change (s.jc.queue ++ [_]).countP _ ≤ 1
      rw [List.countP_append, List.countP_singleton, hpocket q]
      exact h.writes q
    · have hadd : (s.joinQueue what).settle.jc.linkRequests = s.jc.linkRequests + 1 := by
        simp only [State.joinQueue, Served.settle, JournalController.linkRequests, List.countP_append,
          List.countP_singleton, hlink, if_true]
        omega
      omega

theorem ServedKeeps.serveConfigStore (s : State) : ServedKeeps s s.serveConfigStore := by
  unfold State.serveConfigStore
  split
  · exact .answer _ _
  · split
    · exact .answer _ _
    · rename_i horphan
      exact .joinQueue s (by simpa using horphan) rfl

theorem ServedKeeps.serveJournalRead (s : State) (b slot : Byte) :
    ServedKeeps s (s.serveJournalRead b slot) := by
  unfold State.serveJournalRead
  split
  · exact .answer _ _
  · split
    · exact .answer _ _
    · rename_i horphan
      split
      · exact .joinQueue s (by simpa using horphan) rfl
      · exact .answer _ _

theorem ServedKeeps.serve (s : State) (r : Request) : ServedKeeps s (s.serve r) := by
  cases r with
  | status => exact .replied _ (Keeps.refl s) id ⟨rfl, rfl⟩
  | pocket p => exact .servePocket s p
  | startCycle p t stage c x w b rt rev auto => exact .serveStartCycle s p _ _
  | extend p amount => exact .serveExtend s p amount
  | setStage p stage => exact .serveSetStage s p stage
  | endHeat p => exact .serveEndHeat s p
  | stop p => exact .serveStop s p
  | continueCycle b =>
    exact .pocketRequest fun p hrun _ => .carriedOut (WorksInRun.continueCycle s p) hrun _
  | plan p =>
    change ServedKeeps s (s.servePlan p)
    unfold State.servePlan
    split
    · exact .answer _ _
    · exact .replied _ (Keeps.refl s) id ⟨rfl, rfl⟩
  | confirm b => exact .pocketRequest fun p hrun _ => .carriedOut (WorksInRun.confirm s p) hrun _
  | decline b => exact .pocketRequest fun p hrun _ => .carriedOut (WorksInRun.decline s p) hrun _
  | clear sel => exact .serveClear s sel
  | events => exact .serveEvents s
  | configRead g f =>
    change ServedKeeps s (s.serveConfigRead g f)
    rw [State.serveConfigRead_eq]
    exact .replied _ (Keeps.refl s) id ⟨rfl, rfl⟩
  | configWrite g f v => exact .serveConfigWrite s g f v
  | configStore => exact .serveConfigStore s
  | journalRead p slot => exact .serveJournalRead s p slot

/-- A request is taken while none is outstanding, so no reply waits and a bus request is the orphan's. -/
theorem answerable_outstand {s : State} (h : QueuesSafe s) (hnone : s.ml.outstanding.isSome = false)
    (kind tag : Byte) : Answerable (s.outstand kind tag) ∧ QueuesSafe (s.outstand kind tag) := by
  have hreplies : s.ml.replies = 0 := by
    have := h.replies
    rw [hnone] at this
    simpa using this
  have hlinks : s.jc.linkRequests = 0 ∨ s.jc.linkRequests = 1 ∧ s.ml.orphan = true := by
    have := h.links
    rw [hnone] at this
    simpa using this
  exact ⟨⟨hreplies, rfl, hlinks⟩, { h with
    replies := hreplies.le.trans (Nat.zero_le _)
    links := hlinks.imp_right fun ⟨hone, ho⟩ => ⟨hone, .inl ho⟩ }⟩

theorem Keeps.take (s : State) (kind tag : Byte) (r : Option Request) : Keeps s (s.take kind tag r) := by
  unfold State.take
  split
  · exact Keeps.reject s kind tag .busy
  · rename_i hnone
    have hasked : KeepsData s (s.outstand kind tag) := KeepsData.of_eq rfl rfl rfl rfl rfl rfl rfl rfl
    have hserved : ∀ x, ServedKeeps (s.outstand kind tag) x → Keeps s x.settle := fun x hx =>
      { hasked.trans hx.data with
        queues := fun h => by
          obtain ⟨ha, hq⟩ := answerable_outstand h (by simpa using hnone) kind tag
          exact hx.queues ha hq }
    split
    · exact hserved _ (.answer _ _)
    · exact hserved _ (.serve _ _)

theorem Keeps.request (s : State) (tag : Byte) (r : Request) : Keeps s (s.request tag r) := by
  unfold State.request
  split
  · exact (Keeps.setRx s .idle).trans (Keeps.take _ _ _ _)
  · exact Keeps.refl s

/-! ### Characters -/

theorem Keeps.testFrame (s : State) (bytes : List Byte) (error : Bool) :
    Keeps s (s.testFrame bytes error) := by
  unfold State.testFrame
  dsimp only
  split
  · exact Keeps.reject _ _ _ _
  · split
    · exact Keeps.reject _ _ _ _
    · split
      · exact Keeps.take _ _ _ _
      · exact Keeps.reject _ _ _ _

theorem Keeps.takeChar (s : State) (c : LineChar) : Keeps s (s.takeChar c) := by
  have hjoin : ∀ bytes error, Keeps s (s.joinFrame bytes error) := by
    intro bytes error
    unfold State.joinFrame
    split
    · exact (Keeps.setRx _ _).trans (Keeps.reject _ _ _ _)
    · split
      · exact (Keeps.setRx _ _).trans (Keeps.testFrame _ _ _)
      · exact Keeps.setRx _ _
  have hstart : Keeps s (if c.mark then s.setRx (.receiving [c.byte] c.error) else s) := by
    split
    · exact Keeps.setRx _ _
    · exact Keeps.refl s
  unfold State.takeChar
  split
  · exact Keeps.refl s
  · exact hstart
  · exact hstart
  · split
    · exact Keeps.setRx _ _
    · exact hjoin _ _

theorem Keeps.takeChars (s : State) (cs : List LineChar) : Keeps s (s.takeChars cs) := by
  have hfold : ∀ u : State, Keeps u (cs.foldl State.takeChar u) := by
    induction cs with
    | nil => exact Keeps.refl
    | cons c cs ih => exact fun u => (Keeps.takeChar u c).trans (ih _)
  unfold State.takeChars
  split
  · exact hfold s
  · exact Keeps.refl s

end Sys2Proof.Machine
end

section
/-! Every command keeps the properties, and so does every step. -/

namespace Sys2Proof.Machine

/-! ### The Line Monitor (05) -/

theorem Keeps.postLine (s : State) (old : LineState) (peak : Byte) :
    Keeps s (s.postLine old peak) := by
  unfold State.postLine
  split
  · exact Keeps.refl s
  all_goals exact Keeps.post _ _ _ _

theorem State.power_postLine (s : State) (old : LineState) (peak : Byte) :
    (s.postLine old peak).ss.power = s.ss.power := by
  unfold State.postLine
  split <;> rfl

/-- A change of the power state within RUN or outside it. -/
theorem Keeps.setSupply {s : State} {ss : Supply}
    (hrun : ({ s with ss := ss } : State).inRun = s.inRun) : Keeps s { s with ss := ss } where
  pending := rfl
  time := rfl
  journal := fun h => by
    rw [journalSafe_iff] at h ⊢
    exact h
  copy := id
  credit := fun h p =>
    (State.creditSafe_congr (s := s) (t := { s with ss := ss }) rfl rfl rfl hrun).trans (h p)
  outputs := fun h => by
    rw [outputsSafe_iff] at h ⊢
    rwa [hrun]
  queues := fun h => ⟨⟨h.events, h.starts, h.writes, h.replies, h.links⟩, fun hr => h.served (hrun.symm.trans hr)⟩

theorem Keeps.noteVhu (s : State) (v : Byte) : Keeps s (s.noteVhu v) := Keeps.of_eq

theorem Keeps.beginLoad {s : State} {x : WakeStage} (h : s.ss.power = .wake x) :
    Keeps s s.beginLoad := by
  have hload : Keeps s { s with ss := { s.ss with power := .wake .load } } :=
    Keeps.setSupply (s := s) (State.inRun_of_power h).symm
  refine hload.trans (Keeps.setJournal (fun _ job n ph hbusy => ?_) (fun q hq => hq) ?_)
  · cases hbusy
    rfl
  · rw [linkRequests_of_busy rfl]
    exact Nat.le_add_right _ _

theorem State.inRun_finishHoldUp {s : State} (h : s.inRun = false) : s.finishHoldUp.inRun = false := by
  unfold State.finishHoldUp
  split
  · split
    · split
      · rfl
      · exact h
    · rfl
  · exact h

theorem State.inRun_enterHoldUp (s : State) : s.enterHoldUp.inRun = false :=
  State.inRun_finishHoldUp (s := s.heldUp) rfl

theorem Keeps.arbitrate (s : State) : Keeps s s.arbitrate := by
  cases hrun : s.inRun with
  | true => exact (WorksInRun.refl s).granted hrun
  | false => exact (State.arbitrate_of_not_inRun hrun).symm ▸ Keeps.refl s

/-- In LOAD, RUN and HOLD_UP a change of line state does what R94 says. -/
theorem Keeps.lineChanged (s : State) : Keeps s s.lineChanged.arbitrate := by
  have hidle : ∀ {u : State}, Keeps s u → u.inRun = false → Keeps s u.arbitrate := fun h hu => by
    rwa [State.arbitrate_of_not_inRun hu]
  have hrun : s.ss.power = .run → s.inRun = true := fun h => by simp [State.inRun, h]
  unfold State.lineChanged
  split
  · rename_i hpower
    exact hidle (Keeps.beginLoad hpower) rfl
  · rename_i hpower
    exact (((ActsOn.refl .U s).checkStartWait.checkHeatWait.works
      (KeepsQueues.refl s).checkStartWait.checkHeatWait).trans
        ((ActsOn.refl .L _).checkStartWait.checkHeatWait.works
          (KeepsQueues.refl _).checkStartWait.checkHeatWait)).granted (hrun hpower)
  · rename_i hpower
    exact (((ActsOn.refl .U s).lineLow.works (KeepsQueues.refl s).lineLow).trans
      ((ActsOn.refl .L _).lineLow.works (KeepsQueues.refl _).lineLow)).granted (hrun hpower)
  iterate 3 exact hidle (Keeps.enterHoldUp s) s.inRun_enterHoldUp
  · exact Keeps.arbitrate s

theorem Keeps.returnMarkBy (s : State) (cls : HalfCycle) : Keeps s (s.returnMarkBy cls) := by
  unfold State.returnMarkBy
  split
  · split
    · exact Keeps.trans Keeps.of_eq (Keeps.finishHoldUp _)
    · exact Keeps.trans Keeps.of_eq (Keeps.finishHoldUp _)
    · exact Keeps.refl s
  · exact Keeps.refl s

theorem Keeps.halfCycle (s : State) (cls : HalfCycle) (interval : Nat) (peak : Byte) :
    Keeps s (s.halfCycle cls interval peak) := by
  unfold State.halfCycle
  dsimp only
  refine Keeps.trans ?_ (Keeps.returnMarkBy _ cls)
  split
  · exact Keeps.of_eq
  · exact (Keeps.trans Keeps.of_eq (Keeps.postLine _ _ _)).trans (Keeps.lineChanged _)

/-! ### The Supply Supervisor (06) -/

theorem Keeps.fallBelowFloor (s : State) (v : Byte) : Keeps s (s.fallBelowFloor v) := by
  unfold State.fallBelowFloor
  dsimp only
  split
  · exact Keeps.trans Keeps.of_eq (Keeps.enterHoldUp _)
  · exact Keeps.trans Keeps.of_eq (Keeps.finishHoldUp _)

/-- The power states once VHU has reached the wake threshold (R99, R106, R107). -/
def State.wakeBy (s : State) (reached : Bool) : State :=
  match s.ss.power with
  | .dark =>
    if reached then
      if s.pins.rst then { s with ss := { s.ss with power := .reset } } else s.enterWake
    else s
  | .reset => if reached && !s.pins.rst then s.enterWake else s
  | .holdUp => s.finishHoldUp
  | .wake _ | .run => s

theorem Keeps.wakeBy (s : State) (reached : Bool) : Keeps s (s.wakeBy reached) := by
  unfold State.wakeBy
  split
  · rename_i hpower
    split
    · split
      · exact Keeps.setSupply (s := s) (by simp [State.inRun, hpower])
      · exact Keeps.enterWake s
    · exact Keeps.refl s
  · split
    · exact Keeps.enterWake s
    · exact Keeps.refl s
  · exact Keeps.finishHoldUp s
  · exact Keeps.refl s
  · exact Keeps.refl s

/-- The power states once VHU has fallen below the dark threshold (R99, R105, R107). -/
def State.darkBy (s : State) (fell : Bool) (acked : Nat) : State :=
  if fell then
    match s.ss.power with
    | .wake _ | .holdUp => (s.storeAcked acked).enterDark
    | .reset => s.enterDark
    | .run | .dark => s
  else s

theorem Keeps.darkBy (s : State) (fell : Bool) (acked : Nat) : Keeps s (s.darkBy fell acked) := by
  unfold State.darkBy
  split
  · split
    · exact (Keeps.storeAcked s acked).trans (Keeps.enterDark _)
    · exact (Keeps.storeAcked s acked).trans (Keeps.enterDark _)
    · exact Keeps.enterDark s
    · exact Keeps.refl s
    · exact Keeps.refl s
  · exact Keeps.refl s

/-- The part as it halts in RESET (R107). -/
def State.halted (s : State) : State :=
  { s with
    ss := { s.ss with power := .reset }
    psq := ⟨s.psq.u.halt, s.psq.l.halt⟩
    bd := s.bd.armWatches }

theorem Keeps.halted (s : State) : Keeps s s.halted where
  pending := rfl
  time := rfl
  journal := fun h => by
    rw [journalSafe_iff] at h ⊢
    exact h
  copy := id
  credit := fun h p => by
    have hp := (creditSafe_iff s p).mp (h p)
    refine (creditSafe_iff _ p).mpr ?_
    obtain ⟨hd, ht, hplan⟩ := hp
    cases p <;> exact ⟨hd, ht, fun pl hpl => (hplan pl hpl).imp_right fun hlim => ⟨rfl, hlim.2⟩⟩
  outputs := fun _ => rfl
  queues := fun h => ⟨⟨h.events, h.starts, h.writes, h.replies, h.links⟩, fun hr => nomatch hr⟩

/-! ### The Journal Controller (07) -/

theorem State.free_of_mayStart {s : State} (h : s.mayStart = true) : s.jc.engine = .free := by
  simp only [State.mayStart, Bool.and_eq_true, beq_iff_eq] at h
  exact h.1

theorem State.engine_storeAcked (s : State) (acked : Nat) :
    (s.storeAcked acked).jc.engine = s.jc.engine := by
  rw [s.storeAcked_frame acked]

theorem Keeps.emptyQueue (s : State) : Keeps s { s with jc := { s.jc with queue := [] } } := by
  refine Keeps.setJournal (s := s) (fun h => ((journalSafe_iff s).mp h).2.2)
    (fun q _ => Nat.zero_le _) ?_
  exact Nat.add_le_add_right (Nat.zero_le _) _

theorem Keeps.writeDone {s : State} {p : PocketId} {slot : Fin 124} {seq n : Nat} {image : List Byte}
    {ph : EnginePhase} (h : s.jc.engine = .busy (.checkpoint p slot seq image) n ph) :
    Keeps s (s.writeDone p slot seq image) := by
  have hstored : Keeps s { s with
      journal := Memory.writeBytes s.journal (slotAddress p slot) image, storeCut := s.storeCut } :=
    Keeps.setMemory fun hsafe => by
      obtain ⟨hwf, -, hfits⟩ := (journalSafe_iff s).mp hsafe
      exact Memory.wf_writeBytes hwf _ (by simpa [Job.fits, Job.bytesOut] using hfits _ _ _ h)
  refine hstored.trans (Keeps.setJournal (fun _ job n ph hbusy => nomatch hbusy) (fun q hq => hq) ?_)
  exact Nat.add_le_add_left (Nat.zero_le _) _

theorem Keeps.blockDone {s : State} {block : List Byte} {n : Nat} {ph : EnginePhase}
    (h : s.jc.engine = .busy (.store block) n ph) :
    Keeps s { s.freeEngine with
      journal := Memory.writeBytes s.journal 0 block
      storeCut := false
      ml := s.ml.endBusRequest .ok } := by
  have hstored : Keeps s { s with journal := Memory.writeBytes s.journal 0 block, storeCut := false } :=
    Keeps.setMemory fun hsafe => by
      obtain ⟨hwf, -, hfits⟩ := (journalSafe_iff s).mp hsafe
      exact Memory.wf_writeBytes hwf _ (by simpa [Job.fits, Job.bytesOut] using hfits _ _ _ h)
  exact hstored.trans (Keeps.endBusRequest
    (s := { s with journal := Memory.writeBytes s.journal 0 block, storeCut := false }) h rfl .ok)

/-! ### The commands -/

/-- A command of dt later ends in a next state that keeps the properties. -/
def KeepsAfter (s : State) (dt : Nat) (o : Host.Outcome State Fault Refusal) : Prop :=
  ∃ t, o = .next t ∧ Keeps (s.advance dt) t

namespace KeepsAfter

variable {s : State} {dt : Nat}

theorem of_keeps {t : State} (h : Keeps (s.advance dt) t) : KeepsAfter s dt (.next t) := ⟨t, rfl, h⟩

/-! ### Timers and holds -/

/-- A pocket's work in RUN at an expiry, with the grant that follows. -/
theorem granted_if {u : State} {c : Prop} [Decidable c] (hrun : c → (s.advance dt).inRun = true)
    (h : c → WorksInRun (s.advance dt) u) :
    KeepsAfter s dt (.next (if c then u.arbitrate else s.advance dt)) := by
  refine of_keeps ?_
  split
  · rename_i hc
    exact (h hc).granted (hrun hc)
  · exact Keeps.refl _

theorem inRun_of_and {b : Bool} {u : State} (h : (u.inRun && b) = true) : u.inRun = true :=
  (Bool.and_eq_true_iff.mp h).1

theorem pocketTimerExpiry (p : PocketId) : KeepsAfter s dt (execPocketTimerExpiry dt p s) :=
  granted_if inRun_of_and fun _ =>
    (((ActsOn.refl p _).setTimers _).works ((KeepsQueues.refl _).setTimers _)).trans
      (WorksInRun.pocketSecond _ _)

theorem periodicTimerExpiry (p : PocketId) : KeepsAfter s dt (execPeriodicTimerExpiry dt p s) := by
  refine of_keeps ?_
  split
  · rename_i hc
    refine WorksInRun.keeps ((((ActsOn.refl p _).setTimers _).postRequest _).works
      (((KeepsQueues.refl _).setTimers _).postRequest _)) (inRun_of_and hc) fun h => ?_
    exact h.served (inRun_of_and hc)
  · exact Keeps.refl _

theorem startProofTimerExpiry (p : PocketId) : KeepsAfter s dt (execStartProofTimerExpiry dt p s) :=
  granted_if inRun_of_and fun _ => (ActsOn.refl p _).drumStall.works (KeepsQueues.refl _).drumStall

theorem airflowGraceExpiry (p : PocketId) : KeepsAfter s dt (execAirflowGraceExpiry dt p s) :=
  granted_if inRun_of_and fun _ => (ActsOn.refl p _).spinupVent.works (KeepsQueues.refl _).spinupVent

theorem purgeTimerExpiry (p : PocketId) : KeepsAfter s dt (execPurgeTimerExpiry dt p s) :=
  granted_if inRun_of_and fun _ =>
    (ActsOn.refl p _).enterIgnition.works (KeepsQueues.refl _).enterIgnition

theorem heatGraceExpiry (p : PocketId) : KeepsAfter s dt (execHeatGraceExpiry dt p s) :=
  granted_if inRun_of_and fun _ => (ActsOn.refl p _).ventBlocked.works (KeepsQueues.refl _).ventBlocked

theorem ignitionTrialExpiry (p : PocketId) : KeepsAfter s dt (execIgnitionTrialExpiry dt p s) :=
  granted_if inRun_of_and fun _ => (ActsOn.refl p _).trialFailed.works (KeepsQueues.refl _).trialFailed

theorem burstProofTimerExpiry (p : PocketId) : KeepsAfter s dt (execBurstProofTimerExpiry dt p s) :=
  granted_if inRun_of_and fun _ => (ActsOn.refl p _).drumStall.works (KeepsQueues.refl _).drumStall

theorem restTimerExpiry (p : PocketId) : KeepsAfter s dt (execRestTimerExpiry dt p s) := by
  refine of_keeps ?_
  split
  · rename_i hc
    split
    · exact (((((ActsOn.refl p _).setTimers _).postStart _)).works
        (((KeepsQueues.refl _).setTimers _).postStart _)).granted (inRun_of_and hc)
    · exact ((ActsOn.refl p _).enterPhase _ |>.works ((KeepsQueues.refl _).enterPhase _)).granted
        (inRun_of_and hc)
  · exact Keeps.refl _

theorem heatStartHoldEnd : KeepsAfter s dt (execHeatStartHoldEnd dt s) := by
  refine of_keeps ?_
  split
  · rename_i hrun
    split
    · exact Keeps.refl _
    · rename_i p _
      split
      · exact ((ActsOn.refl p _).enterHeat.works (KeepsQueues.refl _).enterHeat).granted hrun
      · exact Keeps.refl _
  · exact Keeps.refl _

theorem motorStartHoldEnd : KeepsAfter s dt (execMotorStartHoldEnd dt s) := by
  refine of_keeps ?_
  split
  · rename_i hrun
    split
    · exact Keeps.refl _
    · exact (((ActsOn.refl .U _).setSlot { (s.advance dt).ssa with slot := none }).works
        ((KeepsQueues.refl _).setSlot id)).granted hrun
  · exact Keeps.refl _

/-! ### Sensing -/

/-- A new sensing record, and in RUN the pocket's work on it. -/
theorem sensed_if {b : Bool} {p : PocketId} {k : Sensing} {v : State}
    (hv : WorksInRun ((s.advance dt).setSense p k) v) :
    KeepsAfter s dt (.next (if b then
      if ((s.advance dt).setSense p k).inRun then v.arbitrate else (s.advance dt).setSense p k
    else s.advance dt)) := by
  refine of_keeps ?_
  split
  · split
    · rename_i hrun
      exact ((WorksInRun.setSense _ _ _).trans hv).granted hrun
    · exact Keeps.setSense _ _ _
  · exact Keeps.refl _

theorem rawContactChange (p : PocketId) (i : ContactInput) (level : Bool) :
    KeepsAfter s dt (execRawContactChange dt p i level s) := by
  refine of_keeps ?_
  split
  · exact Keeps.refl _
  · have hsense : Keeps (s.advance dt)
        (if ((s.advance dt).setPin p i level).ss.power.working then
          ((s.advance dt).setPin p i level).setSense p
            ((((s.advance dt).setPin p i level).sense p).setContact i
              (((((s.advance dt).setPin p i level).sense p).contact i).raw level
                ((s.advance dt).setPin p i level).time))
        else (s.advance dt).setPin p i level) := by
      split <;> exact Keeps.of_eq
    dsimp only
    generalize (if ((s.advance dt).setPin p i level).ss.power.working then
      ((s.advance dt).setPin p i level).setSense p _ else (s.advance dt).setPin p i level) = u
      at hsense ⊢
    split
    · exact hsense.trans (Keeps.of_eq)
    · exact hsense

theorem contactFilterExpiry (p : PocketId) (i : ContactInput) :
    KeepsAfter s dt (execContactFilterExpiry dt p i s) :=
  sensed_if ((((ActsOn.refl p _).postInput _ _).inputChanged _ _).works
    (((KeepsQueues.refl _).postInput _ _).inputChanged _ _))

theorem settlingTimerExpiry (p : PocketId) (i : ContactInput) :
    KeepsAfter s dt (execSettlingTimerExpiry dt p i s) := by
  refine of_keeps ?_
  split
  · cases hrun : (s.advance dt).inRun with
    | true =>
      exact ((WorksInRun.setSense _ _ _).trans ((ActsOn.refl p _).checkStartWait.checkHeatWait.works
        (KeepsQueues.refl _).checkStartWait.checkHeatWait)).granted hrun
    | false =>
      have hidle : ∀ u : State, u.inRun = false →
          ((u.checkStartWait p).checkHeatWait p).arbitrate = u := by
        intro u hu
        have hstart : u.checkStartWait p = u := by simp [State.checkStartWait, hu]
        have hheat : u.checkHeatWait p = u := by simp [State.checkHeatWait, hu]
        rw [hstart, hheat, State.arbitrate_of_not_inRun hu]
      have hsettled := hidle ((s.advance dt).setSense p (((s.advance dt).sense p).setContact i
        { level := ((s.advance dt).pins.contacts.get p).level i, settling := none, cand := none })) hrun
      exact hsettled.symm ▸ Keeps.setSense _ _ _
  · exact Keeps.refl _

theorem tachEdge (p : PocketId) (level : Bool) : KeepsAfter s dt (execTachEdge dt p level s) := by
  refine of_keeps ?_
  split
  · exact Keeps.refl _
  · dsimp only
    split <;> exact Keeps.of_eq

theorem tachPulseAccepted (p : PocketId) : KeepsAfter s dt (execTachPulseAccepted dt p s) :=
  sensed_if (WorksInRun.pulseTaken _ _)

theorem turningWindowExpiry (p : PocketId) : KeepsAfter s dt (execTurningWindowExpiry dt p s) := by
  refine of_keeps ?_
  split
  · dsimp only
    split
    · rename_i hc
      exact ((WorksInRun.setSense _ _ _).trans ((ActsOn.refl p _).drumStall.works
        (KeepsQueues.refl _).drumStall)).granted (inRun_of_and hc)
    · exact Keeps.setSense _ _ _
  · exact Keeps.refl _

theorem temperatureConversion (p : PocketId) (code : BitVec 10) :
    KeepsAfter s dt (execTemperatureConversion dt p code s) :=
  sensed_if ((((ActsOn.refl p _).sensorAfter _).tempHighGuard).works
    ((KeepsQueues.refl _).sensorAfter _).tempHighGuard)

/-! ### The line (05) -/

theorem zeroCrossing (v : Byte) : KeepsAfter s dt (execZeroCrossing dt v s) := by
  refine of_keeps ?_
  split
  · dsimp only
    split
    · exact Keeps.of_eq
    · split
      · exact Keeps.of_eq
      · split
        · exact Keeps.of_eq
        · exact Keeps.trans Keeps.of_eq (Keeps.halfCycle _ _ _ _)
  · exact Keeps.refl _

theorem silenceTimerExpiry : KeepsAfter s dt (execSilenceTimerExpiry dt s) := by
  refine of_keeps ?_
  split
  · exact Keeps.trans Keeps.of_eq (Keeps.halfCycle _ _ _ _)
  · exact Keeps.refl _

/-! ### The hold-up store, the RST pin and the Backup Domain (06) -/

theorem vhuReachesWake (v : Byte) : KeepsAfter s dt (execVhuReachesWake dt v s) :=
  of_keeps (Keeps.trans Keeps.of_eq (Keeps.wakeBy
    { (s.advance dt).noteVhu v with ss := { ((s.advance dt).noteVhu v).ss with
      atWake := (s.advance dt).wakeThreshold ≤ v.toNat } } _))

theorem vhuReachesArm (v : Byte) : KeepsAfter s dt (execVhuReachesArm dt v s) := by
  refine of_keeps ((Keeps.noteVhu _ v).trans ?_)
  split
  · exact Keeps.enterRun _
  · exact Keeps.finishHoldUp _

theorem armTimerExpiry : KeepsAfter s dt (execArmTimerExpiry dt s) := by
  refine of_keeps ?_
  split
  · split
    · exact (Keeps.trans Keeps.of_eq (Keeps.post _ _ _ _)).trans (Keeps.enterRun _)
    · exact Keeps.enterRun _
  · exact Keeps.refl _

theorem vhuBelowWriteFloor (v : Byte) : KeepsAfter s dt (execVhuBelowWriteFloor dt v s) :=
  of_keeps (Keeps.fallBelowFloor _ v)

theorem vhuBelowDark (v : Byte) (acked : Nat) : KeepsAfter s dt (execVhuBelowDark dt v acked s) := by
  have hfloor : ∀ u : State, Keeps u (if u.inRun then u.fallBelowFloor v else u) := by
    intro u
    split
    · exact Keeps.fallBelowFloor u v
    · exact Keeps.refl u
  exact of_keeps (Keeps.trans Keeps.of_eq ((hfloor
    { (s.advance dt).noteVhu v with ss := { ((s.advance dt).noteVhu v).ss with
      atDark := (s.advance dt).cfg.darkCode ≤ v.toNat } }).trans (Keeps.darkBy _ _ acked)))

theorem rstAssert (acked : Nat) : KeepsAfter s dt (execRstAssert dt acked s) := by
  have hhalt : ∀ u : State, Keeps u
      (if u.ss.power = .dark then u
        else (if u.ss.power.working then u.storeAcked acked else u).halted) := by
    intro u
    split
    · exact Keeps.refl u
    · split
      · exact (Keeps.storeAcked u acked).trans (Keeps.halted _)
      · exact Keeps.halted u
  refine of_keeps ?_
  split
  · exact Keeps.refl _
  · exact Keeps.trans Keeps.of_eq (hhalt { s.advance dt with
      pins := { (s.advance dt).pins with rst := true } })

theorem rstRelease : KeepsAfter s dt (execRstRelease dt s) := by
  refine of_keeps ?_
  dsimp only
  split
  · exact Keeps.trans Keeps.of_eq (Keeps.enterWake _)
  · exact Keeps.of_eq

theorem backupClockSecond : KeepsAfter s dt (execBackupClockSecond dt s) := by
  refine of_keeps ?_
  split <;> exact Keeps.of_eq

theorem backupSupplyFailure : KeepsAfter s dt (execBackupSupplyFailure dt s) := by
  refine of_keeps ?_
  split <;> exact Keeps.of_eq

theorem doorWatchFilterExpiry (p : PocketId) : KeepsAfter s dt (execDoorWatchFilterExpiry dt p s) := by
  refine of_keeps ?_
  split <;> exact Keeps.of_eq

/-! ### The journal (07, 08) -/

theorem checkpointWriteStart : KeepsAfter s dt (execCheckpointWriteStart dt s) := by
  refine of_keeps ?_
  split
  · rename_i hmay
    have hfree := State.free_of_mayStart (Bool.and_eq_true_iff.mp hmay).1
    split
    · exact (Keeps.emptyQueue _).trans (Keeps.finishHoldUp _)
    · exact (Keeps.startChosen _ hfree).trans (Keeps.finishHoldUp _)
  · exact Keeps.refl _

theorem checkpointWriteComplete : KeepsAfter s dt (execCheckpointWriteComplete dt s) := by
  refine of_keeps ?_
  split
  · rename_i hengine
    exact (Keeps.writeDone hengine).trans (Keeps.finishHoldUp _)
  · exact Keeps.refl _

theorem configStoreStart : KeepsAfter s dt (execConfigStoreStart dt s) := by
  refine of_keeps ?_
  split
  · rename_i w hmay hw
    split
    · rename_i hwhat
      refine Keeps.startLink (State.free_of_mayStart hmay) (chooseRequest_mem hw)
        (by simp [WriteRequest.ofLink, hwhat]) rfl fun hsafe => ?_
      have hshaped := ((journalSafe_iff _).mp hsafe).2.1
      have hlen := length_composeBlock hshaped
      simp only [Job.fits, Job.bytesOut, hlen]
      rfl
    · exact Keeps.refl _
    · exact Keeps.refl _
  · exact Keeps.refl _

theorem journalReadStart : KeepsAfter s dt (execJournalReadStart dt s) := by
  refine of_keeps ?_
  split
  · rename_i w hmay hw
    split
    · rename_i hwhat
      exact Keeps.startLink (State.free_of_mayStart hmay) (chooseRequest_mem hw)
        (by simp [WriteRequest.ofLink, hwhat]) rfl fun _ => rfl
    · exact Keeps.refl _
    · exact Keeps.refl _
  · exact Keeps.refl _

theorem configStoreComplete : KeepsAfter s dt (execConfigStoreComplete dt s) := by
  refine of_keeps ?_
  split
  · rename_i hengine
    exact (Keeps.blockDone hengine).trans (Keeps.finishHoldUp _)
  · exact Keeps.refl _

theorem journalReadComplete : KeepsAfter s dt (execJournalReadComplete dt s) := by
  refine of_keeps ?_
  split
  · rename_i hengine
    exact (Keeps.endBusRequest hengine rfl _).trans (Keeps.finishHoldUp _)
  · exact Keeps.refl _

theorem attemptNoAck (acked : Nat) : KeepsAfter s dt (execAttemptNoAck dt acked s) := by
  refine of_keeps ?_
  split
  · rename_i hengine
    have hstored : ((s.advance dt).storeAcked acked).jc.engine = _ :=
      ((s.advance dt).engine_storeAcked acked).trans hengine
    refine (Keeps.storeAcked _ acked).trans ?_
    dsimp only
    split
    · exact Keeps.retry hstored _ _ _
    · exact Keeps.spent hstored _
  · exact Keeps.refl _

theorem retryWaitExpiry : KeepsAfter s dt (execRetryWaitExpiry dt s) := by
  refine of_keeps ?_
  split
  · rename_i hengine
    split
    · exact Keeps.setEngine hengine
    · exact Keeps.refl _
  · exact Keeps.refl _

theorem busTimeout (acked : Nat) : KeepsAfter s dt (execBusTimeout dt acked s) := by
  refine of_keeps ?_
  split
  · rename_i hengine
    exact (Keeps.storeAcked _ acked).trans (Keeps.setEngine
      (((s.advance dt).engine_storeAcked acked).trans hengine))
  · exact Keeps.refl _

theorem recoveryEnd : KeepsAfter s dt (execRecoveryEnd dt s) := by
  refine of_keeps ?_
  split
  · rename_i hengine
    split
    · exact Keeps.retry hengine _ _ _
    · exact Keeps.spent hengine _
  · exact Keeps.refl _

theorem configurationReadComplete : KeepsAfter s dt (execConfigurationReadComplete dt s) := by
  refine of_keeps ?_
  split
  · exact Keeps.configLoaded _ (shaped_loadStored _ _) (copySafe_loadStored _ _) _ _
  · exact Keeps.refl _

theorem slotReadComplete : KeepsAfter s dt (execSlotReadComplete dt s) := by
  refine of_keeps ?_
  split
  · rename_i hpower _ _
    exact Keeps.slotDone (State.inRun_of_power hpower) _ _ _
  · exact Keeps.refl _

/-! ### The serial line (10) -/

theorem request (tag : Byte) (r : Request) :
    KeepsAfter s dt (.next ((s.advance dt).request tag r)) :=
  of_keeps (Keeps.request _ tag r)

theorem takeChars (cs : List LineChar) : KeepsAfter s dt (.next ((s.advance dt).takeChars cs)) :=
  of_keeps (Keeps.takeChars _ cs)

theorem frameGapTimeout : KeepsAfter s dt (execFrameGapTimeout dt s) := by
  refine of_keeps ?_
  split
  · exact Keeps.setRx _ _
  · exact Keeps.refl _

theorem lineBreak : KeepsAfter s dt (execLineBreak dt s) := by
  refine of_keeps ?_
  split
  · exact Keeps.lineBreak _
  · exact Keeps.refl _

theorem lineBreakEnd : KeepsAfter s dt (execLineBreakEnd dt s) := by
  refine of_keeps ?_
  split
  · exact Keeps.setRx _ _
  · exact Keeps.refl _

theorem replyDelivered : KeepsAfter s dt (execReplyDelivered dt s) := by
  refine of_keeps ?_
  split
  · exact Keeps.deliver _
  · exact Keeps.refl _

end KeepsAfter

/-- Every command ends in a next state that keeps the properties. -/
theorem exec_keeps (c : Instr) (s : State) : KeepsAfter s c.dt (exec c s) := by
  cases c with
  | status | pocket | startCycle | extend | setStage | endHeat | stop | continueCycle | plan | confirm
  | decline | clearPocket | clearPart | events | configRead | configWrite | configStore
  | journalRead => exact .request _ _
  | frameReceived | overlongFrameLength => exact .takeChars _
  | frameGapTimeout => exact .frameGapTimeout
  | lineBreak => exact .lineBreak
  | lineBreakEnd => exact .lineBreakEnd
  | replyDelivered => exact .replyDelivered
  | zeroCrossing => exact .zeroCrossing _
  | silenceTimerExpiry => exact .silenceTimerExpiry
  | vhuReachesWake => exact .vhuReachesWake _
  | vhuReachesArm => exact .vhuReachesArm _
  | armTimerExpiry => exact .armTimerExpiry
  | vhuBelowWriteFloor => exact .vhuBelowWriteFloor _
  | vhuBelowDark => exact .vhuBelowDark _ _
  | rstAssert => exact .rstAssert _
  | rstRelease => exact .rstRelease
  | backupClockSecond => exact .backupClockSecond
  | doorWatchFilterExpiry => exact .doorWatchFilterExpiry _
  | rawContactChange => exact .rawContactChange _ _ _
  | contactFilterExpiry => exact .contactFilterExpiry _ _
  | settlingTimerExpiry => exact .settlingTimerExpiry _ _
  | tachEdge => exact .tachEdge _ _
  | tachPulseAccepted => exact .tachPulseAccepted _
  | turningWindowExpiry => exact .turningWindowExpiry _
  | temperatureConversion => exact .temperatureConversion _ _
  | pocketTimerExpiry => exact .pocketTimerExpiry _
  | periodicTimerExpiry => exact .periodicTimerExpiry _
  | startProofTimerExpiry => exact .startProofTimerExpiry _
  | airflowGraceExpiry => exact .airflowGraceExpiry _
  | purgeTimerExpiry => exact .purgeTimerExpiry _
  | heatGraceExpiry => exact .heatGraceExpiry _
  | ignitionTrialExpiry => exact .ignitionTrialExpiry _
  | heatStartHoldEnd => exact .heatStartHoldEnd
  | motorStartHoldEnd => exact .motorStartHoldEnd
  | restTimerExpiry => exact .restTimerExpiry _
  | burstProofTimerExpiry => exact .burstProofTimerExpiry _
  | checkpointWriteStart => exact .checkpointWriteStart
  | checkpointWriteComplete => exact .checkpointWriteComplete
  | configStoreStart => exact .configStoreStart
  | configStoreComplete => exact .configStoreComplete
  | journalReadStart => exact .journalReadStart
  | journalReadComplete => exact .journalReadComplete
  | attemptNoAck => exact .attemptNoAck _
  | retryWaitExpiry => exact .retryWaitExpiry
  | busTimeout => exact .busTimeout _
  | recoveryEnd => exact .recoveryEnd
  | configurationReadComplete => exact .configurationReadComplete
  | slotReadComplete => exact .slotReadComplete
  | backupSupplyFailure => exact .backupSupplyFailure

/-- What every step keeps; a command is taken from the queue before it is carried out. -/
theorem step_keeps {s t : State} (h : step s = .next t) :
    ∃ u : State, Keeps u t ∧ (s.journalSafe = true → u.journalSafe = true) ∧ u.cfg = s.cfg
      ∧ (∀ p, u.creditSafe p = s.creditSafe p) ∧ (s.outputsSafe = true → u.outputsSafe = true)
      ∧ (QueuesSafe s → QueuesSafe u) := by
  unfold step at h
  split at h
  · cases h
    exact ⟨s, Keeps.refl s, id, rfl, fun _ => rfl, id, id⟩
  · rename_i c rest hpending
    obtain ⟨u, hu, hkeeps⟩ := exec_keeps c { s with pending := rest }
    rw [hu] at h
    cases h
    refine ⟨_, hkeeps, fun hj => ?_, rfl, fun p => rfl, id, fun hq => hq.of_eq rfl rfl rfl rfl⟩
    rw [journalSafe_iff] at hj ⊢
    exact hj

end Sys2Proof.Machine

open Sys2Proof Sys2Proof.Machine

/-- Settles O2: every command ends in a next state, with the same queue and the time moved by dt. -/
theorem everyCommandAnswersNext : Obligations.EveryCommandAnswersNext := by
  intro c s
  obtain ⟨t, ht, hkeeps⟩ := exec_keeps c s
  exact ⟨t, ht, hkeeps.pending, hkeeps.time⟩

/-- Settles O55: a write in flight fits the memory, and no step makes one that does not. -/
theorem everyStepKeepsTheJournalMemory : Obligations.EveryStepKeepsTheJournalMemory := by
  intro s t hs ht
  obtain ⟨u, hkeeps, hjournal, -⟩ := step_keeps ht
  exact hkeeps.journal (hjournal hs)

/-- Settles O56: the working copy changes by a load, a store of one field, or to the defaults. -/
theorem everyStepKeepsTheWorkingCopy : Obligations.EveryStepKeepsTheWorkingCopy := by
  intro s t hs ht
  obtain ⟨u, hkeeps, -, hcfg, -⟩ := step_keeps ht
  exact hkeeps.copy (hcfg ▸ hs)

/-- Settles O57: credit is bounded by the target, and D' by the credit it is computed from. -/
theorem everyStepKeepsCreditWithinTarget : Obligations.EveryStepKeepsCreditWithinTarget := by
  intro s t hU hL ht
  obtain ⟨u, hkeeps, -, -, hcredit, -⟩ := step_keeps ht
  have hsafe : ∀ p, u.creditSafe p = true := by
    intro p
    rw [hcredit p]
    cases p
    · exact hU
    · exact hL
  exact ⟨hkeeps.credit hsafe .U, hkeeps.credit hsafe .L⟩

/-- Settles O58: the outputs go inactive with the state RUN. -/
theorem everyStepKeepsOutputsOffOutsideRun : Obligations.EveryStepKeepsOutputsOffOutsideRun := by
  intro s t hs ht
  obtain ⟨u, hkeeps, -, -, -, houtputs, -⟩ := step_keeps ht
  exact hkeeps.outputs (houtputs hs)

/-- Settles O59: each act keeps the bounds of the queues. -/
theorem everyStepKeepsTheQueues : Obligations.EveryStepKeepsTheQueues := by
  intro s t hevents hqueues ht
  obtain ⟨u, hkeeps, -, -, -, -, hsafe⟩ := step_keeps ht
  exact (queuesSafe_iff t).mpr (hkeeps.queues (hsafe ((queuesSafe_iff s).mp ⟨hevents, hqueues⟩)))

end

section
/-! The step, the values after reset (tier 1), and the entries into WAKE (R99, R100, R107). -/

namespace Sys2Proof.Machine

/-- R100: an entry into WAKE gives every block its wake value, and keeps the Backup Domain where its marker
is set. -/
theorem State.wokenFrom_enterWake {s u : State} (hbd : u.bd = s.bd) (hcfg : u.cfg = s.cfg)
    (hjournal : u.journal = s.journal) (hcut : u.storeCut = s.storeCut) : wokenFrom s u.enterWake := by
  have hbackup : u.bd.wake u.time = if s.bd.valid then s.bd else
      ⟨0, 0, true, Pair.both ⟨true, 0, false, none, some u.time⟩⟩ := by
    rw [hbd]
    rfl
  refine ⟨rfl, rfl, rfl, rfl, rfl, rfl, rfl, hbackup, rfl, fun p i => ?_, fun p => ?_, fun p => ?_,
    rfl, rfl, rfl, rfl, hcfg, hjournal, hcut⟩
  · cases p <;> cases i <;> rfl
  · cases p <;> exact ⟨rfl, rfl, rfl, rfl, rfl, rfl, rfl, rfl, rfl⟩
  · rw [← hcfg]
    cases p <;> exact ⟨rfl, rfl, rfl, rfl, rfl, rfl, rfl, rfl, rfl, rfl, rfl, rfl, rfl, rfl⟩

theorem State.time_enterWake (s : State) : s.enterWake.time = s.time := rfl

theorem State.pins_enterWake (s : State) : s.enterWake.pins = s.pins := rfl

/-- The part as it stands once a VHU sample at the wake threshold is noted. -/
def State.notedWake (s : State) (dt : Nat) (v : Byte) : State :=
  { (s.advance dt).noteVhu v with ss := { ((s.advance dt).noteVhu v).ss with
    atWake := s.wakeThreshold ≤ v.toNat } }

/-- R98, R99, R107: what a command at the wake threshold does, once its sample is noted. -/
theorem exec_vhuReachesWake (dt : Nat) (v : Byte) (s : State) :
    exec (.vhuReachesWake dt v) s
      = .next ((s.notedWake dt v).wakeBy (!s.ss.atWake && s.wakeThreshold ≤ v.toNat)) := rfl

theorem State.wakeBy_of_dark {s : State} (h : s.ss.power = .dark) (hrst : s.pins.rst = false) :
    s.wakeBy true = s.enterWake := by
  simp [State.wakeBy, h, hrst]

theorem State.wakeBy_of_dark_reset {s : State} (h : s.ss.power = .dark) (hrst : s.pins.rst = true) :
    s.wakeBy true = { s with ss := { s.ss with power := .reset } } := by
  simp [State.wakeBy, h, hrst]

theorem State.wakeBy_of_reset {s : State} (h : s.ss.power = .reset) (hrst : s.pins.rst = false) :
    s.wakeBy true = s.enterWake := by
  simp [State.wakeBy, h, hrst]

theorem State.wakeThreshold_of_dark {s : State} (h : s.ss.power = .dark) : s.wakeThreshold = 100 := by
  simp [State.wakeThreshold, h, Config.darkWakeCode]

theorem State.wakeThreshold_of_reset {s : State} (h : s.ss.power = .reset) :
    s.wakeThreshold = s.cfg.wakeCode := by
  simp [State.wakeThreshold, h]

/-- A sample that reaches the wake threshold from below. -/
theorem exec_vhuReachesWake_of_rise {s : State} {dt : Nat} {v : Byte} (hbelow : s.ss.atWake = false)
    (hv : s.wakeThreshold ≤ v.toNat) :
    exec (.vhuReachesWake dt v) s = .next ((s.notedWake dt v).wakeBy true) := by
  simp [exec_vhuReachesWake, hbelow, hv]

/-- Such a sample, where the power state makes an entry into WAKE of it. -/
theorem exec_vhuReachesWake_wakes {s : State} {dt : Nat} {v : Byte} (hbelow : s.ss.atWake = false)
    (hv : s.wakeThreshold ≤ v.toNat)
    (hwake : (s.notedWake dt v).wakeBy true = (s.notedWake dt v).enterWake) :
    ∃ t, exec (.vhuReachesWake dt v) s = .next t ∧ t.time = s.time + dt ∧ t.pins = s.pins
      ∧ wokenFrom s t :=
  ⟨_, (exec_vhuReachesWake_of_rise hbelow hv).trans (congrArg _ hwake), rfl, rfl,
    State.wokenFrom_enterWake rfl rfl rfl rfl⟩

theorem exec_rstRelease_of_high {s : State} (dt : Nat) (hp : s.ss.power = .reset)
    (hrst : s.pins.rst = true) (hv : s.cfg.wakeCode ≤ s.ss.vhu.toNat) :
    exec (.rstRelease dt) s
      = .next ({ s.advance dt with pins := { s.pins with rst := false } } : State).enterWake := by
  simp [exec, execRstRelease, State.advance, hp, hrst, hv]

theorem exec_rstRelease_of_low {s : State} (dt : Nat) (hv : s.ss.vhu.toNat < s.cfg.wakeCode) :
    exec (.rstRelease dt) s
      = .next { s with time := s.time + dt, pins := { s.pins with rst := false } } := by
  have hlow : ¬ s.cfg.wakeCode ≤ s.ss.vhu.toNat := by omega
  simp [exec, execRstRelease, State.advance, hlow]

end Sys2Proof.Machine

open Sys2Proof Sys2Proof.Machine

/-- Settles O1, by the two shapes of the queue. -/
theorem stepTakesTheFrontCommand : Obligations.StepTakesTheFrontCommand := by
  refine ⟨fun c rest s => rfl, fun s h => ?_⟩
  unfold step
  rw [h]

/-- Settles O3: the state after reset is a cold start's, by evaluation. -/
theorem resetHoldsTheWakeValues : Obligations.ResetHoldsTheWakeValues := by
  refine ⟨?_, rfl, rfl, rfl, rfl, rfl, rfl⟩
  exact State.wokenFrom_enterWake (s := { State.reset with bd := { State.reset.bd with valid := false } })
    (u := { State.reset with bd := { State.reset.bd with valid := false } }) rfl rfl rfl rfl

/-- Settles O60: the properties of the tier 3 statements hold of the state after reset. -/
theorem resetHasWhatEveryStepKeeps : Obligations.ResetHasWhatEveryStepKeeps := by
  refine ⟨?_, copySafe_defaults, rfl, rfl, rfl, rfl, ?_⟩
  · decide
  · decide

/-- Settles O4: a rise to the wake threshold and a release of RST, each by its power state. -/
theorem wakeAndResetAreEnteredByRule : Obligations.WakeAndResetAreEnteredByRule := by
  refine ⟨⟨fun dt v s hp hbelow hv hrst => ?_, fun dt v s hp hbelow hv hrst => ?_,
    fun dt s hp hrst hv => ?_⟩, fun dt v s hp hbelow hv hrst => ?_, fun dt s hp hrst hv => ?_⟩
  · exact exec_vhuReachesWake_wakes hbelow ((State.wakeThreshold_of_dark hp).trans_le hv)
      (State.wakeBy_of_dark hp hrst)
  · exact exec_vhuReachesWake_wakes hbelow ((State.wakeThreshold_of_reset hp).trans_le hv)
      (State.wakeBy_of_reset hp hrst)
  · exact ⟨_, exec_rstRelease_of_high dt hp hrst hv, rfl, rfl, State.wokenFrom_enterWake rfl rfl rfl rfl⟩
  · refine ⟨_, (exec_vhuReachesWake_of_rise hbelow ((State.wakeThreshold_of_dark hp).trans_le hv)).trans
      (congrArg _ (State.wakeBy_of_dark_reset hp hrst)), rfl, rfl, rfl, rfl⟩
  · exact exec_rstRelease_of_low dt hv

end

section
/-! The replies that report (12.2, 12.4), and the delivery of a reply (R162, R168). -/

namespace Sys2Proof.Machine

theorem Link.reply_of_outstanding {l : Link} {o : Outstanding} (h : l.outstanding = some o) (r : Reply) :
    l.reply r = { l with tx := l.tx ++ [⟨false, replyFrame o.kind o.tag r⟩] } := by
  simp [Link.reply, h]

theorem boolByte_eq_bit (b : Bool) : boolByte b = if b then 1#8 else 0#8 := by
  cases b <;> rfl

/-! ### The data of the replies -/

/-- The part fault byte has the bits of R111. -/
theorem Supply.faultByte_eq (x : Supply) :
    x.faultByte = bitIf x.storeWeak 0 ||| bitIf x.backupLost 1 ||| bitIf x.configDefaulted 2
      ||| bitIf x.journalFault.isSome 3 := rfl

/-- The two temperature bytes of a POCKET reply. -/
def State.thetaHalf (s : State) (p : PocketId) : Half :=
  match (s.sense p).theta with
  | some th => BitVec.ofInt 16 th
  | none => Config.thetaNotValid s.free

theorem State.thetaHalf_of_valid {s : State} {p : PocketId} {th : Int}
    (h : (s.sense p).theta = some th) : s.thetaHalf p = BitVec.ofInt 16 th := by
  simp [State.thetaHalf, h]

theorem State.thetaHalf_of_invalid {s : State} {p : PocketId} (h : (s.sense p).theta = none) :
    s.thetaHalf p = Config.thetaNotValid s.free := by
  simp [State.thetaHalf, h]

theorem State.thetaData_eq (s : State) (p : PocketId) : s.thetaData p = le16 (s.thetaHalf p) := by
  unfold State.thetaData
  split
  · rename_i hvalid
    rw [State.thetaHalf_of_valid hvalid]
    rfl
  · rename_i hinvalid
    rw [State.thetaHalf_of_invalid hinvalid]

theorem State.useTheta_of_valid {s : State} {p : PocketId} {th : Int}
    (h : (s.sense p).theta = some th) : s.useTheta p = s := by
  simp [State.useTheta, h]

theorem State.useTheta_of_invalid {s : State} {p : PocketId} (h : (s.sense p).theta = none) :
    s.useTheta p = { s with free := s.free + 1 } := by
  simp [State.useTheta, h]

theorem le32Nat_zero : le32Nat 0 = [0#8, 0#8, 0#8, 0#8] := rfl

theorem HeatStage.reduced?_eq (x : HeatStage) : x.reduced? = (x == .reduced) := by
  cases x <;> rfl

/-- The reason byte has the bits of R151. -/
theorem HoldReasons.byte_eq (x : HoldReasons) :
    x.byte = bitIf x.unknownOutage 0 ||| bitIf x.longOutage 1 ||| bitIf x.doorInDark 2
      ||| bitIf x.staleRecord 3 ||| bitIf x.autoOff 4 := rfl

/-- R168: at most eight entries of six bytes each, between their number and the lost flag. -/
theorem Link.eventsData_eq (l : Link) : l.eventsData =
    [byteNat (min 8 l.events.length)]
      ++ (l.events.take 8).flatMap (fun e =>
          [e.kind.code, eventPocketByte e.pocket] ++ le16 e.time ++ le16 e.arg)
      ++ [if l.lost then 1#8 else 0#8] := by
  have htake : l.events.take (min 8 l.events.length) = l.events.take 8 := by
    rw [List.take_eq_take_iff]
    omega
  rw [← boolByte_eq_bit, ← htake]
  rfl

/-! ### The commands -/

theorem exec_status {s : State} (dt : Nat) (tag : Byte) (hs : s.listening) :
    exec (.status dt tag) s = .next (s.answered dt 0x01#8 tag ⟨.ok, s.statusData⟩) :=
  congrArg _ (request_served s dt tag .status hs)

theorem exec_pocket {s : State} (dt : Nat) (tag : Byte) (p : PocketId) (hs : s.listening) :
    exec (.pocket dt tag (pocketByte p)) s
      = .next { s.answered dt 0x02#8 tag ⟨.ok, s.pocketData p⟩ with free := (s.useTheta p).free } := by
  have hserved : (s.asked dt 0x02#8 tag).serve (.pocket (pocketByte p))
      = ((s.asked dt 0x02#8 tag).useTheta p, some ⟨.ok, s.pocketData p⟩) := by
    simp only [State.serve, State.servePocket, pocketOfByte_pocketByte]
    rfl
  refine congrArg _ ((request_served s dt tag (.pocket (pocketByte p)) hs).trans
    ((congrArg Served.settle hserved).trans ?_))
  cases h : (s.sense p).theta with
  | none =>
    rw [State.useTheta_of_invalid h, State.useTheta_of_invalid (s := s.asked dt 0x02#8 tag) h]
    rfl
  | some th =>
    rw [State.useTheta_of_valid h, State.useTheta_of_valid (s := s.asked dt 0x02#8 tag) h]
    rfl

theorem exec_plan {s : State} (dt : Nat) (tag : Byte) (p : PocketId) (hs : s.listening) :
    exec (.plan dt tag (pocketByte p)) s
      = .next (s.answered dt 0x09#8 tag ⟨.ok, planData p (s.rp.get p)⟩) := by
  refine congrArg _ ((request_served s dt tag (.plan (pocketByte p)) hs).trans ?_)
  simp only [State.serve, State.servePlan, pocketOfByte_pocketByte]
  rfl

theorem exec_events {s : State} (dt : Nat) (tag : Byte) (hs : s.listening) :
    exec (.events dt tag) s = .next { s with
      time := s.time + dt
      ml := { s.ml with
        rx := .idle
        outstanding := some ⟨0x0D#8, tag, some ⟨s.ml.reported, s.ml.lost, false⟩⟩
        tx := s.ml.tx ++ [⟨false, replyFrame 0x0D#8 tag ⟨.ok, s.ml.eventsData⟩⟩] } } :=
  congrArg _ (request_served s dt tag .events hs)

theorem exec_replyDelivered {s : State} (dt : Nat) (hs : s.ss.power.working = true) :
    exec (.replyDelivered dt) s = .next { s with time := s.time + dt, ml := s.ml.deliver } := by
  simp [exec, execReplyDelivered, State.advance, hs]

theorem Link.deliver_of_reply {l : Link} {f : List Byte} {rest : List TxFrame}
    (h : l.tx = ⟨false, f⟩ :: rest) : l.deliver = { l.deliverReply with tx := rest } := by
  simp [Link.deliver, h]

theorem Link.deliver_of_reject {l : Link} {f : List Byte} {rest : List TxFrame}
    (h : l.tx = ⟨true, f⟩ :: rest) : l.deliver = { l with tx := rest } := by
  simp [Link.deliver, h]

theorem Link.deliver_of_nothing {l : Link} (h : l.tx = []) : l.deliver = l := by
  simp [Link.deliver, h]

/-- R168: the delivery of an EVENTS reply. -/
theorem Link.deliverReply_of_events {l : Link} {kind tag : Byte} {ev : EventsReply}
    (h : l.outstanding = some ⟨kind, tag, some ev⟩) :
    l.deliverReply = { l with
      outstanding := none
      events := l.events.drop ev.count
      lost := if ev.lost && !ev.discarded then false else l.lost } := by
  have hlost : (l.lost && !(ev.lost && !ev.discarded))
      = if ev.lost && !ev.discarded then false else l.lost := by
    cases (ev.lost && !ev.discarded) <;> simp
  simp only [Link.deliverReply, h, Link.deliverEvents, hlost]

theorem Link.deliverReply_of_other {l : Link} {kind tag : Byte}
    (h : l.outstanding = some ⟨kind, tag, none⟩) :
    l.deliverReply = { l with outstanding := none } := by
  simp [Link.deliverReply, h]

end Sys2Proof.Machine

open Sys2Proof Sys2Proof.Machine

/-- Settles O5: the reply's data are the bytes of R169, in the model's own order. -/
theorem statusReportsThePart : Obligations.StatusReportsThePart := by
  intro dt tag s hs
  refine (exec_status dt tag hs).trans
    (congrArg (fun d => Host.Outcome.next (s.answered dt 0x01#8 tag ⟨.ok, d⟩)) ?_)
  unfold State.statusData
  rw [Supply.faultByte_eq, boolByte_eq_bit]
  cases s.ss.journalFault <;> rfl

/-- Settles O6: the reply's data are the parts of 12.4 in their order, θ in its own two bytes. -/
theorem pocketAndPlanRepliesReport : Obligations.PocketAndPlanRepliesReport := by
  refine ⟨fun dt tag p s hs => ?_, fun dt tag p s hs => ⟨fun h => ?_, fun pl h => ?_⟩⟩
  · refine ⟨_, s.thetaHalf p, exec_pocket dt tag p hs, fun th h => State.thetaHalf_of_valid h, ?_⟩
    refine congrArg (fun d => ({ s.answered dt 0x02#8 tag ⟨.ok, d⟩ with
      free := (s.useTheta p).free } : State)) ?_
    unfold State.pocketData
    simp only [RunRecord.head, RunRecord.tail, State.outputByte, Sensing.inputByte, Sensing.turning,
      State.thetaData_eq, HeatStage.reduced?_eq, RingState.data]
    cases (s.jc.rings.get p).newest <;>
      simp only [List.append_assoc, List.cons_append, List.nil_append, le32Nat_zero]
  · rw [exec_plan dt tag p hs, h]
    rfl
  · rw [exec_plan dt tag p hs, h]
    simp only [planData, HoldReasons.byte_eq, boolByte_eq_bit]

/-- Settles O7: the request copies, and its reply's delivery removes. -/
theorem eventsAreRemovedAtDelivery : Obligations.EventsAreRemovedAtDelivery := by
  refine ⟨fun dt tag s hs => ?_, fun dt s f rest kind tag ev hw htx hout => ?_,
    fun dt s f rest kind tag hw htx hout => ?_, fun dt s hw => ⟨fun f rest htx => ?_, fun htx => ?_⟩⟩
  · refine (exec_events dt tag hs).trans ?_
    simp only [Link.reported, Link.eventsData_eq]
  · rw [exec_replyDelivered dt hw, Link.deliver_of_reply htx, Link.deliverReply_of_events hout]
  · rw [exec_replyDelivered dt hw, Link.deliver_of_reply htx, Link.deliverReply_of_other hout]
  · rw [exec_replyDelivered dt hw, Link.deliver_of_reject htx]
  · rw [exec_replyDelivered dt hw, Link.deliver_of_nothing htx]

end

section
/-! The requests of a pocket that pass or fail their tests (R7), and the bus requests (R118, R130, R131). -/

namespace Sys2Proof.Machine

/-! ### The tests of a pocket request (R7) -/

theorem pocketOfByte_of_high {b : Byte} (h : 2 ≤ b.toNat) : pocketOfByte b = none := by
  unfold pocketOfByte
  split
  · omega
  · omega
  · rfl

theorem State.pocketRequest_of_unnamed (s : State) {b : Byte} (h : 2 ≤ b.toNat)
    (passes : PocketId → Bool) (fail : Status) (act : PocketId → Served) :
    s.pocketRequest b passes fail act = s.answer .badArg := by
  simp only [State.pocketRequest, pocketOfByte_of_high h]

theorem State.pocketRequest_of_not_inRun {s : State} (h : s.inRun = false) (p : PocketId)
    (passes : PocketId → Bool) (fail : Status) (act : PocketId → Served) :
    s.pocketRequest (pocketByte p) passes fail act = s.answer .notReady := by
  simp [State.pocketRequest, h]

theorem State.pocketRequest_of_fails {s : State} (hrun : s.inRun = true) {p : PocketId}
    {passes : PocketId → Bool} (h : passes p = false) (fail : Status) (act : PocketId → Served) :
    s.pocketRequest (pocketByte p) passes fail act = s.answer fail := by
  simp [State.pocketRequest, hrun, h]

theorem State.pocketRequest_of_passes {s : State} (hrun : s.inRun = true) {p : PocketId}
    {passes : PocketId → Bool} (h : passes p = true) (fail : Status) (act : PocketId → Served) :
    s.pocketRequest (pocketByte p) passes fail act = act p := by
  simp [State.pocketRequest, hrun, h]

/-! ### Carried out requests -/

/-- A request that leaves no start request to grant changes what its act changed. -/
theorem State.settle_carriedOut_of_served {u : State} (h : u.slotServed) (r : Reply) :
    (u.carriedOut r).settle = Served.settle (u, some r) := by
  simp only [State.carriedOut, arbitrate_idle u h]

/-- A request served by an answer alone leaves the state as it was. -/
theorem exec_of_answer {s : State} {dt : Nat} {tag : Byte} {r : Request} {st : Status}
    (hs : s.listening) (h : (s.asked dt r.kind tag).serve r = (s.asked dt r.kind tag).answer st) :
    (s.advance dt).request tag r = s.answered dt r.kind tag ⟨st, []⟩ :=
  (request_served s dt tag r hs).trans (congrArg Served.settle h)

/-- The reply status says CLAMPED exactly where one of two values was changed (R7). -/
theorem Reply.done_or (a b c d : Nat) (data : List Byte) :
    Reply.done (a != b || c != d) data = ⟨if a = b ∧ c = d then .ok else .clamped, data⟩ := by
  by_cases hab : a = b <;> by_cases hcd : c = d <;> simp [Reply.done, hab, hcd]

/-! ### The write queue (R116, R118) -/

theorem enqueue_of_absent {queue : List WriteRequest} {p : PocketId}
    (h : ∀ w ∈ queue, ∀ k, w.what ≠ .checkpoint p k) (kind : RecordKind) (now : Nat) :
    enqueue queue p kind now = queue ++ [⟨.checkpoint p kind, now⟩] := by
  have hnone : queue.any (·.ofPocket p) = false := by
    rw [List.any_eq_false]
    intro w hw
    unfold WriteRequest.ofPocket
    split
    · rename_i q k hwhat
      have hne : q ≠ p := fun hq => h w hw k (hq ▸ hwhat)
      simpa using hne
    · simp
    · simp
  simp [enqueue, hnone]

/-- LOSS is above START, PHASE and RESUME, and these above PERIODIC (R116). -/
def RecordKind.rank : RecordKind → Nat
  | .loss => 1
  | .start | .phase | .resume => 2
  | .periodic => 3

theorem WriteKind.priority_checkpoint (p : PocketId) (k : RecordKind) :
    (WriteKind.checkpoint p k).priority = k.rank := by
  cases k <;> rfl

/-- R118: a queued request of the pocket takes the arriving kind unless its own is of a higher priority. -/
theorem WriteKind.upgrade_of_pocket (p : PocketId) (old kind : RecordKind) :
    (WriteKind.checkpoint p old).upgrade (.checkpoint p kind)
      = .checkpoint p (if kind.rank ≤ old.rank then kind else old) := by
  simp only [WriteKind.upgrade, WriteKind.priority_checkpoint]
  split <;> rfl

/-- A slot byte names its slot (R131). -/
theorem slotOfByte_byteNat (i : Fin 124) : slotOfByte (byteNat i.val) = some i := by
  have hsmall : (byteNat i.val).toNat = i.val := by
    have := i.isLt
    simp only [byteNat, BitVec.toNat_ofNat]
    omega
  simp [slotOfByte, hsmall]

end Sys2Proof.Machine

open Sys2Proof Sys2Proof.Machine

/-- Settles O10: the queue's entries are upgraded one by one; a bus request joins its tail. -/
theorem busRequestsJoinTheWriteQueue : Obligations.BusRequestsJoinTheWriteQueue := by
  refine ⟨fun dt tag p i s hs => ?_, fun queue p kind now => ⟨fun h => ?_, fun h => ?_⟩⟩
  · have hstore := request_served s dt tag .configStore hs.listening
    have hread := request_served s dt tag (.journalRead (pocketByte p) (byteNat i.val)) hs.listening
    have hrunStore := hs.inRun_asked dt 0x10#8 tag
    have hrunRead := hs.inRun_asked dt 0x11#8 tag
    refine ⟨fun horphan => ⟨congrArg _ (hstore.trans ?_), congrArg _ (hread.trans ?_)⟩,
      fun horphan => ⟨congrArg _ (hstore.trans ?_), congrArg _ (hread.trans ?_)⟩⟩
    · have hasked : (s.asked dt 0x10#8 tag).ml.orphan = false := horphan
      simp only [State.serve, State.serveConfigStore, Request.kind, hrunStore, hasked]
      rfl
    · have hasked : (s.asked dt 0x11#8 tag).ml.orphan = false := horphan
      simp only [State.serve, State.serveJournalRead, Request.kind, hrunRead, hasked,
        pocketOfByte_pocketByte, slotOfByte_byteNat]
      rfl
    · have hasked : (s.asked dt 0x10#8 tag).ml.orphan = true := horphan
      simp only [State.serve, State.serveConfigStore, Request.kind, hrunStore, hasked]
      rfl
    · have hasked : (s.asked dt 0x11#8 tag).ml.orphan = true := horphan
      simp only [State.serve, State.serveJournalRead, Request.kind, hrunRead, hasked]
      rfl
  · exact enqueue_of_absent h kind now
  · have hany : queue.any (·.ofPocket p) = true := by
      obtain ⟨w, hw, hp⟩ := h
      exact List.any_eq_true.mpr ⟨w, hw, hp⟩
    simp only [enqueue, hany, if_true]
    refine List.map_congr_left fun w _ => ?_
    obtain ⟨what, age⟩ := w
    cases what with
    | store => rfl
    | read => rfl
    | checkpoint q old =>
      by_cases hq : q = p
      · subst hq
        have hup := WriteKind.upgrade_of_pocket q old kind
        simp only [WriteRequest.ofPocket, beq_self_eq_true, if_true, hup]
        rfl
      · simp [WriteRequest.ofPocket, hq]

end

section
/-! CLEAR, EXTEND, SET_STAGE and END_HEAT (R25 to R29, R112, R155). -/

namespace Sys2Proof.Machine

/-! ### The state in which a request is carried out -/

section
variable (s : State) (dt : Nat) (kind tag : Byte) (p : PocketId)

@[simp] theorem State.time_asked : (s.asked dt kind tag).time = s.time + dt := rfl
@[simp] theorem State.pocket_asked : (s.asked dt kind tag).pocket p = s.pocket p := rfl
@[simp] theorem State.sense_asked : (s.asked dt kind tag).sense p = s.sense p := rfl
@[simp] theorem State.cfg_asked : (s.asked dt kind tag).cfg = s.cfg := rfl
@[simp] theorem State.lm_asked : (s.asked dt kind tag).lm = s.lm := rfl
@[simp] theorem State.bd_asked : (s.asked dt kind tag).bd = s.bd := rfl
@[simp] theorem State.jc_asked : (s.asked dt kind tag).jc = s.jc := rfl
@[simp] theorem State.rp_asked : (s.asked dt kind tag).rp = s.rp := rfl
@[simp] theorem State.events_asked : (s.asked dt kind tag).ml.events = s.ml.events := rfl
@[simp] theorem State.interlock_asked : (s.asked dt kind tag).interlock p = s.interlock p := rfl

end

/-- The same for an act that has a simpler form. -/
theorem settle_carriedOut_of_eq {u v : State} (h : u = v) (hv : v.slotServed) (r : Reply) :
    (u.carriedOut r).settle = Served.settle (v, some r) :=
  h ▸ State.settle_carriedOut_of_served hv r

/-! ### CLEAR (R29, R112) -/

theorem State.clearPocket_of_hold {s : State} {p : PocketId} (h : (s.pocket p).phase = .faultHold) :
    s.clearPocket p
      = (s.setPocket p { s.pocket p with faults := FaultSet.empty }).enterPhase p .idle := by
  simp [State.clearPocket, h]

/-- Outside FAULT_HOLD a CLEAR writes the pocket's record alone. -/
theorem State.clearPocket_of_other {s : State} {p : PocketId} (h : (s.pocket p).phase ≠ .faultHold) :
    s.clearPocket p = s.setPocket p { s.pocket p with
      faults := FaultSet.empty
      run := { (s.pocket p).run with
        coolExit := if (s.pocket p).run.coolExit = .faultHold then .done
          else (s.pocket p).run.coolExit } } := by
  unfold State.clearPocket
  dsimp only
  rw [if_neg h]
  split
  · cases p <;> rfl
  · rfl

theorem exec_clearPocket {s : State} (dt : Nat) (tag : Byte) (p : PocketId) (hs : s.serving) :
    exec (.clearPocket dt tag (pocketByte p)) s
      = .next (((s.asked dt 0x0C#8 tag).clearPocket p).carriedOut .ok).settle := by
  have hpart : pocketByte p ≠ 2#8 := by cases p <;> decide
  have hrun := hs.inRun_asked dt 0x0C#8 tag
  refine congrArg _ ((request_served s dt tag (.clear (pocketByte p)) hs.listening).trans
    (congrArg Served.settle ?_))
  simp only [State.serve, State.serveClear, Request.kind, if_neg hpart]
  exact State.pocketRequest_of_passes hrun rfl _ _

/-! ### EXTEND (R25, R155) -/

theorem exec_extend {s : State} (dt : Nat) (tag : Byte) (p : PocketId) (amount : Half) (hs : s.serving)
    (hpass : (s.pocket p).extendable = true) :
    let taken := max 1 (min 57600 amount.toNat)
    let t := min 57600 ((s.pocket p).run.t + taken)
    exec (.extend dt tag (pocketByte p) amount) s
      = .next (((s.asked dt 0x04#8 tag).extendTo p t).carriedOut
          ⟨if taken = amount.toNat ∧ t = (s.pocket p).run.t + taken then .ok else .clamped,
            le16Nat t⟩).settle := by
  intro taken t
  have hrun := hs.inRun_asked dt 0x04#8 tag
  refine congrArg _ ((request_served s dt tag (.extend (pocketByte p) amount) hs.listening).trans
    (congrArg Served.settle ?_))
  refine (State.pocketRequest_of_passes (s := s.asked dt 0x04#8 tag) hrun hpass _ _).trans ?_
  exact congrArg (State.carriedOut _) (Reply.done_or _ _ _ _ _)

/-- T alone changes in every accepted phase but HELD, and COOL where T rises. -/
theorem State.extendTo_of_plain {s : State} {p : PocketId} {t : Nat}
    (h : (s.pocket p).phase ≠ .held)
    (hcool : (s.pocket p).phase = .cool → ¬ (s.pocket p).run.t < t) :
    s.extendTo p t = s.setRun p { (s.pocket p).run with t := t } := by
  unfold State.extendTo
  dsimp only
  split
  · rename_i hphase
    rw [if_neg (hcool hphase)]
  · rename_i hphase
    exact absurd hphase h
  · rfl

theorem State.extendTo_of_held {s : State} {p : PocketId} {t : Nat}
    (h : (s.pocket p).phase = .held) :
    s.extendTo p t = (s.setRun p { (s.pocket p).run with t := t }).extendPlan p t := by
  simp [State.extendTo, h]

theorem State.extendTo_of_cool {s : State} {p : PocketId} {t : Nat}
    (h : (s.pocket p).phase = .cool) (ht : (s.pocket p).run.t < t) :
    s.extendTo p t = (s.setRun p { (s.pocket p).run with t := t }).reheat p := by
  simp [State.extendTo, h, ht]

/-! ### Toward heat (R65, R68) -/

theorem State.enterPurge_of_airflow {s : State} {p : PocketId}
    (hsensor : (s.pocket p).faults.sensor = false) (hair : (s.sense p).airflow.level = true) :
    s.enterPurge p = (s.changePhase p .purge).setTimers p
      { ((s.changePhase p .purge).pocket p).timers with
        purge := some (s.time + seconds (s.pocket p).run.copies.purge) } := by
  have hfaults : ((s.changePhase p .purge).pocket p).faults.sensor = false := by
    simpa [Pocket.move] using hsensor
  have hlevel : ((s.changePhase p .purge).sense p).airflow.level = true := hair
  have hcopies : ((s.changePhase p .purge).pocket p).run = (s.pocket p).run := by simp [Pocket.move]
  unfold State.enterPurge
  simp only [hfaults, hlevel, hcopies]
  rfl

theorem State.enterIgnition_of_interlock {s : State} {p : PocketId}
    (hsensor : (s.pocket p).faults.sensor = false) (hset : s.interlock p = true) :
    s.enterIgnition p = (s.changePhase p .ignition).postStart p .heatStart := by
  have hfaults : ((s.changePhase p .ignition).pocket p).faults.sensor = false := by
    simpa [Pocket.move] using hsensor
  have hlevel : (s.changePhase p .ignition).interlock p = true := hset
  unfold State.enterIgnition
  simp only [hfaults, hlevel]
  rfl

/-- The phase toward heat (R51, R65). -/
def State.heatPhase (s : State) (p : PocketId) : Phase :=
  if (s.pocket p).run.copies.heatKind = .gas ∧ 0 < (s.pocket p).run.copies.purge then .purge
  else .ignition

/-- Where SENSOR is clear and the interlock set holds, the way toward heat is a change of phase. -/
theorem State.towardHeat_of_ready {s : State} {p : PocketId}
    (hsensor : (s.pocket p).faults.sensor = false) (hset : s.interlock p = true) :
    ((s.towardHeat p).pocket p).phase = s.heatPhase p
      ∧ ((s.towardHeat p).pocket p).run = (s.pocket p).run
      ∧ ((s.towardHeat p).pocket p).motorRun = (s.pocket p).motorRun
      ∧ (s.towardHeat p).jc.queue = s.jc.queue := by
  have hair : (s.sense p).airflow.level = true := by
    simp only [State.interlock, Bool.and_eq_true] at hset
    exact hset.1.1
  unfold State.towardHeat State.heatPhase
  dsimp only
  split
  · rw [State.enterPurge_of_airflow hsensor hair]
    simp [State.setTimers, Pocket.move, Phase.dropsMotor]
  · rw [State.enterIgnition_of_interlock hsensor hset]
    simp [Pocket.move, Phase.dropsMotor]

/-- A grant of a heat start drives no motor output. -/
theorem State.takeGrant_motorRun (s : State) (r : StartRequest) (p : PocketId)
    (h : (s.pocket p).phase ∉ [.spinup, .acRest]) :
    ((s.takeGrant r).pocket p).motorRun = (s.pocket p).motorRun := by
  by_cases hp : p = r.pocket
  · subst hp
    unfold State.takeGrant
    dsimp only
    split
    · simp_all
    · simp_all
    · split
      · simp
      · rfl
    · rfl
  · rw [State.takeGrant_pocket_of_ne _ hp]

theorem State.arbitrate_motorRun (s : State) (p : PocketId)
    (h : (s.pocket p).phase ∉ [.spinup, .acRest]) :
    (s.arbitrate.pocket p).motorRun = (s.pocket p).motorRun := by
  unfold State.arbitrate
  split
  · exact State.takeGrant_motorRun _ _ p h
  · rfl

/-! ### SET_STAGE (R26) and END_HEAT (R27) -/

theorem stageArg_bit (b : Bool) : stageArg (if b then 1 else 0) = some (HeatStage.ofBool b) := by
  cases b <;> rfl

theorem Phase.staged_iff (ph : Phase) : ph.staged = true ↔ ph ∉ [Phase.idle, .done, .held] := by
  cases ph <;> decide

theorem exec_setStage {s : State} (dt : Nat) (tag : Byte) (p : PocketId) (reduced : Bool)
    (hs : s.serving) (hphase : (s.pocket p).phase.staged = true) :
    exec (.setStage dt tag (pocketByte p) (if reduced then 1 else 0)) s
      = .next (((s.asked dt 0x05#8 tag).setRun p
          { (s.pocket p).run with stage := HeatStage.ofBool reduced }).carriedOut .ok).settle := by
  have hrun := hs.inRun_asked dt 0x05#8 tag
  refine congrArg _ ((request_served s dt tag (.setStage (pocketByte p) (if reduced then 1 else 0))
    hs.listening).trans (congrArg Served.settle ?_))
  refine (State.pocketRequest_of_passes (s := s.asked dt 0x05#8 tag) hrun hphase _ _).trans ?_
  rw [stageArg_bit]
  rfl

theorem exec_endHeat {s : State} (dt : Nat) (tag : Byte) (p : PocketId) (hs : s.serving)
    (hpass : (s.pocket p).heatEndable = true) :
    exec (.endHeat dt tag (pocketByte p)) s
      = .next (((s.asked dt 0x06#8 tag).endHeat p .appEnd false).carriedOut .ok).settle := by
  have hrun := hs.inRun_asked dt 0x06#8 tag
  refine congrArg _ ((request_served s dt tag (.endHeat (pocketByte p)) hs.listening).trans
    (congrArg Served.settle ?_))
  exact State.pocketRequest_of_passes (s := s.asked dt 0x06#8 tag) hrun hpass _ _

/-- One post adds one entry at most. -/
theorem Link.length_post_le (l : Link) (m : Nat) (e : EventEntry) :
    (l.post m e).events.length ≤ l.events.length + 1 := by
  unfold Link.post
  split
  · omega
  · split <;> simp

/-- An unmasked event joins a queue with room. -/
theorem Link.mem_post_of_room {l : Link} (e : EventEntry) (h : l.events.length < 16) :
    e ∈ (l.post 0 e).events := by
  simp [Link.post, h]

/-- HEAT_ENDED is posted after at most one other event. -/
theorem State.heatEnded_posted {s : State} (p : PocketId) (c : HeatCause) (hold : Bool)
    (hmask : s.cfg.classMask = 0) (hroom : s.ml.events.length ≤ 14) :
    ⟨.heatEnded, some p, half s.bd.clock, half c.code.toNat⟩ ∈ (s.endHeat p c hold).ml.events := by
  unfold State.endHeat
  dsimp only
  split
  · simp only [State.post]
    refine (congrArg (fun m => _ ∈ (Link.post _ m _).events) ?_).mpr (Link.mem_post_of_room _ ?_)
    · exact hmask
    · refine lt_of_le_of_lt (Link.length_post_le _ _ _) ?_
      change s.ml.events.length + 1 < 16
      omega
  · simp only [State.post]
    refine (congrArg (fun m => _ ∈ (Link.post _ m _).events) ?_).mpr (Link.mem_post_of_room _ ?_)
    · exact hmask
    · change s.ml.events.length < 16
      omega

theorem State.queue_endHeat (s : State) (p : PocketId) (c : HeatCause) (hold : Bool) :
    (s.endHeat p c hold).jc.queue
      = if (s.pocket p).phase.heating then enqueue s.jc.queue p .phase s.time else s.jc.queue := by
  unfold State.endHeat
  split <;> rfl

theorem State.motorRun_endHeat (s : State) (p : PocketId) (c : HeatCause) (hold : Bool) :
    ((s.endHeat p c hold).pocket p).motorRun = (s.pocket p).motorRun := by
  unfold State.endHeat
  split
  · simp [State.pocket_enterPhase_self, Pocket.move, Phase.dropsMotor]
  · simp

theorem State.faults_endHeat (s : State) (p : PocketId) (c : HeatCause) (hold : Bool) :
    ((s.endHeat p c hold).pocket p).faults = (s.pocket p).faults := by
  unfold State.endHeat
  split
  · simp [State.pocket_enterPhase_self, Pocket.move]
  · simp

end Sys2Proof.Machine

open Sys2Proof Sys2Proof.Machine

/-- Settles O12: in FAULT_HOLD the act enters IDLE; otherwise it writes the pocket's record alone, and no
grant follows. -/
theorem clearEmptiesFaults : Obligations.ClearEmptiesFaults := by
  refine ⟨fun dt tag p s hs hslot => ?_, fun dt tag s hs => ?_⟩
  · have hacts : ActsOn p (s.asked dt 0x0C#8 tag) ((s.asked dt 0x0C#8 tag).clearPocket p) :=
      (ActsOn.refl p _).clearPocket
    obtain ⟨htime, hanswers, hframe⟩ := hacts.replied .ok
    obtain ⟨trun, tfaults, tphase, -, -, tqueue, -, -⟩ :=
      carriedOut_keeps ((s.asked dt 0x0C#8 tag).clearPocket p) .ok p
    refine ⟨_, exec_clearPocket dt tag p hs, htime, hanswers, hframe, tfaults.trans ?_, fun h => ?_,
      fun h => ?_⟩
    · by_cases h : (s.pocket p).phase = .faultHold
      · rw [State.clearPocket_of_hold (s := s.asked dt 0x0C#8 tag) h, State.pocket_enterPhase_self]
        simp [Pocket.move, FaultSet.empty]
      · rw [State.clearPocket_of_other (s := s.asked dt 0x0C#8 tag) h]
        simp [FaultSet.empty]
    · rw [tqueue, trun, htime]
      rw [State.clearPocket_of_hold (s := s.asked dt 0x0C#8 tag) h] at tphase ⊢
      exact ⟨(tphase (by simp)).1.trans (by simp), by simp, by simp⟩
    · have hother := State.clearPocket_of_other (s := s.asked dt 0x0C#8 tag) h
      rw [settle_carriedOut_of_eq hother hslot]
      cases p <;> exact ⟨rfl, rfl, rfl, rfl⟩
  · exact congrArg _ (request_served s dt tag (.clear 2#8) hs)

/-- Settles O14: T alone changes but in HELD, where the plan follows, and in COOL, where a rise leads
toward heat. -/
theorem extendRaisesTheTarget : Obligations.ExtendRaisesTheTarget := by
  refine ⟨?_, ?_⟩ <;> intro dt tag p amount s hs
  · intro hslot k taken t' reply
    refine ⟨fun h => ?_, fun h => ?_, fun h hcause ht => ?_⟩
    · have hpass : k.extendable = true := by
        rcases h with h | ⟨h, htarget⟩
        · revert h
          simp only [Pocket.extendable]
          cases k.phase <;> simp
        · simp [Pocket.extendable, h, htarget]
      have hphase : k.phase ≠ .held ∧ k.phase ≠ .cool := by
        rcases h with h | ⟨h, -⟩
        · revert h
          cases k.phase <;> simp
        · simp [h]
      have hto := State.extendTo_of_plain (s := s.asked dt 0x04#8 tag) (t := t') hphase.1
        (fun hcool => absurd hcool hphase.2)
      exact (exec_extend dt tag p amount hs hpass).trans
        (congrArg _ (settle_carriedOut_of_eq hto hslot reply))
    · have hpass : k.extendable = true := by simp [Pocket.extendable, h]
      have hto := State.extendTo_of_held (s := s.asked dt 0x04#8 tag) (t := t') h
      exact (exec_extend dt tag p amount hs hpass).trans
        (congrArg _ (settle_carriedOut_of_eq hto hslot reply))
    · have hpass : k.extendable = true := by
        rcases hcause with hcause | hcause <;> simp [Pocket.extendable, h, hcause]
      have hsame : (s.asked dt 0x04#8 tag).setRun p { k.run with t := t' } = s.asked dt 0x04#8 tag := by
        rw [← ht]
        cases p <;> rfl
      have hcool : ((s.asked dt 0x04#8 tag).pocket p).phase = .cool := h
      have hno : ¬ ((s.asked dt 0x04#8 tag).pocket p).run.t < t' := by
        change ¬ k.run.t < t'
        omega
      have hto : (s.asked dt 0x04#8 tag).extendTo p t' = s.asked dt 0x04#8 tag :=
        (State.extendTo_of_plain (by rw [hcool]; decide) (fun _ => hno)).trans hsame
      exact (exec_extend dt tag p amount hs hpass).trans
        (congrArg _ (settle_carriedOut_of_eq hto hslot reply))
  · intro h hcause ht hsensor hset taken t'
    have hpass : (s.pocket p).extendable = true := by
      rcases hcause with hcause | hcause <;> simp [Pocket.extendable, h, hcause]
    generalize hu : (s.asked dt 0x04#8 tag).setRun p { (s.pocket p).run with
      t := t', target := .heat, cause := .none } = u
    have hto : (s.asked dt 0x04#8 tag).extendTo p t' = u.towardHeat p := by
      rw [State.extendTo_of_cool (s := s.asked dt 0x04#8 tag) h ht, ← hu]
      cases p <;> rfl
    have hpocket : u.pocket p = { s.pocket p with run := { (s.pocket p).run with
        t := t', target := .heat, cause := .none } } := by
      rw [← hu, State.pocket_setRun_self]
      rfl
    obtain ⟨uphase, urun, umotor, uqueue⟩ := State.towardHeat_of_ready (s := u) (p := p)
      (by rw [hpocket]; exact hsensor) (by rw [← hu]; exact hset)
    have hacts : ActsOn p ((s.setPocket p (u.pocket p)).asked dt 0x04#8 tag) (u.towardHeat p) := by
      refine ActsOn.towardHeat ?_
      rw [hpocket, ← hu]
      exact ActsOn.refl p _
    have hresult := exec_extend dt tag p amount hs hpass
    generalize hr : (⟨if taken = amount.toNat ∧ t' = (s.pocket p).run.t + taken then .ok else .clamped,
      le16Nat t'⟩ : Reply) = r
    have hnext : exec (.extend dt tag (pocketByte p) amount) s
        = .next ((u.towardHeat p).carriedOut r).settle := by
      rw [← hto, ← hr]
      exact hresult
    obtain ⟨-, hanswers, hframe⟩ := hacts.replied r
    obtain ⟨trun, -, tphase, -, -, tqueue, -⟩ := carriedOut_keeps (u.towardHeat p) r p
    have hmoving : ((u.towardHeat p).pocket p).phase ∉ [Phase.spinup, .acRest] := by
      rw [uphase]
      unfold State.heatPhase
      split <;> decide
    refine ⟨_, hnext, actsOnPocket_of_setPocket hframe, hanswers, ?_, ?_, ?_, ?_⟩
    · rw [trun, urun, hpocket]
    · rw [(tphase (fun hrest => hmoving (by rw [hrest]; decide))).1, uphase]
      unfold State.heatPhase
      rw [hpocket]
    · refine ((u.towardHeat p).arbitrate_motorRun p hmoving).trans (umotor.trans ?_)
      rw [hpocket]
    · rw [tqueue, uqueue, ← hu]
      rfl

/-- Settles O15: the act writes one field, and no grant follows. -/
theorem setStageWritesTheStage : Obligations.SetStageWritesTheStage := by
  intro dt tag p reduced s hs hslot hphase
  exact (exec_setStage dt tag p reduced hs ((Phase.staged_iff _).mpr hphase)).trans
    (congrArg _ (State.settle_carriedOut_of_served (u := (s.asked dt 0x05#8 tag).setRun p
      { (s.pocket p).run with stage := HeatStage.ofBool reduced }) hslot .ok))

/-- Settles O16: the act of ending heat in its heat phases, and before them. -/
theorem endHeatEndsHeat : Obligations.EndHeatEndsHeat := by
  intro dt tag p s hs htarget hphase
  have hpass : (s.pocket p).heatEndable = true := by
    revert hphase
    simp only [Pocket.heatEndable, htarget]
    cases (s.pocket p).phase <;> simp [Phase.heating]
  have hacts : ActsOn p (s.asked dt 0x06#8 tag) ((s.asked dt 0x06#8 tag).endHeat p .appEnd false) :=
    (ActsOn.refl p _).endHeat _ _
  obtain ⟨htime, hanswers, hframe⟩ := hacts.replied .ok
  have urun := (s.asked dt 0x06#8 tag).run_endHeat p .appEnd false
  have ufaults : (((s.asked dt 0x06#8 tag).endHeat p .appEnd false).pocket p).faults
      = (s.pocket p).faults := (s.asked dt 0x06#8 tag).faults_endHeat p .appEnd false
  have uphase := (s.asked dt 0x06#8 tag).phase_endHeat p .appEnd false
  have uqueue := (s.asked dt 0x06#8 tag).queue_endHeat p .appEnd false
  have umotor := (s.asked dt 0x06#8 tag).motorRun_endHeat p .appEnd false
  have uevents : s.cfg.classMask = 0 → s.ml.events.length ≤ 14 →
      ⟨.heatEnded, some p, half s.bd.clock, 2#16⟩
        ∈ ((s.asked dt 0x06#8 tag).endHeat p .appEnd false).ml.events :=
    (s.asked dt 0x06#8 tag).heatEnded_posted p .appEnd false
  refine ⟨_, exec_endHeat dt tag p hs hpass, ?_⟩
  generalize (s.asked dt 0x06#8 tag).endHeat p .appEnd false = u at *
  obtain ⟨trun, tfaults, tphase, -, -, tqueue, -, tevents⟩ := carriedOut_keeps u .ok p
  have hmoving : (u.pocket p).phase ≠ .acRest := by
    rw [uphase, State.pocket_asked]
    revert hphase
    cases (s.pocket p).phase <;> simp [Phase.heating]
  refine ⟨htime, hanswers, hframe, trun.trans urun, tfaults.trans ufaults, ?_,
    fun hmask hroom => tevents _ (uevents hmask hroom)⟩
  rw [(tphase hmoving).1, tqueue, uphase, uqueue, htime, State.pocket_asked]
  split
  · rename_i hearly
    have hcold : (s.pocket p).phase.heating = false := by
      revert hearly
      cases (s.pocket p).phase <;> simp [Phase.heating]
    simp [hcold]
  · rename_i hlate
    have hheating : (s.pocket p).phase.heating = true := by
      revert hphase hlate
      cases (s.pocket p).phase <;> simp [Phase.heating]
    have hrest := u.arbitrate_motorRun p (by rw [uphase]; simp [hheating])
    exact ⟨by simp [hheating], hrest.trans umotor, by simp [hheating]⟩

end

section
/-! Characters through the receiver, and the tests of a complete frame (R158 to R164). -/

namespace Sys2Proof.Machine

/-! ### One character (R159) -/

theorem State.takeChar_marked {s : State} {c : LineChar} (h : s.ml.rx ≠ .lineBreak)
    (hc : c.mark = true) : s.takeChar c = s.setRx (.receiving [c.byte] c.error) := by
  unfold State.takeChar
  split
  · exact absurd ‹_› h
  · rw [if_pos hc]
  · rw [if_pos hc]
  · rw [if_pos hc]

theorem State.takeChar_joins (s : State) {c : LineChar} (bytes : List Byte) (error : Bool)
    (hc : c.mark = false) :
    (s.setRx (.receiving bytes error)).takeChar c
      = (s.setRx (.receiving bytes error)).joinFrame (bytes ++ [c.byte]) (error || c.error) := by
  simp [State.takeChar, State.setRx, hc]

theorem State.joinFrame_of_partial {s : State} {bytes : List Byte} (error : Bool)
    (hlong : ¬ (bytes.length = 3 ∧ 60 < (byteAt bytes 2).toNat))
    (hpart : ¬ (3 < bytes.length ∧ bytes.length = 4 + (byteAt bytes 2).toNat)) :
    s.joinFrame bytes error = s.setRx (.receiving bytes error) := by
  unfold State.joinFrame
  rw [if_neg hlong, if_neg hpart]

theorem State.joinFrame_of_overlong {s : State} {bytes : List Byte} (error : Bool)
    (hlen : bytes.length = 3) (hlong : 60 < (byteAt bytes 2).toNat) :
    s.joinFrame bytes error = (s.setRx .skipping).reject (byteAt bytes 0) (byteAt bytes 1) .length := by
  unfold State.joinFrame
  rw [if_pos ⟨hlen, hlong⟩]

theorem State.joinFrame_of_complete {s : State} {bytes : List Byte} (error : Bool)
    (hlen : 3 < bytes.length) (hwhole : bytes.length = 4 + (byteAt bytes 2).toNat) :
    s.joinFrame bytes error = (s.setRx .idle).testFrame bytes error := by
  unfold State.joinFrame
  rw [if_neg (by omega), if_pos ⟨hlen, hwhole⟩]

theorem State.setRx_setRx (s : State) (a b : Receiver) : (s.setRx a).setRx b = s.setRx b := rfl

/-! ### The characters of a frame -/

/-- The kind and tag characters. -/
theorem State.takeChars_head {s : State} {kind tag : LineChar} (h : s.ml.rx ≠ .lineBreak)
    (hkind : kind.mark = true) (htag : tag.mark = false) :
    (s.takeChar kind).takeChar tag
      = s.setRx (.receiving [kind.byte, tag.byte] (kind.error || tag.error)) := by
  rw [State.takeChar_marked h hkind, State.takeChar_joins s _ _ htag,
    State.joinFrame_of_partial _ (by simp) (by simp)]
  rfl

/-- The characters between the length and the check join the frame in assembly. -/
theorem State.takeChars_payload (s : State) (cs : List LineChar) (bytes : List Byte) (error : Bool)
    (hmark : ∀ c ∈ cs, c.mark = false) (hstart : 3 ≤ bytes.length)
    (hroom : bytes.length + cs.length < 4 + (byteAt bytes 2).toNat) :
    cs.foldl State.takeChar (s.setRx (.receiving bytes error))
      = s.setRx (.receiving (bytes ++ cs.map (·.byte)) (error || cs.any (·.error))) := by
  induction cs generalizing bytes error with
  | nil => simp
  | cons c cs ih =>
    have hbyte : byteAt (bytes ++ [c.byte]) 2 = byteAt bytes 2 := by
      unfold byteAt
      rw [List.getD_append _ _ _ _ (by omega)]
    have hlen : (bytes ++ [c.byte]).length = bytes.length + 1 := by simp
    simp only [List.length_cons] at hroom
    rw [List.foldl_cons, State.takeChar_joins s _ _ (hmark c List.mem_cons_self),
      State.joinFrame_of_partial _ (by rw [hlen]; omega) (by rw [hbyte, hlen]; omega),
      State.setRx_setRx, ih _ _ (fun c hc => hmark c (List.mem_cons_of_mem _ hc)) (by omega)
        (by rw [hbyte, hlen]; omega)]
    simp [Bool.or_assoc]

/-- R159, R160: a whole frame of characters is tested as it stands. -/
theorem State.takeChars_frame {s : State} {kind tag len check : LineChar} {payload : List LineChar}
    (h : s.ml.rx ≠ .lineBreak) (hkind : kind.mark = true)
    (hmark : ∀ c ∈ tag :: len :: check :: payload, c.mark = false) (hlen : len.byte.toNat ≤ 60)
    (hpayload : payload.length = len.byte.toNat) :
    ([kind, tag, len] ++ payload ++ [check]).foldl State.takeChar s
      = (s.setRx .idle).testFrame ([kind.byte, tag.byte, len.byte] ++ payload.map (·.byte) ++ [check.byte])
          (([kind, tag, len] ++ payload ++ [check]).any (·.error)) := by
  have htag := hmark tag (by simp)
  have hlenMark := hmark len (by simp)
  have hcheck := hmark check (by simp)
  have hthree : ((s.takeChar kind).takeChar tag).takeChar len
      = s.setRx (.receiving [kind.byte, tag.byte, len.byte] (kind.error || tag.error || len.error)) := by
    rw [State.takeChars_head h hkind htag, State.takeChar_joins s _ _ hlenMark,
      State.joinFrame_of_partial _ (by simp [byteAt]; omega) (by simp)]
    rfl
  have hpay := State.takeChars_payload s payload [kind.byte, tag.byte, len.byte]
    (kind.error || tag.error || len.error) (fun c hc => hmark c (by simp [hc])) (by simp)
    (by simp [byteAt]; omega)
  have hfold : ([kind, tag, len] ++ payload ++ [check]).foldl State.takeChar s
      = (payload.foldl State.takeChar (((s.takeChar kind).takeChar tag).takeChar len)).takeChar check := by
    simp
  rw [hfold, hthree, hpay, State.takeChar_joins s _ _ hcheck, State.joinFrame_of_complete _ (by simp) (by simp [byteAt]; omega), State.setRx_setRx]
  congr 1
  simp [Bool.or_assoc]

/-- The tests of a frame in their order (R160). -/
theorem State.testFrame_eq (s : State) (kind tag len check : Byte) (payload : List Byte) (error : Bool) :
    s.testFrame ([kind, tag, len] ++ payload ++ [check]) error =
      if error then s.reject kind tag .line
      else if crc8 ([kind, tag, len] ++ payload) ≠ check then s.reject kind tag .check
      else if knownKind kind then s.take kind tag (Request.parse kind payload)
      else s.reject kind tag .kind := by
  have hlast : byteAt ([kind, tag, len] ++ payload ++ [check])
      (([kind, tag, len] ++ payload ++ [check]).length - 1) = check := by
    unfold byteAt
    rw [List.length_append, List.length_singleton, Nat.add_sub_cancel,
      List.getD_append_right _ _ _ _ le_rfl, Nat.sub_self]
    rfl
  unfold State.testFrame
  rw [hlast, List.dropLast_concat]
  rfl

/-! ### Clean frames (R158, 12.2) -/

theorem cleanFrame_eq (kind tag : Byte) (payload : List Byte) :
    cleanFrame kind tag payload =
      [LineChar.clean kind true, LineChar.clean tag false, LineChar.clean (byteNat payload.length) false]
        ++ payload.map (fun b => LineChar.clean b false)
        ++ [LineChar.clean (crc8 ([kind, tag, byteNat payload.length] ++ payload)) false] := by
  simp [cleanFrame, frameChars]

@[simp] theorem LineChar.error_clean (b : Byte) (mark : Bool) : (LineChar.clean b mark).error = false := by
  simp [LineChar.error]

/-- A clean frame of a known kind and a payload of at most 60 bytes is taken as it is parsed. -/
theorem State.takeChars_cleanFrame {s : State} (kind tag : Byte) (payload : List Byte)
    (hw : s.ss.power.working = true) (hrx : s.ml.rx ≠ .lineBreak) (hkind : knownKind kind = true)
    (hlen : payload.length ≤ 60) :
    s.takeChars (cleanFrame kind tag payload)
      = (s.setRx .idle).take kind tag (Request.parse kind payload) := by
  have hbyte : (byteNat payload.length).toNat = payload.length := by
    simp only [byteNat, BitVec.toNat_ofNat]
    omega
  have hframe := State.takeChars_frame (s := s) (kind := LineChar.clean kind true)
    (tag := LineChar.clean tag false) (len := LineChar.clean (byteNat payload.length) false)
    (check := LineChar.clean (crc8 ([kind, tag, byteNat payload.length] ++ payload)) false)
    (payload := payload.map (fun b => LineChar.clean b false)) hrx (by simp)
    (by simp) (by simpa [hbyte] using hlen) (by simp [hbyte])
  have hclean : ([LineChar.clean kind true, LineChar.clean tag false,
      LineChar.clean (byteNat payload.length) false] ++ payload.map (fun b => LineChar.clean b false)
      ++ [LineChar.clean (crc8 ([kind, tag, byteNat payload.length] ++ payload)) false]).any
        (·.error) = false := by
    simp
  have hbytes : (payload.map (fun b => LineChar.clean b false)).map (·.byte) = payload := by
    simp [Function.comp_def]
  rw [hclean, hbytes] at hframe
  simp only [LineChar.byte_clean] at hframe
  rw [State.testFrame_eq, if_neg (by simp), if_neg (by simp), if_pos hkind] at hframe
  rw [State.takeChars, if_pos hw, cleanFrame_eq, hframe]

/-- Nothing is received in RESET and DARK, and nothing during a break (R161, R164). -/
theorem State.takeChars_of_deaf {s : State} (h : ¬ (s.ss.power.working = true ∧ s.ml.rx ≠ .lineBreak))
    (cs : List LineChar) : s.takeChars cs = s := by
  unfold State.takeChars
  split
  · rename_i hw
    have hbreak : s.ml.rx = .lineBreak := by
      by_contra hrx
      exact h ⟨hw, hrx⟩
    induction cs with
    | nil => rfl
    | cons c cs ih => simpa [State.takeChar, hbreak] using ih
  · rfl

/-- The clean frame of a request does what the request's command does. -/
theorem State.takeChars_request (s : State) (tag : Byte) (r : Request) (payload : List Byte)
    (hparse : Request.parse r.kind payload = some r) (hlen : payload.length ≤ 60) :
    s.takeChars (cleanFrame r.kind tag payload) = s.request tag r := by
  have hkind : knownKind r.kind = true := by
    cases r <;> rfl
  unfold State.request
  split
  · rename_i h
    rw [State.takeChars_cleanFrame _ _ _ h.1 h.2 hkind hlen, hparse]
    rfl
  · rename_i h
    exact State.takeChars_of_deaf h _

/-- The two bytes of a 16-bit field name it. -/
theorem halfOf_bytes (v : Half) : halfOf (v.extractLsb' 0 8) (v.extractLsb' 8 8) = v := by
  have hjoin : ∀ w : BitVec (8 + 8), w.extractLsb' 8 8 ++ w.extractLsb' 0 8 = w := by
    intro w
    refine BitVec.eq_of_getLsbD_eq fun i hi => ?_
    rw [BitVec.getLsbD_append]
    by_cases hlow : i < 8
    · simp [hlow]
    · have hhigh : i - 8 < 8 := by omega
      have hsum : 8 + (i - 8) = i := by omega
      simp [hlow, hhigh, hsum]
  exact hjoin v

/-- The command of a request is its clean frame's. -/
theorem exec_frame_of_parse {s : State} {dt : Nat} {tag : Byte} {r : Request} {payload : List Byte}
    (hparse : Request.parse r.kind payload = some r) (hlen : payload.length ≤ 60) :
    exec (.frameReceived dt (cleanFrame r.kind tag payload)) s = .next ((s.advance dt).request tag r) :=
  congrArg _ (State.takeChars_request _ tag r payload hparse hlen)

/-- The marks of a frame stand on its first character alone. -/
theorem marks_frameChars_range (bs : List Byte) :
    (frameChars bs).map (fun c => c.mark) = (List.range bs.length).map (fun i => i == 0) := by
  cases bs with
  | nil => rfl
  | cons b bs =>
    rw [marks_frameChars, List.length_cons, List.range_succ_eq_map, List.map_cons, List.map_map]
    congr 1
    refine List.ext_getElem (by simp) fun i h1 h2 => ?_
    simp

end Sys2Proof.Machine

open Sys2Proof Sys2Proof.Machine

/-- Settles O20: each payload parses to its request, and what the transmitter sends are frames' characters. -/
theorem cleanFramesAreTheirRequests : Obligations.CleanFramesAreTheirRequests := by
  refine ⟨?_, fun s => ⟨State.onTxd_off, fun hw => ⟨?_, fun f _ => ?_⟩⟩⟩
  · intro dt tag s frame
    have hframe : ∀ (r : Request) (payload : List Byte), Request.parse r.kind payload = some r →
        payload.length ≤ 60 → frame r.kind payload = .next ((s.advance dt).request tag r) :=
      fun r payload hparse hlen => exec_frame_of_parse hparse hlen
    refine ⟨hframe .status [] rfl (by simp), fun p => hframe (.pocket p) _ rfl (by simp), ?_, ?_,
      fun p st => hframe (.setStage p st) _ rfl (by simp),
      fun p => hframe (.endHeat p) _ rfl (by simp), fun p => hframe (.stop p) _ rfl (by simp),
      fun p => hframe (.continueCycle p) _ rfl (by simp), fun p => hframe (.plan p) _ rfl (by simp),
      fun p => hframe (.confirm p) _ rfl (by simp), fun p => hframe (.decline p) _ rfl (by simp),
      fun sel => hframe (.clear sel) _ rfl (by simp), hframe (.clear 2#8) _ rfl (by simp),
      hframe .events [] rfl (by simp), fun g f => hframe (.configRead g f) _ rfl (by simp), ?_,
      hframe .configStore [] rfl (by simp), fun p slot => hframe (.journalRead p slot) _ rfl (by simp)⟩
    · intro p t stage c x w b rt rev auto
      refine hframe (.startCycle p t stage c x w b rt rev auto) _ ?_ (by simp)
      exact congrArg some (by simp only [halfOf_bytes])
    · intro p a
      refine hframe (.extend p a) _ ?_ (by simp)
      exact congrArg some (by simp only [halfOf_bytes])
    · intro g f v
      refine hframe (.configWrite g f v) _ ?_ (by simp)
      exact congrArg some (by simp only [halfOf_bytes])
  · simp [State.onTxd, hw]
  · exact ⟨bytes_frameChars f.bytes, marks_frameChars_range f.bytes, frameChars_clean f.bytes⟩

end

section
/-! Frames that fail a test, gaps and breaks, and the event queue (R159 to R168). -/

namespace Sys2Proof.Machine

theorem knownKind_iff (kind : Byte) :
    knownKind kind = true ↔ ¬ (kind.toNat < 1 ∨ 0x11 < kind.toNat) := by
  simp only [knownKind, Bool.and_eq_true, decide_eq_true_eq]
  omega

/-- A request that is taken becomes the outstanding one (R160). -/
theorem State.take_owed {s : State} (kind tag : Byte) (r : Option Request)
    (h : s.ml.outstanding = none) :
    (s.take kind tag r).ml.rx = s.ml.rx ∧ (s.take kind tag r).ml.owed = some (kind, tag) := by
  have hserved : ∀ x, ServedKeeps (s.outstand kind tag) x →
      x.settle.ml.rx = s.ml.rx ∧ x.settle.ml.owed = some (kind, tag) := fun x hx => hx.ask
  unfold State.take
  rw [h]
  cases r with
  | none => exact hserved _ (.answer _ _)
  | some r => exact hserved _ (.serve _ r)

theorem exec_frameReceived {s : State} (dt : Nat) (cs : List LineChar)
    (hw : s.ss.power.working = true) :
    exec (.frameReceived dt cs) s = .next (cs.foldl State.takeChar (s.advance dt)) := by
  have hworking : (s.advance dt).ss.power.working = true := hw
  change Host.Outcome.next ((s.advance dt).takeChars cs) = _
  rw [State.takeChars, if_pos hworking]

/-- R159: the kind, tag and length characters of an overlong frame. -/
theorem State.takeChars_overlong {s : State} {kind tag len : LineChar} (h : s.ml.rx ≠ .lineBreak)
    (hkind : kind.mark = true) (htag : tag.mark = false) (hlen : len.mark = false)
    (hlong : 60 < len.byte.toNat) :
    [kind, tag, len].foldl State.takeChar s
      = (s.setRx .skipping).reject kind.byte tag.byte .length := by
  rw [List.foldl_cons, List.foldl_cons, State.takeChars_head h hkind htag, List.foldl_cons,
    List.foldl_nil, State.takeChar_joins s _ _ hlen, State.joinFrame_of_overlong _ (by simp)
      (by simpa [byteAt] using hlong)]
  rfl

theorem JournalController.linkBusy_of_none {j : JournalController}
    (hq : ∀ w ∈ j.queue, w.ofLink = false) (hstore : ∀ b n ph, j.engine ≠ .busy (.store b) n ph)
    (hread : ∀ p i n ph, j.engine ≠ .busy (.read p i) n ph) : j.linkBusy = false := by
  have hany : j.queue.any (·.ofLink) = false := List.any_eq_false.mpr fun w hw => by simp [hq w hw]
  unfold JournalController.linkBusy
  rw [hany, Bool.false_or]
  split
  · rename_i job n ph hbusy
    cases job with
    | store b => exact absurd hbusy (hstore b n ph)
    | read p i => exact absurd hbusy (hread p i n ph)
    | checkpoint => rfl
    | configRead => rfl
    | slotRead => rfl
  · rfl

theorem JournalController.linkBusy_of_queue {j : JournalController}
    (h : j.queue.any (·.ofLink) = true) : j.linkBusy = true := by
  simp [JournalController.linkBusy, h]

theorem JournalController.linkBusy_of_engine {j : JournalController} {job : Job} {n : Nat}
    {ph : EnginePhase} (h : j.engine = .busy job n ph) (hjob : job.ofLink = true) :
    j.linkBusy = true := by
  simp [JournalController.linkBusy, h, hjob]

theorem exec_lineBreak {s : State} (dt : Nat) (hw : s.ss.power.working = true) :
    exec (.lineBreak dt) s = .next { s with
      time := s.time + dt
      ml := { s.ml with
        rx := .lineBreak
        tx := []
        outstanding := none
        orphan := s.ml.orphan || (s.ml.outstanding.isSome && s.jc.linkBusy) } } := by
  simp [exec, execLineBreak, State.advance, hw]

/-! ### Events (R166, R167) -/

theorem Link.post_of_masked {l : Link} {m : Nat} {e : EventEntry}
    (h : m.testBit e.kind.classBit = true) : l.post m e = l := by
  simp [Link.post, h]

theorem Link.post_of_room {l : Link} {m : Nat} {e : EventEntry}
    (h : m.testBit e.kind.classBit = false) (hroom : l.events.length < 16) :
    l.post m e = { l with events := l.events ++ [e] } := by
  simp [Link.post, h, hroom]

theorem Link.post_of_full {l : Link} {m : Nat} {e : EventEntry}
    (h : m.testBit e.kind.classBit = false) (hfull : 16 ≤ l.events.length) :
    l.post m e = { l with
      lost := true
      outstanding := l.outstanding.map fun o =>
        { o with events := o.events.map fun ev => { ev with discarded := true } } } := by
  have hno : ¬ l.events.length < 16 := by omega
  simp [Link.post, h, hno]

end Sys2Proof.Machine

open Sys2Proof Sys2Proof.Machine

/-- Settles O21: the characters come to one test of the whole frame, whose branches are the four tests. -/
theorem completeFramesAreTestedInOrder : Obligations.CompleteFramesAreTestedInOrder := by
  intro dt kind tag len check payload s hw hrx hkind hmark hlen hpayload chars covered rejected
  have hframe := State.takeChars_frame (s := s.advance dt) hrx hkind hmark hlen hpayload
  rw [State.testFrame_eq] at hframe
  have hexec := (exec_frameReceived dt chars hw).trans (congrArg Host.Outcome.next hframe)
  have hknown := knownKind_iff kind.byte
  split
  · rename_i herror
    exact hexec.trans (congrArg _ (if_pos herror))
  rename_i herror
  replace hexec := hexec.trans (congrArg _ (if_neg herror))
  split
  · rename_i hcheck
    exact hexec.trans (congrArg _ (if_pos hcheck))
  rename_i hcheck
  replace hexec := hexec.trans (congrArg _ (if_neg hcheck))
  split
  · rename_i hunknown
    exact hexec.trans (congrArg _ (if_neg fun hk => hknown.mp hk hunknown))
  rename_i hnamed
  replace hexec := hexec.trans (congrArg _ (if_pos (hknown.mpr hnamed)))
  split
  · rename_i hbusy
    rw [hexec]
    exact congrArg _ (if_pos hbusy)
  · rename_i hnone
    have hfree : s.ml.outstanding = none := by simpa using hnone
    obtain ⟨hrx', howed⟩ := State.take_owed (s := (s.advance dt).setRx .idle) kind.byte tag.byte
      (Request.parse kind.byte (payload.map (·.byte))) hfree
    obtain ⟨o, ho, heq⟩ := Option.map_eq_some_iff.mp howed
    simp only [Prod.mk.injEq] at heq
    exact ⟨_, o, hexec, hrx', ho, heq.1, heq.2⟩

/-- Settles O22: the third character is rejected as it arrives, and a REJECT is its bytes of 12.2. -/
theorem overlongFramesAreRejected : Obligations.OverlongFramesAreRejected := by
  refine ⟨fun dt kind tag len s hw hrx hkind htag hlen hlong => ?_, fun l kind tag cause => ?_⟩
  · have hchars := State.takeChars_overlong (s := s.advance dt) hrx hkind htag hlen hlong
    exact (exec_frameReceived dt [kind, tag, len] hw).trans (congrArg _ hchars)
  · intro body
    have hbody : rejectFrame kind tag cause = body ++ [crc8 body] := by
      cases cause <;> rfl
    rw [Link.sendReject, hbody]

/-- Settles O23: what a break makes of the orphan is told by the requests the Journal Controller has. -/
theorem gapsAndBreaksResetTheLine : Obligations.GapsAndBreaksResetTheLine := by
  refine ⟨fun dt s bytes e hw hrx => ?_, fun dt s hw => ⟨_, exec_lineBreak dt hw, rfl, fun h => ?_,
    fun hq hstore hread => ?_, fun hasked hq => ?_, fun hasked n ph h => ?_⟩, fun dt s hw hrx => ?_⟩
  · simp [exec, execFrameGapTimeout, State.advance, State.setRx, hw, hrx]
  · simp [h]
  · simp [JournalController.linkBusy_of_none hq hstore hread]
  · simp [hasked, JournalController.linkBusy_of_queue hq]
  · have hbusy : s.jc.linkBusy = true := by
      rcases h with ⟨b, hb⟩ | ⟨p, i, hb⟩
      · exact JournalController.linkBusy_of_engine hb rfl
      · exact JournalController.linkBusy_of_engine hb rfl
    simp [hasked, hbusy]
  · simp [exec, execLineBreakEnd, State.advance, State.setRx, hw, hrx]

/-- Settles O24, by the mask and the room of the queue. -/
theorem eventsJoinTheQueueAndDriveAttn : Obligations.EventsJoinTheQueueAndDriveAttn := by
  refine ⟨fun s kind p arg => ?_, fun s => ?_⟩
  · intro t
    refine ⟨rfl, fun hmask => ?_, fun hmask hroom => Link.post_of_room hmask hroom,
      fun hmask hfull => ?_⟩
    · exact congrArg (fun l => ({ s with ml := l } : State))
        (Link.post_of_masked (l := s.ml) (e := ⟨kind, p, half s.bd.clock, arg⟩) hmask)
    · have hpost : t.ml = _ := Link.post_of_full hmask hfull
      refine ⟨fun h => ?_, fun k tag h => ?_, fun k tag ev h => ?_⟩ <;> simp [hpost, h]
  · have hworking : s.ss.power.working = true ↔ s.ss.power ≠ .reset ∧ s.ss.power ≠ .dark := by
      cases s.ss.power <;> simp [Power.working]
    simp only [State.attn, Bool.and_eq_true, hworking, Bool.or_eq_true, Bool.not_eq_true',
      List.isEmpty_eq_false_iff, and_assoc]

end

section
/-! Requests that fail their tests (R7, R165). -/

namespace Sys2Proof.Machine

/-! ### Arguments -/

/-- R165: a payload of another length than its kind's does not parse. The split is by kind and by
length; the longest payload has 15 bytes. -/
theorem parse_of_length_ne {kind : Byte} {payload : List Byte} (hlow : 1 ≤ kind.toNat)
    (hhigh : kind.toNat ≤ 0x11)
    (hne : payload.length
      ≠ [0, 1, 15, 3, 2, 1, 1, 1, 1, 1, 1, 1, 0, 2, 4, 0, 2].getD (kind.toNat - 1) 0) :
    Request.parse kind payload = none := by
  obtain ⟨n, rfl⟩ : ∃ n : Fin 17, kind = BitVec.ofNat 8 (n + 1) :=
    ⟨⟨kind.toNat - 1, by omega⟩, BitVec.eq_of_toNat_eq (by simp; omega)⟩
  fin_cases n
  all_goals
    rcases payload with _ | ⟨_, _ | ⟨_, _ | ⟨_, _ | ⟨_, _ | ⟨_, _ | ⟨_, _ | ⟨_, _ | ⟨_, _ | ⟨_, _ | ⟨_,
      _ | ⟨_, _ | ⟨_, _ | ⟨_, _ | ⟨_, _ | ⟨_, _ | ⟨_, _⟩⟩⟩⟩⟩⟩⟩⟩⟩⟩⟩⟩⟩⟩⟩⟩
    all_goals first | rfl | exact absurd rfl hne

theorem boolArg_of_high {b : Byte} (h : 2 ≤ b.toNat) : boolArg b = none := by
  unfold boolArg
  split
  · omega
  · omega
  · rfl

theorem stageArg_of_high {b : Byte} (h : 2 ≤ b.toNat) : stageArg b = none := by
  simp [stageArg, boolArg_of_high h]

theorem cycleChoices_of_high {stage rev auto : Byte}
    (h : 2 ≤ stage.toNat ∨ 2 ≤ rev.toNat ∨ 2 ≤ auto.toNat) : cycleChoices stage rev auto = none := by
  unfold cycleChoices
  split
  · rename_i hstage hrev hauto
    rcases h with h | h | h
    · rw [stageArg_of_high h] at hstage
      cases hstage
    · rw [boolArg_of_high h] at hrev
      cases hrev
    · rw [boolArg_of_high h] at hauto
      cases hauto
  · rfl

theorem slotOfByte_of_high {b : Byte} (h : 124 ≤ b.toNat) : slotOfByte b = none :=
  dif_neg (by omega)

theorem State.serveJournalRead_of_badArg {s : State} {q slot : Byte} (hrun : s.inRun = true)
    (horphan : s.ml.orphan = false) (h : 2 ≤ q.toNat ∨ 124 ≤ slot.toNat) :
    s.serveJournalRead q slot = s.answer .badArg := by
  unfold State.serveJournalRead
  rw [hrun, horphan]
  rcases h with h | h
  · rw [pocketOfByte_of_high h]
    rfl
  · rw [slotOfByte_of_high h]
    cases pocketOfByte q <;> rfl

/-! ### Requests outside RUN -/

theorem State.listening.asked_not_inRun {s : State} (h : s.ss.power ≠ .run) (dt : Nat)
    (kind tag : Byte) : (s.asked dt kind tag).inRun = false := by
  simpa [State.inRun, State.asked] using h

/-- A pocket request that fails its phase test in RUN. -/
theorem request_of_fails {s : State} {dt : Nat} {tag : Byte} {r : Request} {p : PocketId}
    {passes : PocketId → Bool} {fail : Status} {act : PocketId → Served} (hs : s.serving)
    (hserve : (s.asked dt r.kind tag).serve r
      = (s.asked dt r.kind tag).pocketRequest (pocketByte p) passes fail act)
    (h : passes p = false) :
    (s.advance dt).request tag r = s.answered dt r.kind tag ⟨fail, []⟩ :=
  exec_of_answer hs.listening (hserve.trans
    (State.pocketRequest_of_fails (hs.inRun_asked dt r.kind tag) h fail act))

/-- The phase test of EXTEND fails (R25). -/
theorem Pocket.extendable_of_outside {k : Pocket}
    (h : k.phase ∈ [Phase.idle, .acRest, .acBurst, .done, .faultHold]
      ∨ (k.phase = .paused ∧ k.run.target ≠ .heat)
      ∨ (k.phase = .cool ∧ k.run.cause ≠ .target ∧ k.run.cause ≠ .appEnd)) :
    k.extendable = false := by
  rcases h with h | ⟨h, htarget⟩ | ⟨h, htarget, hend⟩
  · unfold Pocket.extendable
    revert h
    cases k.phase <;> simp
  · simp [Pocket.extendable, h, htarget]
  · simp [Pocket.extendable, h, htarget, hend]

/-- The phase test of END_HEAT fails (R27). -/
theorem Pocket.heatEndable_of_outside {k : Pocket}
    (h : k.phase ∉ [Phase.startWait, .spinup, .purge, .ignition, .heat, .heatWait]
      ∨ k.run.target ≠ .heat) : k.heatEndable = false := by
  unfold Pocket.heatEndable
  rcases h with h | h
  · revert h
    cases k.phase <;> simp [Phase.heating]
  · have htarget : (k.run.target == .heat) = false := by simpa using h
    rw [htarget, Bool.and_false]

end Sys2Proof.Machine

open Sys2Proof Sys2Proof.Machine

/-- Settles O11, test by test of R7: each request is served by an answer alone. -/
theorem refusedRequestsChangeNothing : Obligations.RefusedRequestsChangeNothing := by
  refine ⟨?_, ?_, ?_, ?_⟩
  · intro dt tag kind payload s hs hlen hlow hhigh hne
    obtain ⟨hw, hrx, hout⟩ := hs
    have hknown := (knownKind_iff kind).mpr (by omega)
    have hparse := parse_of_length_ne hlow hhigh hne
    have hframe := State.takeChars_cleanFrame (s := s.advance dt) kind tag payload hw hrx hknown hlen
    rw [hparse] at hframe
    refine congrArg _ (hframe.trans ?_)
    have hnone : ((s.advance dt).setRx .idle).ml.outstanding.isSome = false := by
      change s.ml.outstanding.isSome = false
      rw [hout]
      rfl
    unfold State.take
    rw [hnone]
    rfl
  · intro dt tag b s hs hb badArg
    have hpocket : ∀ r passes fail act,
        (s.asked dt r.kind tag).serve r = (s.asked dt r.kind tag).pocketRequest b passes fail act →
        Host.Outcome.next ((s.advance dt).request tag r) = badArg r.kind := fun r passes fail act h =>
      congrArg _ (exec_of_answer hs (h.trans (State.pocketRequest_of_unnamed _ hb passes fail act)))
    have hserve : ∀ r, (s.asked dt r.kind tag).serve r = (s.asked dt r.kind tag).answer .badArg →
        Host.Outcome.next ((s.advance dt).request tag r) = badArg r.kind := fun r h =>
      congrArg _ (exec_of_answer hs h)
    refine ⟨hserve (.pocket b) ?_, fun t stage c x w d rt rev auto =>
        hpocket (.startCycle b t stage c x w d rt rev auto) _ _ _ rfl,
      fun amount => hpocket (.extend b amount) _ _ _ rfl,
      fun stage => hpocket (.setStage b stage) _ _ _ rfl, hpocket (.endHeat b) _ _ _ rfl,
      hpocket (.stop b) _ _ _ rfl, hpocket (.continueCycle b) _ _ _ rfl, hserve (.plan b) ?_,
      hpocket (.confirm b) _ _ _ rfl, hpocket (.decline b) _ _ _ rfl,
      fun hsel => hserve (.clear b) ?_⟩
    · simp only [State.serve, State.servePocket, pocketOfByte_of_high hb]
    · simp only [State.serve, State.servePlan, pocketOfByte_of_high hb]
    · have hpart : b ≠ 2#8 := by
        rintro rfl
        exact absurd hsel (by decide)
      simp only [State.serve, State.serveClear, if_neg hpart]
      exact State.pocketRequest_of_unnamed _ hb _ _ _
  · intro dt tag p s hs hp notReady
    have hout := fun kind => State.listening.asked_not_inRun hp dt kind tag
    have hserve : ∀ r, (s.asked dt r.kind tag).serve r = (s.asked dt r.kind tag).answer .notReady →
        Host.Outcome.next ((s.advance dt).request tag r) = notReady r.kind := fun r h =>
      congrArg _ (exec_of_answer hs h)
    have hpocket : ∀ r passes fail act,
        (s.asked dt r.kind tag).serve r
          = (s.asked dt r.kind tag).pocketRequest (pocketByte p) passes fail act →
        Host.Outcome.next ((s.advance dt).request tag r) = notReady r.kind := fun r passes fail act h =>
      hserve r (h.trans (State.pocketRequest_of_not_inRun (hout r.kind) p passes fail act))
    have hpart : pocketByte p ≠ 2#8 := by cases p <;> decide
    refine ⟨fun t stage c x w b rt rev auto =>
        hpocket (.startCycle (pocketByte p) t stage c x w b rt rev auto) _ _ _ rfl,
      fun amount => hpocket (.extend (pocketByte p) amount) _ _ _ rfl,
      fun stage => hpocket (.setStage (pocketByte p) stage) _ _ _ rfl,
      hpocket (.endHeat (pocketByte p)) _ _ _ rfl, hpocket (.stop (pocketByte p)) _ _ _ rfl,
      hpocket (.continueCycle (pocketByte p)) _ _ _ rfl, hpocket (.confirm (pocketByte p)) _ _ _ rfl,
      hpocket (.decline (pocketByte p)) _ _ _ rfl,
      hpocket (.clear (pocketByte p)) _ _ _ (if_neg hpart),
      fun g f v => hserve (.configWrite g f v) ?_, hserve .configStore ?_,
      fun q slot => hserve (.journalRead q slot) ?_⟩
    · simp only [State.serve, State.serveConfigWrite, hout]
      rfl
    · simp only [State.serve, State.serveConfigStore, hout]
      rfl
    · simp only [State.serve, State.serveJournalRead, hout]
      rfl
  · intro dt tag p s hs k wrong
    have hrun := hs.inRun_asked dt
    have hserve : ∀ r st, (s.asked dt r.kind tag).serve r = (s.asked dt r.kind tag).answer st →
        (Host.Outcome.next ((s.advance dt).request tag r) : Host.Outcome State Fault Refusal)
          = .next (s.answered dt r.kind tag ⟨st, []⟩) := fun r st h =>
      congrArg _ (exec_of_answer hs.listening h)
    refine ⟨fun hidle hdone t stage c x w b rt rev auto => ?_, fun h amount => ?_, fun h stage => ?_,
      fun h => ?_, fun h => ?_, fun h => ?_, fun h => ⟨?_, ?_⟩,
      fun h t stage c x w b rt rev auto hbad => ?_, fun h stage hbad => ?_, fun horphan q slot hbad => ?_⟩
    · exact congrArg _ (request_of_fails (r := .startCycle (pocketByte p) t stage c x w b rt rev auto) hs
        rfl (by simp [k] at hidle hdone; simp [hidle, hdone]))
    · exact congrArg _ (request_of_fails (r := .extend (pocketByte p) amount) hs rfl
        (Pocket.extendable_of_outside h))
    · refine congrArg _ (request_of_fails (r := .setStage (pocketByte p) stage) hs rfl ?_)
      rw [← Bool.not_eq_true, State.pocket_asked, Phase.staged_iff, not_not]
      exact h
    · exact congrArg _ (request_of_fails (r := .endHeat (pocketByte p)) hs rfl
        (Pocket.heatEndable_of_outside h))
    · exact hserve (.stop (pocketByte p)) _ (State.serveStop_of_none (hrun _ tag)
        (State.stopBy_of_rejected h))
    · refine congrArg _ (request_of_fails (r := .continueCycle (pocketByte p)) hs rfl ?_)
      rcases h with h | h
      · simp only [State.pocket_asked]
        rw [beq_false_of_ne h, Bool.false_and]
      · simp [h]
    · exact congrArg _ (request_of_fails (r := .confirm (pocketByte p)) hs rfl (beq_false_of_ne h))
    · exact congrArg _ (request_of_fails (r := .decline (pocketByte p)) hs rfl (beq_false_of_ne h))
    · refine hserve (.startCycle (pocketByte p) t stage c x w b rt rev auto) _
        ((State.pocketRequest_of_passes (hrun _ tag) ?_ _ _).trans ?_)
      · rcases h with h | h <;> simp [k] at h <;> simp [h]
      · rw [cycleChoices_of_high hbad]
    · refine hserve (.setStage (pocketByte p) stage) _
        ((State.pocketRequest_of_passes (hrun _ tag) ((Phase.staged_iff _).mpr h) _ _).trans ?_)
      rw [stageArg_of_high hbad]
    · refine hserve (.journalRead q slot) _ ?_
      have hasked : (s.asked dt 0x11#8 tag).ml.orphan = false := horphan
      exact State.serveJournalRead_of_badArg (hrun _ tag) hasked hbad

end

section
/-! The Line Monitor: crossings, silences and line states (R84 to R95). -/

namespace Sys2Proof.Machine

/-! ### Half-cycles (R86 to R92) -/

theorem classOf_of_long {c : WorkingCopy} {interval : Nat} {peak : Byte} (h : 11500 < interval) :
    classOf c interval peak = .missing :=
  if_pos h

theorem classOf_of_good {c : WorkingCopy} {interval : Nat} {peak : Byte} (h : interval ≤ 11500)
    (hpeak : c.lowThreshold ≤ peak.toNat) : classOf c interval peak = .good := by
  rw [classOf, if_neg (by omega), if_pos hpeak]

theorem classOf_of_low {c : WorkingCopy} {interval : Nat} {peak : Byte} (h : interval ≤ 11500)
    (hpeak : peak.toNat < c.lowThreshold) : classOf c interval peak = .low := by
  rw [classOf, if_neg (by omega), if_neg (by omega)]

/-- A half-cycle that leaves the line NORMAL changes the counts alone (R91). -/
theorem LineMonitor.classify_of_normal {m : LineMonitor} {c : WorkingCopy} {cls : HalfCycle}
    {interval : Nat} (hline : m.line = .normal)
    (h : (m.count cls interval).next c cls = .normal) :
    m.classify c cls interval = m.count cls interval := by
  have hkept : (m.count cls interval).line = .normal := by
    cases cls <;> exact hline
  unfold LineMonitor.classify
  have hqualified : ¬ (m.line = .qualifying ∧ True) := by simp [hline]
  simp only [h]
  rw [if_neg hqualified, ← hkept]

/-- A MISSING half-cycle in NORMAL makes the line RIDE_THROUGH (R91). -/
theorem LineMonitor.classify_missing_of_normal {m : LineMonitor} (c : WorkingCopy) (interval : Nat)
    (hline : m.line = .normal) :
    m.classify c .missing interval = { m with
      line := .rideThrough, goodRun := 0, lowCount := 0
      missingCount := min 255 (m.missingCount + 1), intervalSum := 0 } := by
  simp [LineMonitor.classify, LineMonitor.next, LineMonitor.count, hline]

/-- The GOOD half-cycle that reaches Q ends qualification (R88). -/
theorem LineMonitor.classify_good_of_qualified {m : LineMonitor} {c : WorkingCopy} (interval : Nat)
    (hline : m.line = .qualifying) (hq : c.q ≤ min 400 (m.goodRun + 1)) :
    (m.classify c .good interval).line = .normal
      ∧ (m.classify c .good interval).freq
        = (if m.intervalSum + interval < c.q * 9200 then .hz60 else .hz50) := by
  simp [LineMonitor.classify, LineMonitor.next, LineMonitor.count, LineMonitor.found, hline, hq]

/-! ### Events posted -/

/-- A post leaves the line side of the link (R166). -/
theorem State.keepsLine_post (s : State) (k : EventKind) (p : Option PocketId) (arg : Half) :
    keepsLine s (s.post k p arg) := by
  unfold keepsLine State.post Link.post
  split
  · exact ⟨rfl, rfl, rfl, rfl⟩
  · split
    · exact ⟨rfl, rfl, rfl, rfl⟩
    · refine ⟨rfl, rfl, rfl, ?_⟩
      simp [Function.comp_def]

/-- An unmasked event joins a queue with room at its tail (R166). -/
theorem State.events_post {s : State} (k : EventKind) (p : Option PocketId) (arg : Half)
    (hmask : s.cfg.classMask = 0) (hroom : s.ml.events.length < 16) :
    (s.post k p arg).ml.events = s.ml.events ++ [⟨k, p, half s.bd.clock, arg⟩] := by
  have hlink := Link.post_of_room (l := s.ml) (e := ⟨k, p, half s.bd.clock, arg⟩)
    (m := s.cfg.classMask) (by simp [hmask]) hroom
  exact congrArg Link.events hlink

/-! ### A half-cycle whole -/

/-- A half-cycle in RUN that leaves the line NORMAL is counted and does no more. -/
theorem State.halfCycle_of_normal {s : State} {cls : HalfCycle} {interval : Nat} {peak : Byte}
    (hrun : s.ss.power = .run) (hline : s.lm.line = .normal)
    (h : (s.lm.count cls interval).next s.cfg cls = .normal) :
    s.halfCycle cls interval peak = { s with lm := s.lm.count cls interval } := by
  have hkept := LineMonitor.classify_of_normal hline h
  have hsame : (s.lm.count cls interval).line = s.lm.line := by
    cases cls <;> rfl
  simp only [State.halfCycle]
  rw [hkept, if_pos hsame]
  exact if_neg (by simp [hrun])

/-- A MISSING half-cycle in RUN with the line NORMAL: RIDE_THROUGH, and its event alone (R91, R95). -/
theorem State.halfCycle_missing_of_normal {s : State} (interval : Nat) (peak : Byte)
    (hrun : s.ss.power = .run) (hline : s.lm.line = .normal) (hslot : s.slotServed) :
    s.halfCycle .missing interval peak
      = { s with lm := s.lm.classify s.cfg .missing interval }.post .lineRide none
          (half (min 255 (s.lm.missingCount + 1))) := by
  have hm := LineMonitor.classify_missing_of_normal s.cfg interval hline
  have hnew : (s.lm.classify s.cfg .missing interval).line = .rideThrough := by rw [hm]
  have hcount : (s.lm.classify s.cfg .missing interval).missingCount
      = min 255 (s.lm.missingCount + 1) := by rw [hm]
  simp only [State.halfCycle]
  rw [if_neg (by rw [hnew, hline]; decide)]
  simp only [State.postLine, hnew, hcount]
  generalize hu : State.post _ _ _ _ = u
  have hline : u.lm.line = .rideThrough := by rw [← hu]; exact hnew
  have hpower : u.ss.power = .run := by rw [← hu]; exact hrun
  have hkept : u.lineChanged = u := by
    simp only [State.lineChanged, hline]
  have hfree : u.slotServed := by rw [← hu]; exact hslot
  rw [hkept, arbitrate_idle u hfree]
  exact if_neg (by simp [hpower])

/-- The half-cycle that ends qualification: NORMAL, its event, and LOAD (R88, R94, R101). -/
theorem State.halfCycle_of_qualified {s : State} {interval : Nat} {peak : Byte}
    (hpower : s.ss.power = .wake .qualify) (hline : s.lm.line = .qualifying)
    (hq : s.cfg.q ≤ min 400 (s.lm.goodRun + 1)) :
    s.halfCycle .good interval peak
      = ({ s with lm := s.lm.classify s.cfg .good interval }.post .lineNormal none
          (pairArg 0#8 (s.lm.classify s.cfg .good interval).freq.code)).beginLoad := by
  have hnew := (LineMonitor.classify_good_of_qualified interval hline hq).1
  simp only [State.halfCycle]
  rw [if_neg (by rw [hnew, hline]; decide)]
  simp only [State.postLine, hnew, hline]
  generalize hu : State.post _ _ _ _ = u
  have hline : u.lm.line = .normal := by rw [← hu]; exact hnew
  have hstage : u.ss.power = .wake .qualify := by rw [← hu]; exact hpower
  have hload : u.lineChanged = u.beginLoad := by
    simp only [State.lineChanged, hline, hstage]
  have hwake : u.beginLoad.inRun = false := rfl
  rw [hload, State.arbitrate_of_not_inRun hwake]
  rw [← hu]
  exact if_neg (c := Power.wake .load = .holdUp) (by decide)

/-! ### Crossings (R84, R86) -/

/-- A crossing accepted now, before the half-cycle that it ends. -/
def State.crossed (s : State) (now : Nat) : State := { s with time := now, lm := s.lm.accept now }

/-- The peak measure takes the larger sample. -/
theorem toNat_peak (a b : Byte) : (if a.toNat < b.toNat then b else a).toNat = max a.toNat b.toNat := by
  split <;> omega

section
variable {dt : Nat} {v : Byte} {s : State} {last : Nat}

theorem exec_zeroCrossing_of_noise (hw : s.ss.power.working = true)
    (hlast : s.lm.lastCrossing = some last) (h : s.time + dt - last < 7000) :
    exec (.zeroCrossing dt v) s = .next
      { s with
        time := s.time + dt
        lm := { s.lm with peak := if s.lm.peak.toNat < v.toNat then v else s.lm.peak } } := by
  simp only [exec, execZeroCrossing, State.advance, hw, hlast, h, if_true]
  rfl

theorem exec_zeroCrossing_of_first (hw : s.ss.power.working = true)
    (hlast : s.lm.lastCrossing = none) :
    exec (.zeroCrossing dt v) s
      = .next (s.crossed (s.time + dt)) := by
  simp only [exec, execZeroCrossing, State.advance, hw, hlast, if_true, State.crossed]

theorem exec_zeroCrossing_of_missed (hw : s.ss.power.working = true)
    (hlast : s.lm.lastCrossing = some last) (h : 7000 ≤ s.time + dt - last)
    (hmissed : s.lm.missed = true) :
    exec (.zeroCrossing dt v) s
      = .next (s.crossed (s.time + dt)) := by
  have hnoise : ¬ s.time + dt - last < 7000 := by omega
  simp only [exec, execZeroCrossing, State.advance, hw, hlast, hnoise, hmissed, if_true, if_false,
    State.crossed]

/-- An accepted crossing that ends a half-cycle (R86). -/
theorem exec_zeroCrossing_of_accepted (hw : s.ss.power.working = true)
    (hlast : s.lm.lastCrossing = some last) (h : 7000 ≤ s.time + dt - last)
    (hmissed : s.lm.missed = false) {cls : HalfCycle}
    (hcls : classOf s.cfg (s.time + dt - last)
      (if s.lm.peak.toNat < v.toNat then v else s.lm.peak) = cls) :
    exec (.zeroCrossing dt v) s
      = .next ((s.crossed (s.time + dt)).halfCycle cls
          (s.time + dt - last) (if s.lm.peak.toNat < v.toNat then v else s.lm.peak)) := by
  have hnoise : ¬ s.time + dt - last < 7000 := by omega
  subst hcls
  simp only [exec, execZeroCrossing, State.advance, hw, hlast, hnoise, hmissed, if_true, if_false,
    Bool.false_eq_true]
  rfl

end

/-- The silence timer's expiry (R85). -/
theorem exec_silenceTimerExpiry_of_due {dt : Nat} {s : State} (hw : s.ss.power.working = true)
    (h : s.lm.silence ≤ s.time + dt) :
    exec (.silenceTimerExpiry dt) s
      = .next ({ s with
          time := s.time + dt
          lm := { s.lm with silence := s.lm.silence + 10000, missed := true } }.halfCycle .missing 0
            s.lm.peak) := by
  simp only [exec, execSilenceTimerExpiry, State.advance, hw, h, decide_true, Bool.and_self, if_true]

/-- What a MISSING half-cycle leaves in RUN with the line NORMAL (R91). -/
theorem State.halfCycle_missing_keeps (s : State) (now : Nat) {m : LineMonitor} (interval : Nat)
    (peak : Byte) (hrun : s.ss.power = .run) (hline : m.line = .normal) (hslot : s.slotServed) :
    let t := { s with time := now, lm := m }.halfCycle .missing interval peak
    t.lm = { m with
        line := .rideThrough, goodRun := 0, lowCount := 0
        missingCount := min 255 (m.missingCount + 1), intervalSum := 0 }
      ∧ { t with lm := s.lm, ml := s.ml } = { s with time := now }
      ∧ keepsLine s t
      ∧ (s.cfg.classMask = 0 → s.ml.events.length < 16 →
          t.ml.events = s.ml.events ++ [⟨.lineRide, none, half s.bd.clock,
            half (min 255 (m.missingCount + 1))⟩]) := by
  intro t
  have ht : t = _ := State.halfCycle_missing_of_normal (s := { s with time := now, lm := m }) interval
    peak hrun hline hslot
  rw [ht]
  exact ⟨LineMonitor.classify_missing_of_normal _ interval hline, rfl, State.keepsLine_post _ _ _ _,
    State.events_post _ _ _⟩

end Sys2Proof.Machine

open Sys2Proof Sys2Proof.Machine

/-- Settles O25: a crossing is noise, resumes the line or ends a half-cycle, and a half-cycle keeps the
line, drops it to RIDE_THROUGH or ends qualification. -/
theorem crossingsAndSilencesDriveTheMonitor : Obligations.CrossingsAndSilencesDriveTheMonitor := by
  refine ⟨⟨fun dt v s last hw hlast h => exec_zeroCrossing_of_noise hw hlast h,
    fun dt v s hw h => ?_⟩, ⟨fun dt v s last hrun hline hlast hmissed hmin hmax => ?_,
      fun dt v s last hrun hline hlast hmissed hlong hslot => ?_,
      fun dt v s last hpower hline hlast hmissed hmin hmax hpeak hq => ?_⟩,
    fun dt s hrun hline hdue hslot => ?_⟩
  · rcases h with hlast | ⟨hmissed, last, hlast, h⟩
    · exact exec_zeroCrossing_of_first hw hlast
    · exact exec_zeroCrossing_of_missed hw hlast h hmissed
  · have hw : s.ss.power.working = true := by rw [hrun]; rfl
    refine ⟨fun hgood => ?_, fun hlow hcount => ?_⟩
    · rw [← toNat_peak] at hgood
      refine (exec_zeroCrossing_of_accepted hw hlast hmin hmissed
        (classOf_of_good hmax hgood)).trans (congrArg _ ((State.halfCycle_of_normal
          (s := s.crossed (s.time + dt)) hrun hline ?_).trans ?_))
      · simp [LineMonitor.next, LineMonitor.count, State.crossed, LineMonitor.accept, hline]
      · simp [LineMonitor.count, State.crossed, LineMonitor.accept, hline, hmissed]
    · rw [← toNat_peak] at hlow
      refine (exec_zeroCrossing_of_accepted hw hlast hmin hmissed
        (classOf_of_low hmax hlow)).trans (congrArg _ ((State.halfCycle_of_normal
          (s := s.crossed (s.time + dt)) hrun hline ?_).trans ?_))
      · have hfew : ¬ s.cfg.nLow ≤ min 255 (s.lm.lowCount + 1) := by omega
        simp only [LineMonitor.next, LineMonitor.count, State.crossed, LineMonitor.accept, hline,
          if_neg hfew]
      · simp [LineMonitor.count, State.crossed, LineMonitor.accept, hmissed]
  · have hw : s.ss.power.working = true := by rw [hrun]; rfl
    obtain ⟨hlm, hkept⟩ := State.halfCycle_missing_keeps s (s.time + dt) (m := s.lm.accept (s.time + dt))
      (s.time + dt - last) (if s.lm.peak.toNat < v.toNat then v else s.lm.peak) hrun hline hslot
    refine ⟨_, exec_zeroCrossing_of_accepted hw hlast (by omega) hmissed (classOf_of_long hlong),
      hlm.trans ?_, hkept⟩
    simp [LineMonitor.accept, hmissed]
  · have hw : s.ss.power.working = true := by rw [hpower]; rfl
    have hgood : s.cfg.lowThreshold ≤ (if s.lm.peak.toNat < v.toNat then v else s.lm.peak).toNat := by
      rw [toNat_peak]
      omega
    have hfound := LineMonitor.classify_good_of_qualified (m := s.lm.accept (s.time + dt))
      (c := s.cfg) (s.time + dt - last) hline hq
    refine ⟨_, (exec_zeroCrossing_of_accepted hw hlast hmin hmissed
      (classOf_of_good hmax hgood)).trans (congrArg _ (State.halfCycle_of_qualified (s := s.crossed (s.time + dt))
        hpower hline hq)),
      hfound.1, hfound.2, rfl, rfl, State.events_post _ _ _, rfl, rfl, rfl, rfl, rfl⟩
  · have hw : s.ss.power.working = true := by rw [hrun]; rfl
    exact ⟨_, exec_silenceTimerExpiry_of_due hw hdue, State.halfCycle_missing_keeps s _
      (m := { s.lm with silence := s.lm.silence + 10000, missed := true }) _ _ hrun hline hslot⟩

/-- Settles O26, by the line state. -/
theorem halfCyclesMoveTheLineState : Obligations.HalfCyclesMoveTheLineState := by
  intro m c interval
  refine ⟨⟨rfl, rfl, rfl, rfl⟩, ⟨rfl, rfl, rfl, rfl⟩, ⟨rfl, rfl, rfl, rfl⟩, ?_⟩
  cases hline : m.line <;>
    simp [LineMonitor.classify, LineMonitor.next, LineMonitor.count, LineMonitor.found, hline]
end

section
/-! Loss of the main supply, RST and the Backup Domain (R99, R105 to R110, R113, R142). -/

namespace Sys2Proof.Machine

/-! ### Outputs outside RUN -/

theorem State.heatPermit_of_not_run {s : State} (h : s.ss.power ≠ .run) (p : PocketId) :
    s.heatPermit p = false := by
  have hrun : s.inRun = false := by simpa [State.inRun] using h
  simp [State.heatPermit, hrun]

theorem State.attn_of_not_working {s : State} (h : s.ss.power.working = false) : s.attn = false := by
  simp [State.attn, h]

/-! ### The acknowledged bytes of an attempt (R113, R121) -/

/-- What a byte of the memory reads as after a write. -/
theorem Memory.read_writeBytes {m : List Host.Cell} (hm : Memory.wf m = true) {a : Nat}
    (bs : List Byte) (hs : a + bs.length ≤ Memory.size) (a' : Nat) :
    Memory.read (Memory.writeBytes m a bs) a'
      = if a ≤ a' ∧ a' < a + bs.length then bs.getD (a' - a) 0#8 else Memory.read m a' := by
  split
  · next h =>
    obtain ⟨i, rfl⟩ := Nat.exists_eq_add_of_le h.1
    have hi : i < bs.length := by omega
    rw [Memory.read_writeBytes_inside hm bs hs hi, Nat.add_sub_cancel_left]
    exact (List.getD_eq_getElem bs 0#8 hi).symm
  · exact Memory.read_writeBytes_outside hm bs hs (by omega)

/-- The acknowledged bytes of an attempt that was cut are the first ones of its bytes. -/
theorem take_dropLast {bs : List Byte} {acked : Nat} (h : acked < bs.length) :
    bs.dropLast.take acked = bs.take acked := by
  rw [List.dropLast_eq_take, List.take_take, min_eq_left (by omega)]

/-- What the memory reads as after the acknowledged bytes of a cut attempt were stored. -/
theorem Memory.read_writeBytes_acked {m : List Host.Cell} (hm : Memory.wf m = true) {a acked : Nat}
    {bs : List Byte} (hs : a + bs.length ≤ Memory.size) (h : acked < bs.length) (a' : Nat) :
    Memory.read (Memory.writeBytes m a (bs.dropLast.take acked)) a'
      = if a ≤ a' ∧ a' < a + acked then bs.getD (a' - a) 0#8 else Memory.read m a' := by
  have hlen : (bs.take acked).length = acked := by rw [List.length_take]; omega
  rw [take_dropLast h, Memory.read_writeBytes hm _ (by omega), hlen]
  split
  · next hin => rw [List.getD_eq_getElem?_getD, List.getElem?_take_of_lt (by omega),
      ← List.getD_eq_getElem?_getD]
  · rfl

/-- A write in flight stays inside the memory (R113). -/
theorem State.fits_of_journalSafe {s : State} (h : s.journalSafe = true) {job : Job} {n : Nat}
    {ph : EnginePhase} (hbusy : s.jc.engine = .busy job n ph) {a : Nat} {bs : List Byte}
    (hout : job.bytesOut = some (a, bs)) :
    Memory.wf s.journal = true ∧ a + bs.length ≤ Memory.size := by
  obtain ⟨hwf, -, hfits⟩ := (journalSafe_iff s).mp h
  have hjob := hfits job n ph hbusy
  simp only [Job.fits, hout, decide_eq_true_eq] at hjob
  exact ⟨hwf, hjob⟩

/-- With nothing in transfer that writes, nothing is stored. -/
theorem State.storeAcked_of_quiet {s : State} (acked : Nat)
    (h : s.jc.engine = .free ∨ (∃ p i n ph, s.jc.engine = .busy (.read p i) n ph)
      ∨ (∃ p i n ph, s.jc.engine = .busy (.slotRead p i) n ph)
      ∨ (∃ n ph, s.jc.engine = .busy .configRead n ph)
      ∨ (∃ job n τ, s.jc.engine = .busy job n (.retryWait τ))
      ∨ (∃ job n, s.jc.engine = .busy job n .recovery)) :
    s.storeAcked acked = s := by
  rcases h with h | ⟨p, i, n, ph, h⟩ | ⟨p, i, n, ph, h⟩ | ⟨n, ph, h⟩ | ⟨job, n, τ, h⟩ | ⟨job, n, h⟩
  · simp [State.storeAcked, h]
  · exact State.storeAcked_read acked h rfl
  · exact State.storeAcked_read acked h rfl
  · exact State.storeAcked_read acked h rfl
  · simp [State.storeAcked, h]
  · simp [State.storeAcked, h]

/-- What a cut leaves of the memory: the acknowledged bytes of a pocket's write. -/
theorem State.storeAcked_checkpoint_reads {s : State} (hs : s.journalSafe = true) {p : PocketId}
    {slot : Fin 124} {seq n acked : Nat} {image : List Byte}
    (h : s.jc.engine = .busy (.checkpoint p slot seq image) n .transfer) (hcut : acked < image.length) :
    (s.storeAcked acked).storeCut = s.storeCut
      ∧ ∀ a, Memory.read (s.storeAcked acked).journal a =
        if slotAddress p slot ≤ a ∧ a < slotAddress p slot + acked then
          image.getD (a - slotAddress p slot) 0#8
        else Memory.read s.journal a := by
  obtain ⟨hwf, hfits⟩ := State.fits_of_journalSafe hs h rfl
  rw [State.storeAcked_checkpoint acked h]
  exact ⟨rfl, Memory.read_writeBytes_acked hwf hfits hcut⟩

/-- What a cut leaves of the memory: the acknowledged bytes of a configuration block, and the mark. -/
theorem State.storeAcked_store_reads {s : State} (hs : s.journalSafe = true) {n acked : Nat}
    {block : List Byte} (h : s.jc.engine = .busy (.store block) n .transfer)
    (hcut : acked < block.length) :
    (s.storeAcked acked).storeCut = (s.storeCut || decide (0 < acked))
      ∧ ∀ a, Memory.read (s.storeAcked acked).journal a =
        if a < acked then block.getD a 0#8 else Memory.read s.journal a := by
  obtain ⟨hwf, hfits⟩ := State.fits_of_journalSafe hs h rfl
  rw [State.storeAcked_store acked h]
  refine ⟨?_, fun a => ?_⟩
  · cases acked <;> simp
  · simpa using Memory.read_writeBytes_acked hwf hfits hcut a

/-! ### Below dark (R99, R105) -/

/-- The state once a VHU sample was compared with the dark threshold. -/
def State.sampledDark (s : State) (v : Byte) : State :=
  { s.noteVhu v with ss := { (s.noteVhu v).ss with atDark := s.cfg.darkCode ≤ v.toNat } }

/-- The state that DARK is entered from: a transfer in flight was cut, but in RESET. -/
def State.cutAt (s : State) (acked : Nat) : State :=
  if s.ss.power.working then s.storeAcked acked else s

theorem State.cutAt_frame (s : State) (acked : Nat) :
    s.cutAt acked = { s with
      journal := (s.cutAt acked).journal, storeCut := (s.cutAt acked).storeCut } := by
  unfold State.cutAt
  split
  · exact State.storeAcked_frame s acked
  · rfl

theorem State.cutAt_of_working {s : State} (acked : Nat) (h : s.ss.power.working = true) :
    s.cutAt acked = s.storeAcked acked :=
  if_pos h

/-- Nothing is cut with nothing in transfer that writes, and in RESET. -/
theorem State.cutAt_of_quiet {s : State} (acked : Nat)
    (h : s.jc.engine = .free ∨ s.ss.power = .reset
      ∨ (∃ p i n ph, s.jc.engine = .busy (.read p i) n ph)
      ∨ (∃ p i n ph, s.jc.engine = .busy (.slotRead p i) n ph)
      ∨ (∃ n ph, s.jc.engine = .busy .configRead n ph)
      ∨ (∃ job n τ, s.jc.engine = .busy job n (.retryWait τ))
      ∨ (∃ job n, s.jc.engine = .busy job n .recovery)) :
    s.cutAt acked = s := by
  unfold State.cutAt
  split
  · next hworking =>
    refine State.storeAcked_of_quiet acked (h.imp_right fun h => h.resolve_left fun hreset => ?_)
    rw [hreset] at hworking
    cases hworking
  · rfl

/-- VHU falls below dark outside RUN and DARK. -/
theorem exec_vhuBelowDark_of_falls {dt acked : Nat} {v : Byte} {s : State}
    (h : s.ss.power = .holdUp ∨ s.ss.power = .reset ∨ ∃ st, s.ss.power = .wake st)
    (hat : s.ss.atDark = true) (hv : v.toNat < s.cfg.darkCode) :
    exec (.vhuBelowDark dt v acked) s
      = .next ((((s.advance dt).sampledDark v).cutAt acked).enterDark) := by
  let u := (s.advance dt).sampledDark v
  have hrun : u.inRun = false := by
    change (s.ss.power == .run) = false
    rcases h with h | h | ⟨st, h⟩ <;> rw [h] <;> rfl
  have hfell : (s.ss.atDark && decide (v.toNat < s.cfg.darkCode)) = true := by simp [hat, hv]
  change Host.Outcome.next ((if u.inRun then u.fallBelowFloor v else u).darkBy
    (s.ss.atDark && decide (v.toNat < s.cfg.darkCode)) acked) = _
  rw [hrun, hfell]
  refine congrArg Host.Outcome.next ?_
  change u.darkBy true acked = (u.cutAt acked).enterDark
  have hpower : u.ss.power = s.ss.power := rfl
  rcases h with h | h | ⟨st, h⟩ <;> simp [State.darkBy, State.cutAt, hpower, h, Power.working]

/-- RST asserted outside DARK. -/
theorem exec_rstAssert_of_low {dt acked : Nat} {s : State} (hrst : s.pins.rst = false)
    (h : s.ss.power ≠ .dark) :
    exec (.rstAssert dt acked) s
      = .next (({ s.advance dt with pins := { s.pins with rst := true } }.cutAt acked).halted) := by
  let u : State := { s.advance dt with pins := { s.pins with rst := true } }
  change Host.Outcome.next (if s.pins.rst = true then s.advance dt
    else if u.ss.power = .dark then u else (u.cutAt acked).halted) = _
  rw [if_neg (by simp [hrst])]
  exact congrArg Host.Outcome.next (if_neg h)

/-- A loss acts on the bus for a read of the load in transfer alone (R142). -/
theorem State.onLoss_of_working {s : State} (h : s.ss.power.working = true) :
    s.onLoss = s.jc.engine.onLoss :=
  if_pos h

end Sys2Proof.Machine

open Sys2Proof Sys2Proof.Machine

/-- Settles O28: DARK is entered from the state cut at the acknowledged bytes. -/
theorem fallBelowDarkLosesTheWorkingDomain : Obligations.FallBelowDarkLosesTheWorkingDomain := by
  intro dt v acked s hpower hat hv hsafe
  let u := (s.advance dt).sampledDark v
  have hu : u.journalSafe = true := hsafe
  have hcut := u.cutAt_frame acked
  refine ⟨_, exec_vhuBelowDark_of_falls hpower hat hv, rfl, ?_⟩
  change (u.cutAt acked).ss.vhu = v ∧ (u.cutAt acked).time = _ ∧ (u.cutAt acked).pins = _
    ∧ (u.cutAt acked).bd = _ ∧ (u.cutAt acked).pending = _ ∧ _
  have hheld : s.ss.power = .holdUp → u.cutAt acked = u.storeAcked acked := fun h =>
    State.cutAt_of_working acked (by change s.ss.power.working = true; rw [h]; rfl)
  refine ⟨by rw [hcut]; rfl, by rw [hcut]; rfl, by rw [hcut]; rfl, by rw [hcut]; rfl,
    by rw [hcut]; rfl, rfl, rfl, rfl, rfl, rfl, rfl, State.attn_of_not_working rfl,
    fun p => ⟨?_, ?_, State.heatPermit_of_not_run (by simp [State.enterDark]) p⟩, fun h => ?_,
    State.onBus_off rfl, fun p slot seq image n h hbusy hacked => ?_,
    fun p slot seq image n hbusy => ?_, fun block n h hbusy hacked => ?_, fun h => ?_⟩
  · cases p <;> rfl
  · cases p <;> rfl
  · have hworking : s.ss.power.working = true := by
      rcases hpower with h' | h' | ⟨st, h'⟩
      · rw [h']; rfl
      · exact absurd h' h
      · rw [h']; rfl
    rw [State.onLoss_of_working hworking]
    rcases s.jc.engine with _ | ⟨job, n, ph⟩
    · rfl
    · cases job <;> cases ph <;> rfl
  · rw [hheld h]
    exact (State.storeAcked_checkpoint_reads hu hbusy hacked).2
  · by_cases h : u.ss.power.working = true
    · change (u.cutAt acked).storeCut = _
      rw [State.cutAt_of_working acked h, State.storeAcked_checkpoint (s := u) acked hbusy]
      rfl
    · change (u.cutAt acked).storeCut = _
      rw [State.cutAt, if_neg h]
      rfl
  · rw [hheld h]
    exact State.storeAcked_store_reads hu hbusy hacked
  · change (u.cutAt acked).journal = _ ∧ (u.cutAt acked).storeCut = _
    rw [State.cutAt_of_quiet (s := u) acked h]
    exact ⟨rfl, rfl⟩

/-- Settles O29: RESET is entered from the state cut at the acknowledged bytes. -/
theorem rstHaltsThePart : Obligations.RstHaltsThePart := by
  intro dt acked s hrst hsafe
  refine ⟨fun hdark => ?_, fun hlit => ?_⟩
  · simp only [exec, execRstAssert, State.advance, hrst, hdark, Bool.false_eq_true, if_false, if_true]
  · let u : State := { s.advance dt with pins := { s.pins with rst := true } }
    have hu : u.journalSafe = true := hsafe
    have hcut := u.cutAt_frame acked
    refine ⟨_, exec_rstAssert_of_low hrst hlit, by rw [hcut]; rfl, by rw [hcut]; rfl, fun p => ?_,
      fun p => ?_, by rw [hcut]; rfl, by rw [hcut]; rfl, by rw [hcut]; rfl,
      State.attn_of_not_working rfl,
      fun p => State.heatPermit_of_not_run (by simp [State.halted]) p, by rw [hcut]; rfl,
      State.onBus_off rfl, State.onTxd_off rfl, fun h => ?_,
      fun block n hworking hbusy hacked => ?_, fun p slot seq image n hworking hbusy hacked => ?_⟩
    · rw [hcut]
      cases p <;> rfl
    · rw [hcut]
      cases p <;> rfl
    · change (u.cutAt acked).journal = _ ∧ (u.cutAt acked).storeCut = _
      rw [State.cutAt_of_quiet (s := u) acked h]
      exact ⟨rfl, rfl⟩
    · rw [State.cutAt_of_working (s := u) acked hworking]
      exact State.storeAcked_store_reads hu hbusy hacked
    · rw [State.cutAt_of_working (s := u) acked hworking]
      exact State.storeAcked_checkpoint_reads hu hbusy hacked

/-- Settles O31: the Backup Domain's commands, case by case of their tests. -/
theorem theBackupDomainKeepsTimeAndDoors : Obligations.TheBackupDomainKeepsTimeAndDoors := by
  refine ⟨fun dt s hvalid => ?_, fun dt p s since hvalid => ⟨fun hsettling hdue => ?_,
    fun hsettling hcand hdue => ?_⟩, fun dt s hdark => ?_⟩
  · simp only [exec, execBackupClockSecond, State.advance, hvalid, if_true]
    rfl
  · simp only [exec, execDoorWatchFilterExpiry, DoorWatch.expire, State.advance, millis, hvalid,
      hsettling, hdue, if_true]
  · simp only [exec, execDoorWatchFilterExpiry, DoorWatch.expire, State.advance, millis, hvalid,
      hsettling, hcand, hdue, if_true, Bool.and_eq_true]
  · refine ⟨_, congrArg Host.Outcome.next (if_pos hdark), rfl, rfl, rfl, fun p => ?_, rfl⟩
    cases p <;> rfl
end

section
/-! Contacts and tachometer pulses (R32 to R37), and HEAT_PERMIT (R63). -/

namespace Sys2Proof.Machine

/-! ### What an act and the grant that may follow leave of the link -/

/-- An act on a pocket, and the grant that may follow it, leave the line side of the link. -/
theorem ActsOn.keepsLine {p : PocketId} {s t : State} (h : ActsOn p s t) (hq : KeepsQueues s t) :
    keepsLine s t.arbitrate := by
  obtain ⟨q, hgrant⟩ := t.arbitrate_acts
  exact ⟨hgrant.rx.trans h.rx, hgrant.tx.trans h.tx, hgrant.orphan.trans h.orphan, hq.arbitrate.owed⟩

/-- What a queue holds after a post, it held before or was just given (R166). -/
theorem Link.mem_of_mem_post {l : Link} {m : Nat} {e x : EventEntry} (h : x ∈ (l.post m e).events) :
    x ∈ l.events ∨ x = e := by
  unfold Link.post at h
  split at h
  · exact .inl h
  · split at h
    · simpa using h
    · exact .inl h

/-- A post of another kind brings no INPUT_CHANGED. -/
theorem Link.old_of_post {l : Link} {m : Nat} {e x : EventEntry} (h : x ∈ (l.post m e).events)
    (hx : x.kind = .inputChanged) (he : e.kind ≠ .inputChanged) : x ∈ l.events :=
  (Link.mem_of_mem_post h).resolve_right fun heq => he (heq ▸ hx)

/-- A grant posts no INPUT_CHANGED. -/
theorem State.old_of_arbitrate {s : State} {x : EventEntry} (h : x ∈ s.arbitrate.ml.events)
    (hx : x.kind = .inputChanged) : x ∈ s.ml.events := by
  unfold State.arbitrate at h
  split at h
  · unfold State.takeGrant at h
    dsimp only at h
    split at h
    · exact h
    · exact Link.old_of_post h hx (by simp)
    · split at h <;> exact h
    · exact h
  · exact h

/-- Flame proof posts no INPUT_CHANGED. -/
theorem State.old_of_flameSeen {s : State} {p : PocketId} {x : EventEntry}
    (h : x ∈ (s.flameSeen p).ml.events) (hx : x.kind = .inputChanged) : x ∈ s.ml.events := by
  unfold State.flameSeen at h
  dsimp only at h
  split at h
  · exact Link.old_of_post (Link.old_of_post h hx (by simp)) hx (by simp)
  · exact h

/-! ### Contacts (R32 to R34) -/

theorem State.inRun_of_not_run {s : State} (h : s.ss.power ≠ .run) : s.inRun = false :=
  beq_false_of_ne h

/-- The state with a contact at a filtered level, before what the change does elsewhere. -/
def State.filtered (s : State) (dt : Nat) (p : PocketId) (i : ContactInput) (level : Bool) : State :=
  (s.advance dt).setSense p ((s.sense p).setContact i ⟨level, none, none⟩)

@[simp] theorem State.pocket_filtered (s : State) (dt : Nat) (p q : PocketId) (i : ContactInput)
    (level : Bool) : (s.filtered dt p i level).pocket q = s.pocket q := rfl

section
variable {dt since : Nat} {p : PocketId} {i : ContactInput} {s : State} {level : Bool}

theorem exec_contactFilterExpiry_of_due (hw : s.ss.power.working = true)
    (hsettled : ((s.sense p).contact i).settling = none)
    (hcand : ((s.sense p).contact i).cand = some since)
    (hdue : since + s.cfg.filter p i * 1000 ≤ s.time + dt)
    (hlevel : level = !((s.sense p).contact i).level) :
    exec (.contactFilterExpiry dt p i) s
      = .next (if (s.filtered dt p i level).inRun then
          (((s.filtered dt p i level).postInput p i level).inputChanged p i level).arbitrate
        else s.filtered dt p i level) := by
  subst hlevel
  have hheld : due ((((s.sense p).contact i).cand).map (· + millis (s.cfg.filter p i)))
      (s.time + dt) = true := by
    simp [hcand, due, millis, hdue]
  change Host.Outcome.next (if (s.ss.power.working && ((s.sense p).contact i).settling.isNone
    && due ((((s.sense p).contact i).cand).map (· + millis (s.cfg.filter p i))) (s.time + dt)) = true
    then _ else _) = _
  rw [hw, hsettled, hheld]
  rfl

/-- A filtered change in RUN (R32, R34). -/
theorem exec_contactFilterExpiry_of_run (hrun : s.ss.power = .run)
    (hsettled : ((s.sense p).contact i).settling = none)
    (hcand : ((s.sense p).contact i).cand = some since)
    (hdue : since + s.cfg.filter p i * 1000 ≤ s.time + dt)
    (hlevel : level = !((s.sense p).contact i).level) :
    exec (.contactFilterExpiry dt p i) s
      = .next (((s.filtered dt p i level).postInput p i level).inputChanged p i level).arbitrate := by
  have hinRun : (s.filtered dt p i level).inRun = true := by
    change (s.ss.power == .run) = true
    rw [hrun]
    rfl
  rw [exec_contactFilterExpiry_of_due (by rw [hrun]; rfl) hsettled hcand hdue hlevel, if_pos hinRun]

/-- A filtered change outside RUN (R34). -/
theorem exec_contactFilterExpiry_of_not_run (hw : s.ss.power.working = true)
    (hrun : s.ss.power ≠ .run) (hsettled : ((s.sense p).contact i).settling = none)
    (hcand : ((s.sense p).contact i).cand = some since)
    (hdue : since + s.cfg.filter p i * 1000 ≤ s.time + dt)
    (hlevel : level = !((s.sense p).contact i).level) :
    exec (.contactFilterExpiry dt p i) s = .next (s.filtered dt p i level) := by
  have hinRun : (s.filtered dt p i level).inRun = false := State.inRun_of_not_run hrun
  rw [exec_contactFilterExpiry_of_due hw hsettled hcand hdue hlevel, hinRun]
  rfl

end

theorem exec_settlingTimerExpiry_of_due {dt since : Nat} {p : PocketId} {i : ContactInput} {s : State}
    (hw : s.ss.power.working = true) (hsettling : ((s.sense p).contact i).settling = some since)
    (hdue : since + s.cfg.filter p i * 1000 ≤ s.time + dt) :
    exec (.settlingTimerExpiry dt p i) s
      = .next (((s.filtered dt p i ((s.pins.contacts.get p).level i)).checkStartWait p).checkHeatWait
          p).arbitrate := by
  have hpassed : due ((((s.sense p).contact i).settling).map (· + millis (s.cfg.filter p i)))
      (s.time + dt) = true := by
    simp [hsettling, due, millis, hdue]
  change Host.Outcome.next (if (s.ss.power.working
    && due ((((s.sense p).contact i).settling).map (· + millis (s.cfg.filter p i))) (s.time + dt)) = true
    then _ else _) = _
  rw [hw, hpassed]
  rfl

theorem State.checkStartWait_of_other {s : State} {p : PocketId}
    (h : s.inRun = false ∨ (s.pocket p).phase ≠ .startWait) : s.checkStartWait p = s := by
  refine if_neg fun hcheck => ?_
  rcases h with h | h
  · simp [h] at hcheck
  · exact h hcheck.2.1

theorem State.checkHeatWait_of_other {s : State} {p : PocketId}
    (h : s.inRun = false ∨ (s.pocket p).phase ≠ .heatWait) : s.checkHeatWait p = s := by
  refine if_neg fun hcheck => ?_
  rcases h with h | h
  · simp [h] at hcheck
  · exact h hcheck.2.1

/-- HEAT_FB does nothing outside a gas trial (R69). -/
theorem State.inputChanged_heatFb_of_idle {s : State} {p : PocketId} {level : Bool}
    (h : level = false ∨ (s.pocket p).phase ≠ .ignition ∨ (s.pocket p).timers.trial = none) :
    s.inputChanged p .heatFb level = s := by
  cases level with
  | false => rfl
  | true =>
    refine if_neg fun htrial => ?_
    rcases h with h | h | h
    · cases h
    · exact h htrial.1
    · simp [h] at htrial

/-- The event of an input's change, where the queue has room (R34). -/
theorem State.mem_postInput {s : State} (p : PocketId) {i : ContactInput} (level : Bool)
    (hi : i ≠ .heatFb) (hmask : s.cfg.classMask = 0) (hroom : s.ml.events.length < 16) :
    (⟨.inputChanged, some p, half s.bd.clock, pairArg (inputCode i) (boolByte level)⟩ : EventEntry)
      ∈ (s.postInput p i level).ml.events := by
  have hposted := State.events_post .inputChanged (some p) (pairArg (inputCode i) (boolByte level))
    hmask hroom
  cases i with
  | heatFb => exact absurd rfl hi
  | door | airflow | hilimit =>
    change _ ∈ (s.post .inputChanged (some p) _).ml.events
    rw [hposted]
    simp

/-! ### Raw changes (R32, R110) -/

/-- What the Input Conditioner holds after a raw change (R32). -/
def State.contactRaw (s : State) (p : PocketId) (i : ContactInput) (level : Bool) (now : Nat) :
    Pair Sensing :=
  if s.ss.power.working then
    s.ic.set p ((s.sense p).setContact i (((s.sense p).contact i).raw level now))
  else s.ic

/-- The Backup Domain after a raw change (R110). -/
def State.watchRaw (s : State) (p : PocketId) (i : ContactInput) (level : Bool) (now : Nat) : Backup :=
  if i = .door ∧ s.bd.valid = true then
    { s.bd with watch := s.bd.watch.set p ((s.bd.watch.get p).raw level now) }
  else s.bd

theorem exec_rawContactChange_of_new {dt : Nat} {p : PocketId} {i : ContactInput} {level : Bool}
    {s : State} (hnew : (s.pins.contacts.get p).level i ≠ level) :
    exec (.rawContactChange dt p i level) s
      = .next { s with
          time := s.time + dt
          pins := { s.pins with
            contacts := s.pins.contacts.set p ((s.pins.contacts.get p).setLevel i level) }
          ic := s.contactRaw p i level (s.time + dt)
          bd := s.watchRaw p i level (s.time + dt) } := by
  refine congrArg Host.Outcome.next ((if_neg hnew).trans ?_)
  by_cases hw : s.ss.power.working = true <;> by_cases hd : i = .door ∧ s.bd.valid = true <;>
    simp [State.contactRaw, State.watchRaw, State.setPin, State.setSense, State.sense, State.advance,
      hw, hd]

theorem Power.working_iff (p : Power) : p.working = true ↔ p ≠ .dark ∧ p ≠ .reset := by
  cases p <;> simp [Power.working]

/-- A settling input has no candidate (R32). -/
theorem State.contactRaw_eq (s : State) (p : PocketId) (i : ContactInput) (level : Bool) (now : Nat) :
    s.contactRaw p i level now =
      if s.ss.power ≠ .dark ∧ s.ss.power ≠ .reset ∧ ((s.sense p).contact i).settling = none then
        s.ic.set p ((s.sense p).setContact i { (s.sense p).contact i with
          cand := if level = ((s.sense p).contact i).level then none else some now })
      else s.ic := by
  have hkept : s.ic.set p ((s.sense p).setContact i ((s.sense p).contact i)) = s.ic := by
    cases p <;> cases i <;> rfl
  simp only [State.contactRaw, Power.working_iff, ← and_assoc]
  by_cases hw : s.ss.power ≠ .dark ∧ s.ss.power ≠ .reset
  · cases hsettling : ((s.sense p).contact i).settling with
    | none => simp [hw, Contact.raw, hsettling]
    | some since => simp [hw, Contact.raw, hsettling, hkept]
  · simp [hw]

/-- A settling watch has no candidate (R110). -/
theorem State.watchRaw_eq (s : State) (p : PocketId) (i : ContactInput) (level : Bool) (now : Nat) :
    s.watchRaw p i level now =
      if i = .door ∧ s.bd.valid = true ∧ (s.bd.watch.get p).settling = none then
        { s.bd with watch := s.bd.watch.set p { s.bd.watch.get p with
          cand := if level = (s.bd.watch.get p).closed then none else some now } }
      else s.bd := by
  have hkept : s.bd.watch.set p (s.bd.watch.get p) = s.bd.watch := by
    cases p <;> rfl
  simp only [State.watchRaw, ← and_assoc]
  by_cases hd : i = .door ∧ s.bd.valid = true
  · cases hsettling : (s.bd.watch.get p).settling with
    | none => simp [hd, DoorWatch.raw, hsettling]
    | some since =>
      rw [if_pos hd, if_neg (by simp), DoorWatch.raw, hsettling]
      simp only [hkept]
  · simp [hd]

/-! ### Tachometer (R35 to R37) -/

theorem exec_tachPulseAccepted_of_due {dt since : Nat} {p : PocketId} {s u : State}
    (hw : s.ss.power.working = true) (hpulse : (s.sense p).tachPulse = some ⟨since, false⟩)
    (hdue : since + s.cfg.tachFilter p * 1000 ≤ s.time + dt)
    (hu : u = (s.advance dt).setSense p ((s.sense p).pulse (s.cfg.ppr p) (s.time + dt))) :
    exec (.tachPulseAccepted dt p) s = .next (if u.inRun then (u.pulseTaken p).arbitrate else u) := by
  subst hu
  have hpulse' : ((s.advance dt).sense p).tachPulse = some ⟨since, false⟩ := hpulse
  have hw' : (s.advance dt).ss.power.working = true := hw
  have hready : since + millis ((s.advance dt).cfg.tachFilter p) ≤ (s.advance dt).time := hdue
  simp only [exec, execTachPulseAccepted, hpulse', hw', hready, Bool.not_false, decide_true,
    Bool.and_true, if_true]
  rfl

theorem exec_tachPulseAccepted_of_early {dt : Nat} {p : PocketId} {s : State}
    (h : ∀ t, (s.sense p).tachPulse = some t →
      t.accepted = true ∨ s.time + dt < t.since + s.cfg.tachFilter p * 1000) :
    exec (.tachPulseAccepted dt p) s = .next { s with time := s.time + dt } := by
  refine congrArg Host.Outcome.next (if_neg ?_)
  rw [Bool.and_eq_true]
  rintro ⟨-, hready⟩
  have hpulse : ((s.advance dt).sense p).tachPulse = (s.sense p).tachPulse := rfl
  rw [hpulse] at hready
  cases htach : (s.sense p).tachPulse with
  | none => rw [htach] at hready; cases hready
  | some t =>
    rw [htach] at hready
    simp only [Bool.and_eq_true, Bool.not_eq_true', decide_eq_true_eq] at hready
    obtain ⟨hfresh, hheld⟩ := hready
    rcases h t htach with hdone | hearly
    · rw [hdone] at hfresh
      cases hfresh
    · exact absurd hheld (Nat.not_le.mpr hearly)

theorem State.pulseTaken_of_other {s : State} {p : PocketId} (hspin : (s.pocket p).phase ≠ .spinup)
    (hburst : (s.pocket p).phase ≠ .acBurst) : s.pulseTaken p = s := by
  unfold State.pulseTaken
  dsimp only
  split
  · next h => exact absurd h hspin
  · next h => exact absurd h hburst
  · rfl

end Sys2Proof.Machine

open Sys2Proof Sys2Proof.Machine

/-- Settles O41: the permit's tests, one by one. -/
theorem heatPermitHoldsExactlyUnderItsConditions : Obligations.HeatPermitHoldsExactlyUnderItsConditions := by
  intro p s
  have hline : s.lm.line.heats = true ↔ s.lm.line = .normal ∨ s.lm.line = .rideThrough := by
    cases s.lm.line <;> simp [LineState.heats]
  have hheld : s.ssa.holds p .heatStart = true
      ↔ ∃ g, s.ssa.slot = some g ∧ g.request = ⟨p, .heatStart⟩ := by
    unfold Arbiter.holds
    cases s.ssa.slot <;> simp
  simp only [State.heatPermit, State.interlock, State.inRun, Sensing.turning, Bool.and_eq_true,
    Bool.or_eq_true, beq_iff_eq, hline, hheld]
  tauto

/-- Settles O33. -/
theorem contactsFilterAndSettle : Obligations.ContactsFilterAndSettle := by
  refine ⟨fun dt p i since s hw hsettled hcand hdue => ?_, fun dt p i since s hw hsettling hdue => ?_⟩
  · intro level ic
    have hlevel : level = !((s.sense p).contact i).level := rfl
    clear_value level
    refine ⟨fun hrun => exec_contactFilterExpiry_of_not_run hw hrun hsettled hcand hdue hlevel,
      fun hrun => ?_, fun hrun hi hslot hquiet => ?_⟩
    · obtain ⟨u, hu⟩ : ∃ u, u = s.filtered dt p i level := ⟨_, rfl⟩
      have hacts : ActsOn p u ((u.postInput p i level).inputChanged p i level) :=
        ((ActsOn.refl p u).postInput i level).inputChanged i level
      have hqueues : KeepsQueues u ((u.postInput p i level).inputChanged p i level) :=
        ((KeepsQueues.refl u).postInput i level).inputChanged i level
      have hline := hacts.keepsLine hqueues
      have hkept := ((KeepsQueues.refl (u.postInput p i level)).inputChanged (p := p) i level).arbitrate
      obtain ⟨hworld, hother, hplans⟩ := hacts.frame
      obtain ⟨q, hgrant⟩ := ((u.postInput p i level).inputChanged p i level).arbitrate_acts
      have hic := hgrant.ic.trans hacts.ic
      subst hu
      refine ⟨_, exec_contactFilterExpiry_of_run hrun hsettled hcand hdue hlevel, hic, hworld, hother,
        hline, hplans, fun hi hmask hroom => ?_, fun hi e he hkind => ?_⟩
      · rw [← boolByte_eq_bit]
        exact hkept.events _ (State.mem_postInput (s := s.filtered dt p i level) p level hi hmask hroom)
      · subst hi
        have hold := State.old_of_arbitrate he hkind
        cases level with
        | false => exact hold
        | true => exact State.old_of_flameSeen (s := s.filtered dt p .heatFb true) hold hkind
    · subst hi
      have hsame : (s.filtered dt p .heatFb level).inputChanged p .heatFb level
          = s.filtered dt p .heatFb level := State.inputChanged_heatFb_of_idle hquiet
      rw [exec_contactFilterExpiry_of_run hrun hsettled hcand hdue hlevel]
      change Host.Outcome.next ((s.filtered dt p .heatFb level).inputChanged p .heatFb level).arbitrate
        = _
      rw [hsame, arbitrate_idle (s.filtered dt p .heatFb level) hslot]
      rfl
  · intro ic
    obtain ⟨u, hu⟩ : ∃ u, u = s.filtered dt p i ((s.pins.contacts.get p).level i) := ⟨_, rfl⟩
    have hexec := exec_settlingTimerExpiry_of_due hw hsettling hdue
    rw [← hu] at hexec
    have hacts : ActsOn p u ((u.checkStartWait p).checkHeatWait p) :=
      (ActsOn.refl p u).checkStartWait.checkHeatWait
    refine ⟨fun h => ?_, _, hexec, ?_⟩
    · have hstart : u.checkStartWait p = u := State.checkStartWait_of_other (by
        rw [hu]
        exact h.imp (State.inRun_of_not_run (s := s.filtered dt p i _)) fun h => h.2.1)
      have hheat : u.checkHeatWait p = u := State.checkHeatWait_of_other (by
        rw [hu]
        exact h.imp (State.inRun_of_not_run (s := s.filtered dt p i _)) fun h => h.2.2)
      have hidle : u.arbitrate = u := by
        rcases h with hrun | ⟨hslot, -⟩
        · exact State.arbitrate_of_not_inRun (by
            rw [hu]
            exact State.inRun_of_not_run (s := s.filtered dt p i _) hrun)
        · exact arbitrate_idle u (by rw [hu]; exact hslot)
      rw [hexec, hstart, hheat, hidle, hu]
      rfl
    · obtain ⟨q, hgrant⟩ := ((u.checkStartWait p).checkHeatWait p).arbitrate_acts
      refine ⟨by rw [hgrant.ic, hacts.ic, hu]; rfl, ?_⟩
      rw [(hgrant.credit p).1, (hacts.credit p).1, hu]
      rfl

/-- Settles O32: the pin, the filter and the door watch, each by its own test. -/
theorem rawContactChangesMakeCandidates : Obligations.RawContactChangesMakeCandidates := by
  intro dt p i level s c w now
  refine ⟨fun hnew => ?_, fun hsame => congrArg Host.Outcome.next (if_pos hsame)⟩
  rw [exec_rawContactChange_of_new hnew]
  simp only [State.contactRaw_eq, State.watchRaw_eq]
  rfl

/-- Settles O35. -/
theorem tachPulsesAreCounted : Obligations.TachPulsesAreCounted := by
  refine ⟨fun dt p level s hw hnew => ?_, fun dt p level s hw hnew => ?_, fun dt p since s h => ?_,
    fun dt p since s hw hpulse hdue => ?_⟩
  · refine congrArg Host.Outcome.next ((if_neg hnew).trans (if_pos hw))
  · exact congrArg Host.Outcome.next ((if_neg hnew).trans (if_neg (by
      change ¬ s.ss.power.working = true
      simp [hw])))
  · refine exec_tachPulseAccepted_of_early fun t ht => ?_
    rcases h with h | h | ⟨hdue, h⟩
    · rw [h] at ht
      cases ht
    · rw [h] at ht
      cases ht
      exact .inl rfl
    · rw [h] at ht
      cases ht
      exact .inr hdue
  · intro ic
    obtain ⟨u, hu⟩ : ∃ u, u = (s.advance dt).setSense p
      ((s.sense p).pulse (s.cfg.ppr p) (s.time + dt)) := ⟨_, rfl⟩
    have hpulsed : u = { s with time := s.time + dt, ic := ic } := by
      rw [hu]
      simp only [State.setSense, State.advance, Sensing.pulse, hpulse, Option.map_some,
        decide_eq_true_eq, ic]
    have hexec := exec_tachPulseAccepted_of_due hw hpulse hdue hu
    refine ⟨fun h => ?_, fun hrun hspin => ?_⟩
    · rcases h with hrun | ⟨hslot, hspin, hburst⟩
      · rw [hexec, State.inRun_of_not_run (s := u) (by rw [hpulsed]; exact hrun), hpulsed]
        rfl
      · have hsame : u.pulseTaken p = u :=
          State.pulseTaken_of_other (by rw [hpulsed]; exact hspin) (by rw [hpulsed]; exact hburst)
        rw [hexec, hsame, arbitrate_idle u (by rw [hpulsed]; exact hslot), ite_self, hpulsed]
    · have hinRun : u.inRun = true := by
        rw [hpulsed]
        exact beq_iff_eq.mpr hrun
      have htaken : u.pulseTaken p = if (u.pocket p).motorRun && !(u.pocket p).proven then
          u.rotationProof p else u := by
        have hphase : (u.pocket p).phase = .spinup := by rw [hpulsed]; exact hspin
        simp only [State.pulseTaken, hphase]
      have hacts : ActsOn p u (u.pulseTaken p) := by
        rw [htaken]
        split
        · exact (ActsOn.refl p u).rotationProof
        · exact ActsOn.refl p u
      obtain ⟨q, hgrant⟩ := (u.pulseTaken p).arbitrate_acts
      refine ⟨_, hexec.trans (congrArg Host.Outcome.next (if_pos hinRun)), ?_⟩
      rw [hgrant.ic, hacts.ic, hpulsed]
end

section
/-! Acts of a Pocket Sequencer: what each leaves of its pocket (R2, R3, R14, R50 to R59, R64 to R82). -/

namespace Sys2Proof.Machine

/-! ### Timers -/

theorem due_of_le {timer : Option Nat} {τ now : Nat} (h : timer = some τ) (hle : τ ≤ now) :
    due timer now = true := by
  simp [due, h, hle]

/-! ### Faults (R5, R6) -/

theorem FaultSet.insert_of_has {f : FaultSet} {x : PocketFault} (h : f.has x = true) :
    f.insert x = f := by
  cases f
  cases x <;> simp_all [FaultSet.has, FaultSet.insert]

@[simp] theorem State.pocket_setFault (s : State) (p : PocketId) (f : PocketFault) :
    (s.setFault p f).pocket p = { s.pocket p with faults := (s.pocket p).faults.insert f } := by
  unfold State.setFault
  split
  · next h => rw [FaultSet.insert_of_has h]
  · simp

@[simp] theorem State.jc_setFault (s : State) (p : PocketId) (f : PocketFault) :
    (s.setFault p f).jc = s.jc := by
  unfold State.setFault
  split <;> rfl

@[simp] theorem State.ssa_setFault (s : State) (p : PocketId) (f : PocketFault) :
    (s.setFault p f).ssa = s.ssa := by
  unfold State.setFault
  split <;> rfl

@[simp] theorem State.time_setFault (s : State) (p : PocketId) (f : PocketFault) :
    (s.setFault p f).time = s.time :=
  ((ActsOn.refl p s).setFault f).time

@[simp] theorem State.time_endHeat (s : State) (p : PocketId) (c : HeatCause) (hold : Bool) :
    (s.endHeat p c hold).time = s.time :=
  ((ActsOn.refl p s).endHeat c hold).time

/-! ### The grant that may follow an act -/

/-- A pocket without a start request is left as it was by the grant. -/
theorem State.arbitrate_pocket_of_without {s : State} {p : PocketId} (h : s.ssa.Without p) :
    s.arbitrate.pocket p = s.pocket p := by
  unfold State.arbitrate
  split
  · rename_i r rest _ _ hqueue
    have hr : r.pocket ≠ p := h.queued r (by rw [hqueue]; exact List.mem_cons_self)
    exact State.takeGrant_pocket_of_ne _ hr.symm
  · rfl

theorem State.run_arbitrate (s : State) (p : PocketId) :
    (s.arbitrate.pocket p).run = (s.pocket p).run := (arbitrate_keeps s p).1

theorem State.faults_arbitrate (s : State) (p : PocketId) :
    (s.arbitrate.pocket p).faults = (s.pocket p).faults := (arbitrate_keeps s p).2.1

theorem State.phase_arbitrate {s : State} {p : PocketId} (h : (s.pocket p).phase ≠ .acRest) :
    (s.arbitrate.pocket p).phase = (s.pocket p).phase := by
  obtain ⟨-, -, hphase, -⟩ := arbitrate_keeps s p
  exact (hphase h).1

/-- A pocket in neither heat phase has no permit (R63). -/
theorem State.heatPermit_of_phase {s : State} {p : PocketId}
    (h : (s.pocket p).phase ∉ [.heat, .ignition]) : s.heatPermit p = false := by
  simp only [List.mem_cons, List.not_mem_nil, or_false, not_or] at h
  obtain ⟨hheat, hignition⟩ := h
  simp [State.heatPermit, beq_false_of_ne hheat, beq_false_of_ne hignition]

/-! ### Phases in which the motor runs on -/

/-- From s to t the pocket's motor output is as it was, and the pocket is in a heat phase or in COOL. -/
def drivesOn (p : PocketId) (s t : State) : Prop :=
  (t.pocket p).motorRun = (s.pocket p).motorRun
    ∧ (t.pocket p).phase ∈ [.purge, .ignition, .heat, .heatWait, .cool]

theorem drivesOn.arbitrate {p : PocketId} {s t : State} (h : drivesOn p s t) :
    drivesOn p s t.arbitrate := by
  obtain ⟨hmotor, hphase⟩ := h
  have hmoving : (t.pocket p).phase ∉ [.spinup, .acRest] := by
    revert hphase
    cases (t.pocket p).phase <;> simp
  have hrest : (t.pocket p).phase ≠ .acRest := fun h => hmoving (by simp [h])
  exact ⟨(State.arbitrate_motorRun t p hmoving).trans hmotor, by rwa [State.phase_arbitrate hrest]⟩

theorem Pocket.motorRun_move (k : Pocket) (new : Phase) (now period : Nat) :
    (k.move new now period).motorRun = (k.motorRun && !new.dropsMotor) := rfl

theorem drivesOn_enterPhase (s : State) (p : PocketId) {ph : Phase}
    (h : ph ∈ [.purge, .ignition, .heat, .heatWait, .cool]) : drivesOn p s (s.enterPhase p ph) := by
  have hkeeps : ph.dropsMotor = false := by
    revert h
    cases ph <;> simp [Phase.dropsMotor]
  refine ⟨?_, by rwa [State.phase_enterPhase]⟩
  simp [State.pocket_enterPhase_self, Pocket.move, hkeeps]

theorem drivesOn_endHeat {s : State} {p : PocketId} (h : (s.pocket p).phase.heating = true)
    (c : HeatCause) (hold : Bool) : drivesOn p s (s.endHeat p c hold) := by
  refine ⟨State.motorRun_endHeat s p c hold, ?_⟩
  rw [State.phase_endHeat, if_pos h]
  decide

/-- The timers of a pocket that enters HEAT_WAIT (R76). -/
def State.heatWaitTimers (s : State) (p : PocketId) : PocketTimers :=
  { (s.pocket p).timers.move (s.pocket p).phase .heatWait s.time s.cfg.period with
    heatGrace :=
      if (s.sense p).airflow.level then none
      else some (s.time + seconds (s.cfg.airflowGrace p)) }

theorem State.pocket_enterHeatWait (s : State) (p : PocketId) :
    (s.enterHeatWait p).pocket p
      = { (s.pocket p).move .heatWait s.time s.cfg.period with timers := s.heatWaitTimers p } := by
  unfold State.heatWaitTimers
  have hair : ((s.changePhase p .heatWait).sense p).airflow.level = (s.sense p).airflow.level := rfl
  unfold State.enterHeatWait
  dsimp only
  rw [hair]
  split
  · simp [Pocket.move, PocketTimers.move, PocketTimers.stopped]
  · simp [Pocket.move]

theorem drivesOn_enterHeatWait (s : State) (p : PocketId) : drivesOn p s (s.enterHeatWait p) := by
  unfold drivesOn
  rw [State.pocket_enterHeatWait]
  simp [Pocket.move, Phase.dropsMotor]

theorem drivesOn_changePhase (s : State) (p : PocketId) {ph : Phase} (h : ph.heating = true) :
    drivesOn p s (s.changePhase p ph) := by
  unfold drivesOn
  rw [State.pocket_changePhase_self]
  revert h
  cases ph <;> simp [Phase.heating, Pocket.move, Phase.dropsMotor]

theorem drivesOn.trans {p : PocketId} {a b c : State} (h : drivesOn p a b) (k : drivesOn p b c) :
    drivesOn p a c :=
  ⟨k.1.trans h.1, k.2⟩

theorem State.heating_changePhase (s : State) (p : PocketId) {ph : Phase} (h : ph.heating = true) :
    ((s.changePhase p ph).pocket p).phase.heating = true := by
  simpa [Pocket.move] using h

theorem drivesOn_enterIgnition (s : State) (p : PocketId) : drivesOn p s (s.enterIgnition p) := by
  have hin := drivesOn_changePhase s p (ph := .ignition) rfl
  have hheat := State.heating_changePhase s p (ph := .ignition) rfl
  unfold State.enterIgnition
  dsimp only
  split
  · exact hin.trans (drivesOn_endHeat hheat _ _)
  · split
    · exact hin
    · exact hin.trans (drivesOn_enterHeatWait _ _)

theorem drivesOn_setTimers {p : PocketId} {s t : State} (h : drivesOn p s t) (x : PocketTimers) :
    drivesOn p s (t.setTimers p x) := by
  unfold drivesOn at h ⊢
  simpa using h

theorem drivesOn_enterPurge (s : State) (p : PocketId) : drivesOn p s (s.enterPurge p) := by
  have hin := drivesOn_changePhase s p (ph := .purge) rfl
  have hheat := State.heating_changePhase s p (ph := .purge) rfl
  unfold State.enterPurge
  dsimp only
  split
  · exact hin.trans (drivesOn_endHeat hheat _ _)
  · split
    · exact drivesOn_setTimers hin _
    · exact drivesOn_setTimers hin _

theorem drivesOn_towardHeat (s : State) (p : PocketId) : drivesOn p s (s.towardHeat p) := by
  unfold State.towardHeat
  dsimp only
  split
  · exact drivesOn_enterPurge s p
  · exact drivesOn_enterIgnition s p

theorem drivesOn_leaveSpinup (s : State) (p : PocketId) : drivesOn p s (s.leaveSpinup p) := by
  unfold State.leaveSpinup
  split
  · exact drivesOn_towardHeat s p
  · exact drivesOn_enterPhase s p (by decide)
  · exact drivesOn_enterPhase s p (by decide)

theorem State.leaveSpinup_of_heat {s : State} {p : PocketId} (h : (s.pocket p).run.target = .heat) :
    s.leaveSpinup p = s.towardHeat p := by
  simp [State.leaveSpinup, h]

theorem State.leaveSpinup_of_cool {s : State} {p : PocketId} (h : (s.pocket p).run.target ≠ .heat) :
    s.leaveSpinup p = s.enterPhase p .cool := by
  cases ht : (s.pocket p).run.target with
  | heat => exact absurd ht h
  | cool => simp [State.leaveSpinup, ht]
  | antiCrease => simp [State.leaveSpinup, ht]

/-! ### Drum stalls (R54, R55) -/

/-- What a drum stall and the grant that may follow it leave. -/
theorem State.drumStall_leaves (u : State) (p : PocketId) :
    let t := (u.drumStall p).arbitrate
    (t.pocket p).phase = .faultHold ∧ (t.pocket p).motorRun = false
      ∧ (t.pocket p).motorRev = (u.pocket p).motorRev ∧ t.heatPermit p = false
      ∧ (t.pocket p).faults = { (u.pocket p).faults with drumStall := true }
      ∧ (t.pocket p).run = (u.pocket p).run ∧ keepsOther p u t ∧ t.journal = u.journal
      ∧ t.cfg = u.cfg ∧ t.rp = u.rp ∧ (∀ q ∈ t.ssa.queue, q.pocket ≠ p)
      ∧ (∀ g, t.ssa.slot = some g → g.request.pocket ≠ p)
      ∧ t.jc.queue = enqueue u.jc.queue p .phase t.time ∧ t.ic = u.ic := by
  intro t
  have hacts := (ActsOn.refl p u).drumStall
  obtain ⟨q, hgrant⟩ := (u.drumStall p).arbitrate_acts
  obtain ⟨-, hother, hplans⟩ := hacts.frame
  have hphase : ((u.drumStall p).pocket p).phase = .faultHold := State.phase_enterPhase _ _ _
  have hkept : t.pocket p = (u.drumStall p).pocket p :=
    State.arbitrate_pocket_of_phase _ _ (by rw [hphase]; decide)
  obtain ⟨hqueued, hgranted⟩ := State.without_arbitrate
    (State.without_enterPhase (u.setFault p .drumStall) p (ph := .faultHold) rfl)
  have hpocket := State.pocket_enterPhase_self (u.setFault p .drumStall) p .faultHold
  refine ⟨by rw [hkept, hphase], ?_, ?_, State.heatPermit_of_phase (by rw [hkept, hphase]; decide),
    ?_, ?_, hother, hgrant.journal.trans hacts.journal, hgrant.cfg.trans hacts.cfg, hplans, hqueued,
    hgranted, ?_, hgrant.ic.trans hacts.ic⟩
  · rw [hkept]
    exact State.motorRun_enterPhase_of_drops _ _ rfl
  · rw [hkept, State.drumStall, hpocket]
    simp [Pocket.move]
  · rw [hkept, State.drumStall, hpocket]
    simp [Pocket.move, FaultSet.insert]
  · rw [hkept, State.drumStall, State.run_enterPhase]
    simp
  · rw [State.queue_arbitrate, State.time_arbitrate, hacts.time, State.drumStall,
      State.queue_enterPhase]
    simp

/-- A window's expiry stalls a proven running drum alone (R54). -/
theorem Pocket.stallsOnWindow_iff (k : Pocket) : k.stallsOnWindow = true ↔
    k.motorRun = true ∧ (k.phase = .spinup → k.proven = true)
      ∧ (k.phase = .acBurst → k.firstPulse = true) := by
  unfold Pocket.stallsOnWindow
  cases k.phase <;> cases k.proven <;> cases k.firstPulse <;> simp

section
variable {dt τ : Nat} {p : PocketId} {s : State}

theorem exec_startProofTimerExpiry_of_due (hrun : s.ss.power = .run)
    (ht : (s.pocket p).timers.startProof = some τ) (hdue : τ ≤ s.time + dt) :
    exec (.startProofTimerExpiry dt p) s = .next ((s.advance dt).drumStall p).arbitrate := by
  have hinRun : (s.advance dt).inRun = true := beq_iff_eq.mpr hrun
  refine congrArg Host.Outcome.next (if_pos ?_)
  rw [hinRun, Bool.true_and]
  exact due_of_le ht hdue

theorem exec_burstProofTimerExpiry_of_due (hrun : s.ss.power = .run)
    (ht : (s.pocket p).timers.burstProof = some τ) (hdue : τ ≤ s.time + dt) :
    exec (.burstProofTimerExpiry dt p) s = .next ((s.advance dt).drumStall p).arbitrate := by
  have hinRun : (s.advance dt).inRun = true := beq_iff_eq.mpr hrun
  refine congrArg Host.Outcome.next (if_pos ?_)
  rw [hinRun, Bool.true_and]
  exact due_of_le ht hdue

/-- The turning window runs out in RUN (R36, R54). -/
theorem exec_turningWindowExpiry_of_due (hrun : s.ss.power = .run)
    (ht : (s.sense p).lastPulse = some τ) (hdue : τ + s.cfg.turningWindow p * 100000 ≤ s.time + dt)
    {u : State} (hu : u = (s.advance dt).setSense p { s.sense p with lastPulse := none }) :
    exec (.turningWindowExpiry dt p) s
      = .next (if (s.pocket p).stallsOnWindow then (u.drumStall p).arbitrate else u) := by
  have hw : (s.advance dt).ss.power.working = true := by
    change s.ss.power.working = true
    rw [hrun]
    rfl
  have hpassed : due (((s.advance dt).sense p).lastPulse.map
      (· + (s.advance dt).cfg.turningWindow p * 100000)) (s.advance dt).time = true :=
    due_of_le (congrArg (Option.map _) ht) hdue
  have hinRun : u.inRun = true := by
    rw [hu]
    exact beq_iff_eq.mpr hrun
  refine congrArg Host.Outcome.next ((if_pos (by rw [hw, hpassed]; rfl)).trans ?_)
  subst hu
  change (if (((s.advance dt).setSense p { s.sense p with lastPulse := none }).inRun
    && (s.pocket p).stallsOnWindow) = true then _ else _) = _
  rw [hinRun, Bool.true_and]
  rfl

end

/-! ### Accepted pulses (R51, R58, R59) -/

/-- What rotation proof with AIRFLOW proven does: the pocket leaves SPINUP by its target (R51). -/
theorem State.rotationProof_of_airflow {s : State} {p : PocketId}
    (hair : (s.sense p).airflow.level = true) :
    s.rotationProof p = (s.setPocket p { s.pocket p with
      proven := true, timers := { (s.pocket p).timers with startProof := none } }).leaveSpinup p :=
  if_pos hair

/-- Rotation proof without AIRFLOW starts the airflow grace (R51). -/
theorem State.rotationProof_of_still {s : State} {p : PocketId}
    (hair : (s.sense p).airflow.level = false) :
    s.rotationProof p = s.setPocket p { s.pocket p with
      proven := true
      timers := { (s.pocket p).timers with
        startProof := none, airflowGrace := some (s.time + seconds (s.cfg.airflowGrace p)) } } := by
  refine (if_neg (fun h => Bool.noConfusion (hair.symm.trans h))).trans ?_
  simp only [State.setTimers, State.pocket_setPocket_self]
  cases p <;> rfl

theorem State.pulseTaken_of_unproven {s : State} {p : PocketId} (h : (s.pocket p).phase = .spinup)
    (hmotor : (s.pocket p).motorRun = true) (hproven : (s.pocket p).proven = false) :
    s.pulseTaken p = s.rotationProof p := by
  simp [State.pulseTaken, h, hmotor, hproven]

theorem State.pulseTaken_of_first {s : State} {p : PocketId} (h : (s.pocket p).phase = .acBurst)
    (hfirst : (s.pocket p).firstPulse = false) : s.pulseTaken p = s.firstBurstPulse p := by
  simp [State.pulseTaken, h, hfirst]

theorem State.pulseTaken_of_burst {s : State} {p : PocketId} (h : (s.pocket p).phase = .acBurst)
    (hfirst : (s.pocket p).firstPulse = true) :
    s.pulseTaken p = if (s.pocket p).run.burst ≤ (s.sense p).revs.toNat then s.burstEnd p else s := by
  simp [State.pulseTaken, h, hfirst]

/-- The end of a burst (R59), and the grant that may follow it. -/
theorem State.burstEnd_leaves (s : State) (p : PocketId) :
    ((s.burstEnd p).arbitrate.pocket p).phase
        = (if (s.pocket p).windowReached then .done else .acRest)
      ∧ ((s.burstEnd p).arbitrate.pocket p).motorRun = false := by
  unfold State.burstEnd
  split
  · rw [State.arbitrate_pocket_of_without (State.without_enterPhase s p rfl)]
    exact ⟨State.phase_enterPhase _ _ _, State.motorRun_enterPhase_of_drops _ _ rfl⟩
  · have hwithout : (s.enterAcRest p).ssa.Without p :=
      Arbiter.without_leave s.ssa p (s.pocket p).phase (new := .acRest) rfl
    rw [State.arbitrate_pocket_of_without hwithout]
    simp [State.enterAcRest, Pocket.move, Phase.dropsMotor]

end Sys2Proof.Machine

open Sys2Proof Sys2Proof.Machine

/-- Settles O37: every drum stall is one act, on the state that its command leaves. -/
theorem drumStallsLockThePocketOut : Obligations.DrumStallsLockThePocketOut := by
  intro dt p τ s hrun k stalled
  have hstalled : ∀ u : State, u.psq = s.psq → u.journal = s.journal → u.cfg = s.cfg → u.rp = s.rp →
      u.jc = s.jc → stalled (u.drumStall p).arbitrate := by
    intro u hpsq hjournal hcfg hrp hjc
    have hpocket : ∀ q, u.pocket q = s.pocket q := fun q => congrArg (·.get q) hpsq
    obtain ⟨hphase, hmotor, hrev, hpermit, hfaults, hkept, hother, hj, hc, hplans, hqueued, hgranted,
      hqueue, -⟩ := u.drumStall_leaves p
    simp only [keepsOther, hpocket, hjournal, hcfg, hrp, hjc]
      at hrev hfaults hkept hother hj hc hplans hqueue
    exact ⟨hphase, hmotor, hrev, hpermit, hfaults, hkept, hother, hj, hc, hplans, hqueued, hgranted,
      hqueue⟩
  refine ⟨fun ht hdue => ?_, fun ht hdue => ?_, fun ht hdue hmotor hspin hburst => ?_,
    fun ht hdue h => ?_⟩
  · obtain ⟨-, -, -, -, -, -, -, -, -, -, -, -, -, hic⟩ := (s.advance dt).drumStall_leaves p
    exact ⟨_, exec_startProofTimerExpiry_of_due hrun ht hdue, hic, hstalled _ rfl rfl rfl rfl rfl⟩
  · obtain ⟨-, -, -, -, -, -, -, -, -, -, -, -, -, hic⟩ := (s.advance dt).drumStall_leaves p
    exact ⟨_, exec_burstProofTimerExpiry_of_due hrun ht hdue, hic, hstalled _ rfl rfl rfl rfl rfl⟩
  · have hstall := (Pocket.stallsOnWindow_iff (s.pocket p)).mpr ⟨hmotor, hspin, hburst⟩
    have hexec := exec_turningWindowExpiry_of_due hrun ht hdue rfl
    rw [hstall, if_pos rfl] at hexec
    obtain ⟨-, -, -, -, -, -, -, -, -, -, -, -, -, hic⟩ :=
      ((s.advance dt).setSense p { s.sense p with lastPulse := none }).drumStall_leaves p
    exact ⟨_, hexec, hic, hstalled _ rfl rfl rfl rfl rfl⟩
  · have hstall : ¬ (s.pocket p).stallsOnWindow = true := by
      rw [Pocket.stallsOnWindow_iff]
      rintro ⟨hmotor, hspin, hburst⟩
      rcases h with h | ⟨hphase, h⟩ | ⟨hphase, h⟩
      · exact Bool.noConfusion (h.symm.trans hmotor)
      · exact Bool.noConfusion (h.symm.trans (hspin hphase))
      · exact Bool.noConfusion (h.symm.trans (hburst hphase))
    rw [exec_turningWindowExpiry_of_due hrun ht hdue rfl, if_neg hstall]
    rfl

/-- Settles O36, by the phases of R51, R58 and R59. -/
theorem pulsesProveAndEndMotion : Obligations.PulsesProveAndEndMotion := by
  intro dt p since s hrun hslot hpulse hdue k revs
  obtain ⟨u, hu⟩ : ∃ u, u = (s.advance dt).setSense p
    ((s.sense p).pulse (s.cfg.ppr p) (s.time + dt)) := ⟨_, rfl⟩
  have hexec := exec_tachPulseAccepted_of_due (by rw [hrun]; rfl) hpulse hdue hu
  have hinRun : u.inRun = true := by
    rw [hu]
    exact beq_iff_eq.mpr hrun
  rw [hinRun, if_pos rfl] at hexec
  have hpocket : u.pocket p = k := by rw [hu]; rfl
  have hsense : u.sense p = (s.sense p).pulse (s.cfg.ppr p) (s.time + dt) := by
    rw [hu, State.sense_setSense_self]
  have hair : (u.sense p).airflow = (s.sense p).airflow := by rw [hsense]; rfl
  have hrevs : (u.sense p).revs = revs := by
    rw [hsense]
    simp only [Sensing.pulse, decide_eq_true_eq, revs]
  have hlock : u.interlock p = s.interlock p := by
    unfold State.interlock
    rw [hsense, hu]
    rfl
  have hidle : ∀ v : State, v.ssa = u.ssa → v.slotServed := by
    intro v hv
    unfold State.slotServed
    rw [hv, hu]
    exact hslot
  refine ⟨_, hexec, fun hspin hmotor hproven => ?_, fun hburst hfirst => ?_,
    fun hburst hfirst hover => ?_, fun hburst hfirst hmore => ?_⟩
  · rw [State.pulseTaken_of_unproven (by rw [hpocket]; exact hspin) (by rw [hpocket]; exact hmotor)
      (by rw [hpocket]; exact hproven)]
    by_cases hlevel : (s.sense p).airflow.level = true
    · rw [State.rotationProof_of_airflow (by rw [hair]; exact hlevel), hpocket]
      obtain ⟨v, hv⟩ : ∃ v, v = u.setPocket p { k with
        proven := true, timers := { k.timers with startProof := none } } := ⟨_, rfl⟩
      rw [← hv]
      have hrun : (v.pocket p).run = k.run := by rw [hv]; simp
      have hon := (drivesOn_leaveSpinup v p).arbitrate
      refine ⟨?_, fun h => Bool.noConfusion (h.symm.trans hlevel), fun _ htarget => ?_,
        fun _ htarget hsensor hset => ?_⟩
      · rw [hon.1, hv]
        simpa using hmotor
      · rw [State.leaveSpinup_of_cool (by rw [hrun]; exact htarget)]
        rw [State.arbitrate_pocket_of_phase _ _ (by rw [State.phase_enterPhase]; decide)]
        refine ⟨State.phase_enterPhase _ _ _, by rw [State.run_enterPhase, hrun], ?_⟩
        rw [State.queue_arbitrate, State.queue_enterPhase, State.time_arbitrate, hv, hu]
        rfl
      · rw [State.leaveSpinup_of_heat (by rw [hrun]; exact htarget)]
        obtain ⟨hphase, hkept, -, -⟩ := State.towardHeat_of_ready (s := v) (p := p)
          (by rw [hv]; simpa using hsensor) (by rw [hv]; exact hlock.trans hset)
        have hmoving : ((v.towardHeat p).pocket p).phase ≠ .acRest := by
          rw [hphase, State.heatPhase]
          split <;> decide
        rw [State.run_arbitrate, State.phase_arbitrate hmoving, hkept, hphase, State.heatPhase, hrun]
        exact ⟨rfl, rfl⟩
    · have hoff : (s.sense p).airflow.level = false := Bool.eq_false_iff.mpr hlevel
      rw [State.rotationProof_of_still (by rw [hair]; exact hoff),
        arbitrate_idle _ (hidle (u.setPocket p _) rfl), hpocket, State.pocket_setPocket_self]
      refine ⟨hmotor, fun _ => ⟨hspin, rfl, rfl, by rw [hu]; rfl⟩,
        fun h => absurd h hlevel, fun h => absurd h hlevel⟩
  · rw [State.pulseTaken_of_first (by rw [hpocket]; exact hburst) (by rw [hpocket]; exact hfirst),
      arbitrate_idle _ (hidle (u.firstBurstPulse p) rfl)]
    have hself : (u.firstBurstPulse p).pocket p = { k with
        firstPulse := true, timers := { k.timers with burstProof := none } } := by
      rw [← hpocket]
      exact State.pocket_setPocket_self u p _
    have hrestart : (u.firstBurstPulse p).sense p = (u.sense p).restart :=
      State.sense_setSense_self _ p _
    rw [hself, hrestart]
    exact ⟨hburst, rfl, rfl, rfl, rfl⟩
  · rw [State.pulseTaken_of_burst (by rw [hpocket]; exact hburst) (by rw [hpocket]; exact hfirst),
      hpocket, hrevs, if_pos hover]
    have hend := u.burstEnd_leaves p
    rw [hpocket] at hend
    exact hend
  · rw [State.pulseTaken_of_burst (by rw [hpocket]; exact hburst) (by rw [hpocket]; exact hfirst),
      hpocket, hrevs, if_neg (by omega), arbitrate_idle u (hidle u rfl), hpocket]
    exact ⟨hburst, rfl⟩
end

section
/-! Temperature conversions (R38 to R42), SENSOR (R40, R41, R80) and the guards (R81, R82). -/

namespace Sys2Proof.Machine

/-! ### The breakpoint table (R38) -/

/-- The last index that passes a test is what a fold over the indices keeps. -/
theorem foldl_range_last {n i : Nat} {P : Nat → Prop} [DecidablePred P] (hi : i < n) (hP : P i)
    (hlast : ∀ j, i < j → j < n → ¬ P j) (start : Nat) :
    (List.range n).foldl (fun best j => if P j then j else best) start = i := by
  induction n with
  | zero => omega
  | succ n ih =>
    rw [List.range_succ, List.foldl_append, List.foldl_cons, List.foldl_nil]
    by_cases hin : i = n
    · subst hin
      exact if_pos hP
    · rw [if_neg (hlast n (by omega) (by omega))]
      exact ih (by omega) fun j hj hjn => hlast j hj (by omega)

theorem getD_lt_of_ascending {codes : List Int} (hasc : codes.Pairwise (· < ·)) {i j : Nat}
    (hij : i < j) (hj : j < codes.length) : codes.getD i 0 < codes.getD j 0 := by
  rw [List.getD_eq_getElem codes 0 (by omega), List.getD_eq_getElem codes 0 hj]
  exact List.pairwise_iff_getElem.mp hasc i j (by omega) hj hij

theorem getD_le_of_ascending {codes : List Int} (hasc : codes.Pairwise (· < ·)) {i j : Nat}
    (hij : i ≤ j) (hj : j < codes.length) : codes.getD i 0 ≤ codes.getD j 0 := by
  rcases Nat.lt_or_eq_of_le hij with h | h
  · exact (getD_lt_of_ascending hasc h hj).le
  · rw [h]

/-- The interval of the table that a code lies in (R38). -/
theorem breakIndex_eq {codes : List Int} (hlen : codes.length = 9) (hasc : codes.Pairwise (· < ·))
    {c : Int} {i : Nat} (hi : i < 8) (hlow : codes.getD i 0 ≤ c)
    (hhigh : c < codes.getD (i + 1) 0 ∨ i = 7 ∧ c = codes.getD 8 0) : breakIndex codes c = i := by
  refine foldl_range_last (P := fun j => codes.getD j 0 ≤ c) hi hlow (fun j hj hj8 hle => ?_) 0
  rcases hhigh with h | ⟨h, -⟩
  · have hmono := getD_le_of_ascending hasc (i := i + 1) (j := j) hj (by omega)
    omega
  · omega

theorem convert_of_below {codes temps : List Int} {c : Int} (h : c < codes.getD 0 0) :
    convert codes temps c = clampInt (-40) 400 (temps.getD 0 0) :=
  if_pos h

theorem convert_of_above {codes temps : List Int} {c : Int} (hlow : ¬ c < codes.getD 0 0)
    (h : codes.getD 8 0 < c) : convert codes temps c = clampInt (-40) 400 (temps.getD 8 0) := by
  rw [convert, if_neg hlow, if_pos h]

theorem convert_of_inside {codes temps : List Int} {c : Int} {i : Nat} (hlow : ¬ c < codes.getD 0 0)
    (hhigh : ¬ codes.getD 8 0 < c) (hi : breakIndex codes c = i) :
    convert codes temps c = clampInt (-40) 400 (temps.getD i 0
      + Int.tdiv ((temps.getD (i + 1) 0 - temps.getD i 0) * (c - codes.getD i 0))
          (codes.getD (i + 1) 0 - codes.getD i 0)) := by
  rw [convert, if_neg hlow, if_neg hhigh]
  simp only [hi]

/-! ### A conversion (R38 to R40) -/

theorem sampleFaulty_iff (code : Nat) : sampleFaulty code = true ↔ code ≤ 7 ∨ 1016 ≤ code := by
  simp [sampleFaulty]

section
variable {dt : Nat} {p : PocketId} {code : BitVec 10} {s u : State}

theorem exec_temperatureConversion_of_due (hw : s.ss.power.working = true)
    (hdue : (s.sense p).nextConversion ≤ s.time + dt)
    (hu : u = (s.advance dt).setSense p ((s.sense p).sample s.cfg code.toNat)) :
    exec (.temperatureConversion dt p code) s
      = .next (if u.inRun then ((u.sensorAfter p code.toNat).tempHighGuard p).arbitrate else u) := by
  subst hu
  refine congrArg Host.Outcome.next (if_pos ?_)
  simp [hw, hdue]

end

/-! ### SENSOR (R40, R41, R80) -/

theorem State.sensorAfter_of_faulty {s : State} {p : PocketId} {code : Nat}
    (h : sampleFaulty code = true) (hset : (s.pocket p).faults.sensor = true) :
    s.sensorAfter p code = s := by
  simp [State.sensorAfter, h, hset]

theorem State.sensorAfter_of_new {s : State} {p : PocketId} {code : Nat}
    (h : sampleFaulty code = true) (hset : (s.pocket p).faults.sensor = false) :
    s.sensorAfter p code
      = if (s.pocket p).phase.heating then
          ((s.setSensor p true).post .sensorFault (some p) (half code)).endHeat p .sensor false
        else (s.setSensor p true).post .sensorFault (some p) (half code) := by
  simp [State.sensorAfter, h, hset]

theorem State.sensorAfter_of_good {s : State} {p : PocketId} {code : Nat}
    (h : sampleFaulty code = false) :
    s.sensorAfter p code
      = if (s.pocket p).faults.sensor ∧ (s.sense p).goodRun = 8 then
          (s.setSensor p false).post .sensorOk (some p) 0#16
        else s := by
  simp [State.sensorAfter, h]

@[simp] theorem State.pocket_setSensor (s : State) (p : PocketId) (b : Bool) :
    (s.setSensor p b).pocket p
      = { s.pocket p with faults := { (s.pocket p).faults with sensor := b } } :=
  State.pocket_setPocket_self _ _ _

/-! ### Guards (R81, R82) -/

theorem State.evaluateGuard_of_quiet {s : State} {p : PocketId} {g : Guard} {reached : Bool}
    (h : (s.pocket p).phase ≠ .heat ∨ (s.pocket p).tripped g = true ∨ reached = false) :
    s.evaluateGuard p g reached = s := by
  refine if_neg fun htrip => ?_
  obtain ⟨hphase, hclear, hreached⟩ := htrip
  rcases h with h | h | h
  · exact h hphase
  · exact Bool.noConfusion (hclear.symm.trans h)
  · exact Bool.noConfusion (h.symm.trans hreached)

theorem State.evaluateGuard_of_reached {s : State} {p : PocketId} {g : Guard}
    (hphase : (s.pocket p).phase = .heat) (hclear : (s.pocket p).tripped g = false) :
    s.evaluateGuard p g true = s.guardTrip p g :=
  if_pos ⟨hphase, hclear, rfl⟩

@[simp] theorem Pocket.phase_trip (k : Pocket) (g : Guard) : (k.trip g).phase = k.phase := by
  cases g <;> rfl

@[simp] theorem Pocket.run_trip (k : Pocket) (g : Guard) : (k.trip g).run = k.run := by
  cases g <;> rfl

@[simp] theorem Pocket.faults_trip (k : Pocket) (g : Guard) : (k.trip g).faults = k.faults := by
  cases g <;> rfl

@[simp] theorem Pocket.tripped_trip (k : Pocket) (g : Guard) : (k.trip g).tripped g = true := by
  cases g <;> rfl

/-- R82, the action REPORT. -/
theorem State.guardTrip_of_report {s : State} {p : PocketId} {g : Guard}
    (h : s.cfg.guardAction p g = .report) :
    (s.guardTrip p g).pocket p = (s.pocket p).trip g
      ∧ (s.guardTrip p g).jc = s.jc ∧ (s.guardTrip p g).ssa = s.ssa := by
  unfold State.guardTrip
  dsimp only
  rw [h]
  exact ⟨by simp, rfl, rfl⟩

/-- The marks of a pocket outlast the end of heat. -/
theorem State.tripped_endHeat (s : State) (p : PocketId) (c : HeatCause) (hold : Bool) (g : Guard) :
    ((s.endHeat p c hold).pocket p).tripped g = (s.pocket p).tripped g := by
  unfold State.endHeat
  split
  · cases g <;> simp [State.pocket_enterPhase_self, Pocket.move, Pocket.tripped]
  · cases g <;> simp [Pocket.tripped]

/-- R82, the actions that end heat: END_HEAT, and HOLD with its fault. -/
theorem State.guardTrip_of_ending {s : State} {p : PocketId} {g : Guard}
    (hphase : (s.pocket p).phase = .heat) (h : s.cfg.guardAction p g ≠ .report) :
    let hold := decide (s.cfg.guardAction p g = .hold)
    ((s.guardTrip p g).pocket p).phase = .cool
      ∧ ((s.guardTrip p g).pocket p).tripped g = true
      ∧ ((s.guardTrip p g).pocket p).run = (s.pocket p).run.endHeat .guard hold
      ∧ ((s.guardTrip p g).pocket p).faults
        = (if hold then { (s.pocket p).faults with guardHold := true } else (s.pocket p).faults) := by
  unfold State.guardTrip
  dsimp only
  split
  · next haction => exact absurd haction h
  · next haction =>
    refine ⟨?_, ?_, ?_, ?_⟩
    · rw [State.phase_endHeat]
      simp [hphase, Phase.heating]
    · rw [State.tripped_endHeat]
      simp
    · rw [State.run_endHeat]
      simp [haction]
    · rw [State.faults_endHeat]
      simp [haction]
  · next haction =>
    refine ⟨?_, ?_, ?_, ?_⟩
    · rw [State.phase_endHeat]
      simp [hphase, Phase.heating]
    · rw [State.tripped_endHeat, State.pocket_setFault]
      cases g <;> simp [Pocket.tripped, Pocket.trip]
    · rw [State.run_endHeat]
      simp [haction]
    · rw [State.faults_endHeat]
      simp [haction, FaultSet.insert]

/-- A guard's evaluation leaves SENSOR. -/
theorem State.sensor_evaluateGuard (s : State) (p : PocketId) (g : Guard) (b : Bool) :
    ((s.evaluateGuard p g b).pocket p).faults.sensor = (s.pocket p).faults.sensor := by
  unfold State.evaluateGuard
  split
  · next h =>
    by_cases haction : s.cfg.guardAction p g = .report
    · rw [(State.guardTrip_of_report haction).1, Pocket.faults_trip]
    · obtain ⟨-, -, -, hfaults⟩ := State.guardTrip_of_ending h.1 haction
      rw [hfaults]
      split <;> rfl
  · rfl

theorem State.sensor_tempHighGuard (s : State) (p : PocketId) :
    ((s.tempHighGuard p).pocket p).faults.sensor = (s.pocket p).faults.sensor := by
  unfold State.tempHighGuard
  split
  · rfl
  · exact State.sensor_evaluateGuard _ _ _ _

theorem State.tempHighGuard_of_sensor {s : State} {p : PocketId}
    (h : (s.pocket p).faults.sensor = true) : s.tempHighGuard p = s := by
  unfold State.tempHighGuard
  split
  · rfl
  · exact State.evaluateGuard_of_quiet (.inr (.inr (by simp [h])))

end Sys2Proof.Machine

open Sys2Proof Sys2Proof.Machine

/-- Settles O38. -/
theorem conversionsFilterTheTemperature : Obligations.ConversionsFilterTheTemperature := by
  refine ⟨fun codes temps c hlen hasc => ?_, fun dt p code s hw hdue => ?_⟩
  · intro cc th clamped
    refine ⟨convert_of_below, fun h => ?_, fun i hi hlow hhigh => ?_⟩
    · refine convert_of_above ?_ h
      have hmono : cc 0 < cc 8 := getD_lt_of_ascending hasc (by omega) (by omega)
      simp only [cc] at hmono h
      omega
    · refine convert_of_inside ?_ ?_ (breakIndex_eq hlen hasc hi hlow hhigh)
      · have hmono : cc 0 ≤ cc i := getD_le_of_ascending hasc (by omega) (by omega)
        simp only [cc] at hmono hlow
        omega
      · rcases hhigh with h | ⟨-, h⟩
        · have hmono : cc (i + 1) ≤ cc 8 := getD_le_of_ascending hasc (by omega) (by omega)
          simp only [cc] at hmono h
          omega
        · exact not_lt.mpr h.le
  · intro k faulty temp samples used next k'
    obtain ⟨u, hu⟩ : ∃ u, u = (s.advance dt).setSense p ((s.sense p).sample s.cfg code.toNat) := ⟨_, rfl⟩
    have hexec := exec_temperatureConversion_of_due hw hdue hu
    have hsample : (s.sense p).sample s.cfg code.toNat = k' := by
      by_cases hf : faulty
      · have hclass := (sampleFaulty_iff code.toNat).mpr hf
        simp only [Sensing.sample, hclass, if_true, k', if_pos hf]
        rfl
      · have hclass : sampleFaulty code.toNat = false :=
          Bool.eq_false_iff.mpr fun h => hf ((sampleFaulty_iff _).mp h)
        simp only [Sensing.sample, hclass, k', if_neg hf]
        rfl
    have hpocket : u.pocket p = s.pocket p := by rw [hu]; rfl
    rw [hsample] at hu
    have hsense : u.sense p = k' := by rw [hu, State.sense_setSense_self]
    refine ⟨fun hrun => ?_, fun hrun => ?_⟩
    · rw [hexec, State.inRun_of_not_run (s := u) (by rw [hu]; exact hrun), hu]
      rfl
    · have hinRun : u.inRun = true := by
        rw [hu]
        exact beq_iff_eq.mpr hrun
      rw [hinRun, if_pos rfl] at hexec
      have hacts : ActsOn p u ((u.sensorAfter p code.toNat).tempHighGuard p) :=
        ((ActsOn.refl p u).sensorAfter _).tempHighGuard
      obtain ⟨q, hgrant⟩ := ((u.sensorAfter p code.toNat).tempHighGuard p).arbitrate_acts
      obtain ⟨-, hother, hplans⟩ := hacts.frame
      refine ⟨_, hexec, by rw [hgrant.ic, hacts.ic, hu]; rfl, by rw [hu] at hother ⊢; exact hother,
        by rw [hgrant.journal, hacts.journal, hu]; rfl, by rw [hplans, hu]; rfl, fun hf => ?_,
        fun hf hset => ?_⟩
      · have hclass := (sampleFaulty_iff code.toNat).mpr hf
        cases hset : (s.pocket p).faults.sensor with
        | true =>
          have hsame : u.sensorAfter p code.toNat = u :=
            State.sensorAfter_of_faulty hclass (by rw [hpocket]; exact hset)
          rw [hsame, State.tempHighGuard_of_sensor (by rw [hpocket]; exact hset),
            State.faults_arbitrate, hpocket]
          exact ⟨hset, fun h => Bool.noConfusion h⟩
        | false =>
          have hnew := State.sensorAfter_of_new hclass (s := u) (p := p) (by rw [hpocket]; exact hset)
          have hsensor : ((u.sensorAfter p code.toNat).pocket p).faults.sensor = true := by
            rw [hnew]
            split
            · rw [State.faults_endHeat]
              simp
            · simp
          rw [State.tempHighGuard_of_sensor hsensor, State.faults_arbitrate]
          refine ⟨hsensor, fun _ hphase => ?_⟩
          have hheat : (u.pocket p).phase.heating = true := by
            rw [hpocket]
            revert hphase
            cases (s.pocket p).phase <;> simp [Phase.heating]
          rw [if_pos hheat] at hnew
          have hcool : ((u.sensorAfter p code.toNat).pocket p).phase = .cool := by
            rw [hnew, State.phase_endHeat]
            simp [hheat]
          rw [State.phase_arbitrate (by rw [hcool]; decide), State.run_arbitrate]
          refine ⟨hcool, ?_⟩
          rw [hnew, State.run_endHeat]
          simp [hpocket, RunRecord.endHeat, CoolExit.after]
      · have hclass : sampleFaulty code.toNat = false :=
          Bool.eq_false_iff.mpr fun h => hf ((sampleFaulty_iff _).mp h)
        have hgood : (u.sense p).goodRun = min 8 (k.goodRun + 1) := by
          rw [hsense]
          simp only [k', if_neg hf]
        rw [State.faults_arbitrate, State.sensor_tempHighGuard, State.sensorAfter_of_good hclass,
          hpocket, hgood]
        by_cases hrun7 : k.goodRun < 7
        · rw [if_neg (by omega), hpocket, hset]
          simp [hrun7]
        · rw [if_pos ⟨hset, by omega⟩]
          simp [hrun7]

/-- Settles O39: the guard's action is what the conversion leaves, for a pocket in HEAT or COOL is none
that a grant acts on. -/
theorem tempHighTripsByItsAction : Obligations.TempHighTripsByItsAction := by
  intro dt p code s hrun hdue hlow hhigh hphase hsensor k
  obtain ⟨u, hu⟩ : ∃ u, u = (s.advance dt).setSense p ((s.sense p).sample s.cfg code.toNat) := ⟨_, rfl⟩
  have hexec := exec_temperatureConversion_of_due (by rw [hrun]; rfl) hdue hu
  have hinRun : u.inRun = true := by
    rw [hu]
    exact beq_iff_eq.mpr hrun
  have hclass : sampleFaulty code.toNat = false :=
    Bool.eq_false_iff.mpr fun h => by have := (sampleFaulty_iff _).mp h; omega
  have hpocket : u.pocket p = k := by rw [hu]; rfl
  have hcfg : u.cfg = s.cfg := by rw [hu]; rfl
  have hsame : u.sensorAfter p code.toNat = u := by
    rw [State.sensorAfter_of_good hclass, hpocket]
    exact if_neg fun h => Bool.noConfusion (hsensor.symm.trans h.1)
  rw [hinRun, if_pos rfl, hsame] at hexec
  obtain ⟨q, hgrant⟩ := (u.tempHighGuard p).arbitrate_acts
  have hsense : (u.tempHighGuard p).arbitrate.sense p = u.sense p :=
    (hgrant.sense p).trans ((ActsOn.refl p u).tempHighGuard.sense p)
  have hquiet : u.arbitrate.pocket p = k := by
    rw [State.arbitrate_pocket_of_phase u p (by rw [hpocket, hphase]; decide), hpocket]
  refine ⟨_, hexec, fun th hth => ⟨fun h => ?_, fun hreached hclear => ?_⟩, fun hnone => ?_⟩
  · rw [hsense] at hth
    have hkept : u.tempHighGuard p = u := by
      simp only [State.tempHighGuard, hth]
      refine State.evaluateGuard_of_quiet (.inr (h.symm.imp (fun h => ?_) fun h => ?_))
      · rw [hpocket]
        exact h
      · rw [hcfg]
        simp [h]
    rw [hkept, hquiet]
  · rw [hsense] at hth
    have htrip : u.tempHighGuard p = u.guardTrip p .tempHigh := by
      simp only [State.tempHighGuard, hth, hpocket, hcfg]
      have hnow : (!k.faults.sensor && decide (s.cfg.tempHighLimit p ≤ th)) = true := by
        simp [k, hsensor, hreached]
      rw [hnow]
      exact State.evaluateGuard_of_reached (by rw [hpocket]; exact hphase) (by rw [hpocket]; exact hclear)
    rw [htrip]
    have hkept : ∀ ph, ((u.guardTrip p .tempHigh).pocket p).phase = ph → ph = .heat ∨ ph = .cool →
        (u.guardTrip p .tempHigh).arbitrate.pocket p = (u.guardTrip p .tempHigh).pocket p := by
      intro ph hph h
      refine State.arbitrate_pocket_of_phase _ _ ?_
      rw [hph]
      rcases h with rfl | rfl <;> decide
    have hending := State.guardTrip_of_ending (g := .tempHigh) (by rw [hpocket]; exact hphase)
    have hreport := State.guardTrip_of_report (s := u) (p := p) (g := .tempHigh)
    rw [hcfg, hpocket] at hending hreport
    cases haction : s.cfg.guardAction p .tempHigh with
    | report =>
      obtain ⟨hself, -, -⟩ := hreport haction
      rw [hkept .heat (by rw [hself, Pocket.phase_trip]; exact hphase) (.inl rfl), hself]
      exact ⟨rfl, rfl⟩
    | endHeat =>
      rw [haction] at hending
      obtain ⟨hcool, hmark, hended, hfaults⟩ := hending (by decide)
      rw [hkept .cool hcool (.inr rfl)]
      exact ⟨hmark, hcool, hfaults, hended⟩
    | hold =>
      rw [haction] at hending
      obtain ⟨hcool, hmark, hended, hfaults⟩ := hending (by decide)
      rw [hkept .cool hcool (.inr rfl)]
      exact ⟨hmark, hcool, hfaults, hended⟩
  · rw [hsense] at hnone
    have hkept : u.tempHighGuard p = u := by
      simp only [State.tempHighGuard, hnone]
    rw [hkept, hquiet]
end

section
/-! The pocket timer and the periodic timer (R2, R11 to R17, R21, R59). -/

namespace Sys2Proof.Machine

/-! ### Replacing a pocket -/

theorem State.setPocket_setPocket (s : State) (p : PocketId) (k k' : Pocket) :
    (s.setPocket p k).setPocket p k' = s.setPocket p k' := by
  cases p <;> rfl

theorem State.setPocket_pocket (s : State) (p : PocketId) : s.setPocket p (s.pocket p) = s := by
  cases p <;> rfl

theorem State.setRun_setRun (s : State) (p : PocketId) (r r' : RunRecord) :
    (s.setRun p r).setRun p r' = s.setRun p r' := by
  cases p <;> rfl

theorem State.setRun_run (s : State) (p : PocketId) : s.setRun p (s.pocket p).run = s :=
  State.setPocket_pocket s p

/-! ### The write queue -/

theorem WriteKind.upgrade_upgrade (w k : WriteKind) : (w.upgrade k).upgrade k = w.upgrade k := by
  by_cases h : k.priority ≤ w.priority
  · simp [WriteKind.upgrade, h]
  · simp [WriteKind.upgrade, h]

/-- A request posted twice at an instant is posted once (R118). -/
theorem enqueue_enqueue (queue : List WriteRequest) (p : PocketId) (k : RecordKind) (now : Nat) :
    enqueue (enqueue queue p k now) p k now = enqueue queue p k now := by
  have hsome : (enqueue queue p k now).any (·.ofPocket p) = true := by
    unfold enqueue
    split
    · next h =>
      rw [List.any_eq_true] at h ⊢
      obtain ⟨w, hw, hp⟩ := h
      refine ⟨_, List.mem_map_of_mem hw, ?_⟩
      simp only [hp, if_true]
      rw [WriteRequest.ofPocket_upgrade hp k p]
      exact hp
    · simp [WriteRequest.ofPocket]
  conv_lhs => rw [enqueue, if_pos hsome]
  unfold enqueue
  split
  · rw [List.map_map]
    refine List.map_congr_left fun w _ => ?_
    by_cases hp : w.ofPocket p = true
    · simp [hp, WriteRequest.ofPocket_upgrade hp k p, WriteKind.upgrade_upgrade]
    · simp [hp]
  · next h =>
    rw [List.map_append]
    congr 1
    · refine (List.map_congr_left fun w hw => ?_).trans (List.map_id _)
      have hp : ¬ w.ofPocket p = true := fun hp => h (List.any_eq_true.mpr ⟨w, hw, hp⟩)
      simp [hp]
    · simp [WriteRequest.ofPocket, WriteKind.upgrade]

/-- A PERIODIC request restarts no timer (R21). -/
theorem State.postRequest_periodic (s : State) (p : PocketId) :
    s.postRequest p .periodic
      = { s with jc := { s.jc with queue := enqueue s.jc.queue p .periodic s.time } } := by
  have hkept : s.psq.set p { s.pocket p with timers := (s.pocket p).timers } = s.psq := by
    cases p <;> rfl
  simp only [State.postRequest, RecordKind.restartsPeriodic, Bool.and_false, Bool.false_eq_true,
    if_false, hkept]

/-! ### Credit and heat seconds (R11, R12) -/

/-- The credit of one second by the stage (R11). -/
def HeatStage.gain : HeatStage → Nat
  | .full => 4
  | .reduced => 2

/-- D after one second of HEAT (R11). -/
def State.creditAfter (s : State) (p : PocketId) : Nat :=
  if s.lm.line = .normal ∧ (s.sense p).heatFb.level = true then
    min (s.pocket p).run.t ((s.pocket p).run.d + (s.pocket p).run.stage.gain)
  else (s.pocket p).run.d

/-- h after one second of HEAT (R12). -/
def State.heatAfter (s : State) (p : PocketId) : Nat :=
  if s.heatPermit p = true then min 65535 ((s.pocket p).run.h + 1) else (s.pocket p).run.h

theorem State.accrueCredit_of_heat {s : State} {p : PocketId} (h : (s.pocket p).phase = .heat) :
    s.accrueCredit p = s.setRun p { (s.pocket p).run with d := s.creditAfter p } := by
  unfold State.accrueCredit State.creditAfter
  by_cases hsound : s.lm.line = .normal ∧ (s.sense p).heatFb.level = true
  · rw [if_pos hsound]
    exact (if_pos ⟨h, hsound⟩).trans (by cases (s.pocket p).run.stage <;> rfl)
  · rw [if_neg hsound]
    exact (if_neg fun hc => hsound hc.2).trans (State.setRun_run s p).symm

theorem State.countHeat_of_heat {s : State} {p : PocketId} (h : (s.pocket p).phase = .heat) :
    s.countHeat p = s.setRun p { (s.pocket p).run with h := s.heatAfter p } := by
  unfold State.countHeat State.heatAfter
  by_cases hpermit : s.heatPermit p = true
  · rw [if_pos hpermit]
    exact if_pos ⟨h, hpermit⟩
  · rw [if_neg hpermit]
    exact (if_neg fun hc => hpermit hc.2).trans (State.setRun_run s p).symm

/-- The permit does not read the run record (R63). -/
theorem State.heatPermit_setPocket {s : State} {p : PocketId} {k : Pocket}
    (h : k.phase = (s.pocket p).phase) : (s.setPocket p k).heatPermit p = s.heatPermit p := by
  have hlock : (s.setPocket p k).interlock p = s.interlock p := rfl
  have hsense : (s.setPocket p k).sense p = s.sense p := rfl
  have hrun : (s.setPocket p k).inRun = s.inRun := rfl
  have hssa : (s.setPocket p k).ssa = s.ssa := rfl
  unfold State.heatPermit
  rw [State.pocket_setPocket_self, hlock, hsense, hrun, hssa, h]

/-- Steps 1 and 2 of a second in HEAT (R13). -/
theorem State.secondOfHeat {s : State} {p : PocketId} (h : (s.pocket p).phase = .heat) :
    (s.accrueCredit p).countHeat p
      = s.setRun p { (s.pocket p).run with d := s.creditAfter p, h := s.heatAfter p } := by
  rw [State.accrueCredit_of_heat h, State.countHeat_of_heat (by simpa using h)]
  have hpermit : (s.setRun p { (s.pocket p).run with d := s.creditAfter p }).heatPermit p
      = s.heatPermit p := State.heatPermit_setPocket rfl
  simp only [State.heatAfter, hpermit, State.pocket_setRun_self]
  exact State.setRun_setRun s p _ _

/-- A second outside HEAT and COOL is the test of the window (R13). -/
theorem State.pocketSecond_of_other {s : State} {p : PocketId}
    (h : (s.pocket p).phase ∉ [.heat, .cool]) : s.pocketSecond p = s.windowTest p := by
  simp only [List.mem_cons, List.not_mem_nil, or_false, not_or] at h
  obtain ⟨hheat, hcool⟩ := h
  have hcredit : s.accrueCredit p = s := if_neg fun hc => hheat hc.1
  have hcount : s.countHeat p = s := if_neg fun hc => hheat hc.1
  have hguard : s.runLongGuard p = s := State.evaluateGuard_of_quiet (.inl hheat)
  have hstep : s.coolStep p = s := if_neg hcool
  have htarget : s.targetReached p = false := by simp [State.targetReached, beq_false_of_ne hheat]
  simp [State.pocketSecond, hcredit, hcount, hguard, hstep, htarget]

/-! ### The anti-crease window (R59) -/

theorem State.windowTest_of_other {s : State} {p : PocketId}
    (h : (s.pocket p).phase ∉ [.acRest, .acBurst]) : s.windowTest p = s := by
  simp only [List.mem_cons, List.not_mem_nil, or_false, not_or] at h
  obtain ⟨hrest, hburst⟩ := h
  unfold State.windowTest
  split
  · split
    · next hph => exact absurd hph hrest
    · next hph => exact absurd hph hburst
    · rfl
  · rfl

theorem State.windowOver_iff (s : State) (p : PocketId) : s.windowOver p = true ↔
    (s.pocket p).run.acStart.epoch ≠ s.bd.epoch
      ∨ (s.pocket p).run.window ≤ s.bd.clock - (s.pocket p).run.acStart.clock := by
  unfold State.windowOver
  by_cases h : (s.pocket p).run.acStart.epoch = s.bd.epoch
  · simp [h]
  · simp [h]

theorem State.windowTest_of_open {s : State} {p : PocketId} (h : s.windowOver p = false) :
    s.windowTest p = s := by
  simp [State.windowTest, h]

theorem State.windowTest_of_acRest {s : State} {p : PocketId} (h : s.windowOver p = true)
    (hphase : (s.pocket p).phase = .acRest) : s.windowTest p = s.enterPhase p .done := by
  simp [State.windowTest, h, hphase]

theorem State.windowTest_of_acBurst {s : State} {p : PocketId} (h : s.windowOver p = true)
    (hphase : (s.pocket p).phase = .acBurst) :
    s.windowTest p = s.setPocket p { s.pocket p with windowReached := true } := by
  simp [State.windowTest, h, hphase]

/-! ### The commands -/

section
variable {dt τ : Nat} {p : PocketId} {s : State}

theorem exec_pocketTimerExpiry_of_due (hrun : s.ss.power = .run)
    (ht : (s.pocket p).timers.second = some τ) (hdue : τ ≤ s.time + dt) :
    exec (.pocketTimerExpiry dt p) s
      = .next ((((s.advance dt).setPocket p { s.pocket p with
          timers := { (s.pocket p).timers with second := some (τ + 1000000) } }).pocketSecond
            p).arbitrate) := by
  have hinRun : (s.advance dt).inRun = true := beq_iff_eq.mpr hrun
  have hnow : due ((s.advance dt).pocket p).timers.second (s.advance dt).time = true :=
    due_of_le ht hdue
  refine congrArg Host.Outcome.next ((if_pos (by rw [hinRun, hnow]; rfl)).trans ?_)
  have hnext : ((s.advance dt).pocket p).timers.second.map (· + seconds 1) = some (τ + 1000000) :=
    congrArg (Option.map _) ht
  rw [hnext]
  rfl

theorem exec_periodicTimerExpiry_of_due (hrun : s.ss.power = .run)
    (ht : (s.pocket p).timers.periodic = some τ) (hdue : τ ≤ s.time + dt) :
    exec (.periodicTimerExpiry dt p) s
      = .next (((s.advance dt).setPocket p { s.pocket p with timers := { (s.pocket p).timers with
          periodic := some (s.time + dt + seconds s.cfg.period) } }).postRequest p .periodic) := by
  have hinRun : (s.advance dt).inRun = true := beq_iff_eq.mpr hrun
  have hnow : due ((s.advance dt).pocket p).timers.periodic (s.advance dt).time = true :=
    due_of_le ht hdue
  exact congrArg Host.Outcome.next (if_pos (by rw [hinRun, hnow]; rfl))

end

end Sys2Proof.Machine

open Sys2Proof Sys2Proof.Machine

/-- Settles O44: outside HEAT and COOL a second is the test of the window. -/
theorem windowsAndCheckpointsAreTimed : Obligations.WindowsAndCheckpointsAreTimed := by
  refine ⟨fun dt p τ s hrun hslot ht hdue => ?_, fun dt p τ s hrun ht hdue => ?_⟩
  · intro k k' reached
    obtain ⟨u, hu⟩ : ∃ u, u = (s.advance dt).setPocket p k' := ⟨_, rfl⟩
    have hexec : exec (.pocketTimerExpiry dt p) s = .next ((u.pocketSecond p).arbitrate) := by
      rw [hu]
      exact exec_pocketTimerExpiry_of_due hrun ht hdue
    have hpocket : u.pocket p = k' := by rw [hu, State.pocket_setPocket_self]
    have hidle : ∀ x, ((s.advance dt).setPocket p x).arbitrate = (s.advance dt).setPocket p x :=
      fun x => arbitrate_idle _ hslot
    have hover : u.windowOver p = true ↔ reached := by
      rw [State.windowOver_iff, hpocket, hu]
      rfl
    refine ⟨fun hphase hr => ?_, fun hphase hr => ?_, fun h => ?_⟩
    · have htest : u.pocketSecond p = u.enterPhase p .done := by
        rw [State.pocketSecond_of_other (by rw [hpocket, hphase]; decide),
          State.windowTest_of_acRest (hover.mpr hr) (by rw [hpocket]; exact hphase)]
      have hacts : ActsOn p (s.advance dt) (u.enterPhase p .done) := by
        rw [hu]
        exact ((ActsOn.refl p (s.advance dt)).setPocket (k := k') rfl rfl rfl).enterPhase _
      obtain ⟨hworld, hother, -⟩ := hacts.frame
      have hkept : (u.enterPhase p .done).arbitrate.pocket p = (u.enterPhase p .done).pocket p :=
        State.arbitrate_pocket_of_phase _ _ (by rw [State.phase_enterPhase]; decide)
      have hgone := State.without_arbitrate (State.without_enterPhase u p (ph := .done) rfl)
      rw [htest] at hexec
      refine ⟨_, hexec, hworld, hother, by rw [hkept, State.phase_enterPhase],
        by rw [hkept, State.run_enterPhase, hpocket], hgone.queued, ?_⟩
      rw [State.queue_arbitrate, State.queue_enterPhase, State.time_arbitrate, hu]
      rfl
    · rw [hexec, State.pocketSecond_of_other (by rw [hpocket, hphase]; decide),
        State.windowTest_of_acBurst (hover.mpr hr) (by rw [hpocket]; exact hphase), hpocket, hu,
        State.setPocket_setPocket, hidle]
      rfl
    · have htest : u.pocketSecond p = u := by
        rcases h with ⟨hphase, hopen⟩ | hphase
        · rw [State.pocketSecond_of_other, State.windowTest_of_open
            (Bool.eq_false_iff.mpr fun h => hopen (hover.mp h))]
          rw [hpocket]
          rcases hphase with h | h <;> rw [show k'.phase = _ from h] <;> decide
        · have hother : k'.phase ∉ [.heat, .cool] ∧ k'.phase ∉ [.acRest, .acBurst] := by
            change k.phase ∉ _ ∧ k.phase ∉ _
            revert hphase
            cases k.phase <;> simp
          rw [State.pocketSecond_of_other (by rw [hpocket]; exact hother.1),
            State.windowTest_of_other (by rw [hpocket]; exact hother.2)]
      rw [hexec, htest, hu, hidle]
      rfl
  · rw [exec_periodicTimerExpiry_of_due hrun ht hdue]
    rw [State.postRequest_periodic]
    rfl
end

section
/-! The second of a cooling pocket and of a heating one (R11 to R17, R81). -/

namespace Sys2Proof.Machine

/-! ### The second of COOL (R15, R16) -/

/-- c after one second of COOL (R15). -/
def State.coolAfter (s : State) (p : PocketId) : Nat :=
  if (s.sense p).turning then min 65535 ((s.pocket p).run.c + 1) else (s.pocket p).run.c

theorem State.countCool_eq (s : State) (p : PocketId) :
    s.countCool p = s.setRun p { (s.pocket p).run with c := s.coolAfter p } := by
  unfold State.countCool State.coolAfter
  dsimp only
  split
  · rfl
  · exact (State.setRun_run s p).symm

theorem State.coolNormalEnd_iff (s : State) (p : PocketId) : s.coolNormalEnd p = true ↔
    (s.pocket p).run.coolTarget ≤ (s.pocket p).run.c
      ∧ ((s.pocket p).faults.sensor = true
        ∨ ∃ th, (s.sense p).theta = some th ∧ th ≤ (s.pocket p).run.thetaX) := by
  unfold State.coolNormalEnd
  cases (s.sense p).theta <;> simp

theorem State.coolEndTest_of_open {s : State} {p : PocketId} (h : ¬ s.coolNormalEnd p = true)
    (hc : (s.pocket p).run.c < (s.pocket p).run.copies.cmax) : s.coolEndTest p = s := by
  unfold State.coolEndTest
  dsimp only
  rw [if_neg h, if_neg (by omega)]

/-- Where cooling ends, it ends after a post at most (R16). -/
theorem State.coolEndTest_of_over {s : State} {p : PocketId}
    (h : s.coolNormalEnd p = true ∨ (s.pocket p).run.copies.cmax ≤ (s.pocket p).run.c) :
    ∃ l, s.coolEndTest p = { s with ml := l }.endCool p := by
  unfold State.coolEndTest
  dsimp only
  split
  · exact ⟨s.ml, rfl⟩
  · next hnormal => exact ⟨_, if_pos (h.resolve_left hnormal)⟩

/-- A second of COOL (R13). -/
theorem State.pocketSecond_of_cool {s : State} {p : PocketId} (h : (s.pocket p).phase = .cool) :
    s.pocketSecond p
      = ((s.setRun p { (s.pocket p).run with c := s.coolAfter p }).coolEndTest p).windowTest p := by
  have hcredit : s.accrueCredit p = s := if_neg (by simp [h])
  have hcount : s.countHeat p = s := if_neg (by simp [h])
  have hguard : s.runLongGuard p = s := State.evaluateGuard_of_quiet (.inl (by simp [h]))
  have hstep : s.coolStep p = (s.countCool p).coolEndTest p := if_pos h
  have htarget : s.targetReached p = false := by simp [State.targetReached, h]
  rw [State.countCool_eq] at hstep
  simp [State.pocketSecond, hcredit, hcount, hguard, hstep, htarget]

/-! ### The end of cooling (R17) -/

/-- The state at the entry into AC_REST that ends cooling. -/
def State.resting (s : State) (p : PocketId) : State :=
  ((s.setRun p { (s.pocket p).run with acStart := s.bd.stamp }).enterAcRest p).postRequest p .phase

theorem State.time_resting (s : State) (p : PocketId) : (s.resting p).time = s.time := rfl

theorem State.resting_leaves (s : State) (p : PocketId) :
    ((s.resting p).pocket p).phase = .acRest
      ∧ ((s.resting p).pocket p).run
        = { (s.pocket p).run with target := .antiCrease, acStart := ⟨s.bd.clock, s.bd.epoch⟩ }
      ∧ ((s.resting p).pocket p).faults = (s.pocket p).faults
      ∧ (∀ g, ((s.resting p).pocket p).tripped g = (s.pocket p).tripped g)
      ∧ ((s.resting p).pocket p).timers.rest = some (s.time + (s.pocket p).run.rest * 1000000)
      ∧ (s.resting p).jc.queue = enqueue s.jc.queue p .phase s.time
      ∧ (s.resting p).ssa.Without p := by
  have hself : (s.resting p).pocket p = _ := State.pocket_postRequest_self _ p .phase
  have hpocket : ((s.setRun p { (s.pocket p).run with acStart := s.bd.stamp }).enterAcRest p).pocket p
      = _ := State.pocket_setPocket_self _ p _
  rw [hpocket, State.pocket_changePhase_self, State.pocket_setRun_self] at hself
  rw [hself]
  refine ⟨rfl, rfl, rfl, fun g => by cases g <;> rfl, ?_, rfl, ?_⟩
  · simp [Pocket.move, Phase.running, RecordKind.restartsPeriodic, seconds, State.enterAcRest]
  · exact Arbiter.without_leave s.ssa p _ (new := .acRest) rfl

theorem State.windowOver_resting (s : State) (p : PocketId) :
    (s.resting p).windowOver p = true ↔ (s.pocket p).run.window = 0 := by
  obtain ⟨-, hrun, -⟩ := s.resting_leaves p
  have hbd : (s.resting p).bd = s.bd := rfl
  rw [State.windowOver_iff, hrun, hbd]
  simp

/-- From s to t cooling ended by the cool exit (R17), and the window was tested (R59). -/
structure CooledOff (p : PocketId) (s t : State) : Prop where
  done : (s.pocket p).run.coolExit = .done →
    (t.pocket p).phase = .done ∧ (t.pocket p).run = (s.pocket p).run
  held : (s.pocket p).run.coolExit = .faultHold →
    (t.pocket p).phase = .faultHold ∧ (t.pocket p).run = (s.pocket p).run
  antiCrease : (s.pocket p).run.coolExit = .antiCrease →
    (t.pocket p).run
      = { (s.pocket p).run with target := .antiCrease, acStart := ⟨s.bd.clock, s.bd.epoch⟩ }
  rests : (s.pocket p).run.coolExit = .antiCrease → 0 < (s.pocket p).run.window →
    (t.pocket p).phase = .acRest
      ∧ (t.pocket p).timers.rest = some (t.time + (s.pocket p).run.rest * 1000000)
  left : (t.pocket p).phase ∉ [.heat, .cool]
  faults : (t.pocket p).faults = (s.pocket p).faults
  marks : ∀ g, (t.pocket p).tripped g = (s.pocket p).tripped g
  queue : t.jc.queue = enqueue s.jc.queue p .phase t.time

theorem State.faults_enterPhase (s : State) (p : PocketId) (ph : Phase) :
    ((s.enterPhase p ph).pocket p).faults = (s.pocket p).faults := by
  simp [State.pocket_enterPhase_self, Pocket.move]

theorem State.tripped_enterPhase (s : State) (p : PocketId) (ph : Phase) (g : Guard) :
    ((s.enterPhase p ph).pocket p).tripped g = (s.pocket p).tripped g := by
  cases g <;> simp [State.pocket_enterPhase_self, Pocket.move, Pocket.tripped]

/-- The end of cooling in DONE or FAULT_HOLD: nothing follows it. -/
theorem State.arbitrate_enterPhase_closed (s : State) (p : PocketId) {ph : Phase}
    (hdrops : ph.dropsMotor = true) :
    (s.enterPhase p ph).arbitrate.pocket p = (s.enterPhase p ph).pocket p
      ∧ (s.enterPhase p ph).arbitrate.jc.queue
        = enqueue s.jc.queue p .phase (s.enterPhase p ph).arbitrate.time := by
  refine ⟨State.arbitrate_pocket_of_without (State.without_enterPhase s p hdrops), ?_⟩
  rw [State.queue_arbitrate, State.time_arbitrate]
  rfl

theorem State.windowTest_enterPhase (s : State) (p : PocketId) {ph : Phase}
    (h : ph ∉ [.acRest, .acBurst]) : (s.enterPhase p ph).windowTest p = s.enterPhase p ph :=
  State.windowTest_of_other (by rwa [State.phase_enterPhase])

theorem CooledOff.of_done {p : PocketId} {s : State} (h : (s.pocket p).run.coolExit = .done) :
    CooledOff p s (s.enterPhase p .done).arbitrate := by
  obtain ⟨hself, hqueue⟩ := State.arbitrate_enterPhase_closed s p (ph := .done) rfl
  refine ⟨fun _ => ?_, fun hx => ?_, fun hx => ?_, fun hx => ?_, ?_, ?_, fun g => ?_, hqueue⟩
  · rw [hself]
    exact ⟨State.phase_enterPhase _ _ _, State.run_enterPhase _ _ _⟩
  · rw [h] at hx; cases hx
  · rw [h] at hx; cases hx
  · rw [h] at hx; cases hx
  · rw [hself, State.phase_enterPhase]; decide
  · rw [hself, State.faults_enterPhase]
  · rw [hself, State.tripped_enterPhase]

theorem CooledOff.of_held {p : PocketId} {s : State} (h : (s.pocket p).run.coolExit = .faultHold) :
    CooledOff p s (s.enterPhase p .faultHold).arbitrate := by
  obtain ⟨hself, hqueue⟩ := State.arbitrate_enterPhase_closed s p (ph := .faultHold) rfl
  refine ⟨fun hx => ?_, fun _ => ?_, fun hx => ?_, fun hx => ?_, ?_, ?_, fun g => ?_, hqueue⟩
  · rw [h] at hx; cases hx
  · rw [hself]
    exact ⟨State.phase_enterPhase _ _ _, State.run_enterPhase _ _ _⟩
  · rw [h] at hx; cases hx
  · rw [h] at hx; cases hx
  · rw [hself, State.phase_enterPhase]; decide
  · rw [hself, State.faults_enterPhase]
  · rw [hself, State.tripped_enterPhase]

/-- With an open window the pocket rests. -/
theorem CooledOff.of_resting {p : PocketId} {s : State} (h : (s.pocket p).run.coolExit = .antiCrease) :
    CooledOff p s (s.resting p).arbitrate := by
  obtain ⟨hphase, hrun, hfaults, hmarks, hrest, hqueue, hwithout⟩ := s.resting_leaves p
  have hself := State.arbitrate_pocket_of_without hwithout
  refine ⟨fun hx => ?_, fun hx => ?_, fun _ => ?_, fun _ _ => ?_, ?_, ?_, fun g => ?_, ?_⟩
  · rw [h] at hx; cases hx
  · rw [h] at hx; cases hx
  · rw [hself, hrun]
  · rw [hself, State.time_arbitrate]
    exact ⟨hphase, hrest⟩
  · rw [hself, hphase]; decide
  · rw [hself, hfaults]
  · rw [hself, hmarks]
  · rw [State.queue_arbitrate, State.time_arbitrate, hqueue]
    rfl

/-- With a window of 0 the pocket is done in the same second. -/
theorem CooledOff.of_passed {p : PocketId} {s : State} (h : (s.pocket p).run.coolExit = .antiCrease)
    (hwindow : (s.pocket p).run.window = 0) :
    CooledOff p s ((s.resting p).enterPhase p .done).arbitrate := by
  obtain ⟨-, hrun, hfaults, hmarks, -, hposted, -⟩ := s.resting_leaves p
  obtain ⟨hself, hqueue⟩ := State.arbitrate_enterPhase_closed (s.resting p) p (ph := .done) rfl
  refine ⟨fun hx => ?_, fun hx => ?_, fun _ => ?_, fun _ hx => ?_, ?_, ?_, fun g => ?_, ?_⟩
  · rw [h] at hx; cases hx
  · rw [h] at hx; cases hx
  · rw [hself, State.run_enterPhase, hrun]
  · omega
  · rw [hself, State.phase_enterPhase]; decide
  · rw [hself, State.faults_enterPhase, hfaults]
  · rw [hself, State.tripped_enterPhase, hmarks]
  · have hnow : ((s.resting p).enterPhase p .done).arbitrate.time = s.time :=
      (State.time_arbitrate _).trans (((ActsOn.refl p (s.resting p)).enterPhase .done).time.trans
        (State.time_resting s p))
    rw [hqueue, hposted, hnow, enqueue_enqueue]

/-- Cooling ends and the window is tested (R17, R59), and a grant may follow. -/
theorem State.endCool_cooledOff (s : State) (p : PocketId) :
    CooledOff p s ((s.endCool p).windowTest p).arbitrate := by
  cases hexit : (s.pocket p).run.coolExit with
  | done =>
    have hend : s.endCool p = s.enterPhase p .done := by simp [State.endCool, hexit]
    rw [hend, State.windowTest_enterPhase s p (by decide)]
    exact CooledOff.of_done hexit
  | faultHold =>
    have hend : s.endCool p = s.enterPhase p .faultHold := by simp [State.endCool, hexit]
    rw [hend, State.windowTest_enterPhase s p (by decide)]
    exact CooledOff.of_held hexit
  | antiCrease =>
    have hend : s.endCool p = s.resting p := by simp [State.endCool, hexit, State.resting]
    rw [hend]
    by_cases hwindow : (s.pocket p).run.window = 0
    · obtain ⟨hphase, -⟩ := s.resting_leaves p
      rw [State.windowTest_of_acRest ((s.windowOver_resting p).mpr hwindow) hphase]
      exact CooledOff.of_passed hexit hwindow
    · rw [State.windowTest_of_open
        (Bool.eq_false_iff.mpr fun h => hwindow ((s.windowOver_resting p).mp h))]
      exact CooledOff.of_resting hexit

/-! ### The second of HEAT (R13) -/

/-- The pocket timer runs on from the end of heat into COOL (R2). -/
theorem State.second_endHeat {s : State} {p : PocketId} (h : (s.pocket p).phase.heating = true)
    (c : HeatCause) (hold : Bool) :
    ((s.endHeat p c hold).pocket p).timers.second = (s.pocket p).timers.second := by
  have hrunning : (s.pocket p).phase.running = true := by
    revert h
    cases (s.pocket p).phase <;> simp [Phase.heating, Phase.running]
  have hcool : Phase.cool.running = true := rfl
  unfold State.endHeat
  dsimp only
  rw [if_pos h]
  simp [State.pocket_enterPhase_self, Pocket.move, PocketTimers.move, hrunning, hcool]

theorem State.second_guardTrip {s : State} {p : PocketId} (h : (s.pocket p).phase.heating = true)
    (g : Guard) : ((s.guardTrip p g).pocket p).timers.second = (s.pocket p).timers.second := by
  have htrip : ((s.pocket p).trip g).timers = (s.pocket p).timers := by cases g <;> rfl
  unfold State.guardTrip
  dsimp only
  split
  · simp [htrip]
  · rw [State.second_endHeat (by simpa using h)]
    simp [htrip]
  · rw [State.second_endHeat (by simpa using h)]
    simp [htrip]

theorem State.setRun_setPocket (s : State) (p : PocketId) (k : Pocket) (r : RunRecord) :
    (s.setPocket p k).setRun p r = s.setPocket p { k with run := r } := by
  cases p <;> rfl

theorem State.targetReached_iff {s : State} {p : PocketId} (h : (s.pocket p).phase = .heat) :
    s.targetReached p = true ↔ (s.pocket p).run.d = (s.pocket p).run.t := by
  simp [State.targetReached, h]

/-- Outside COOL and the anti-crease phases steps 5 and 6 do nothing. -/
theorem State.coolStep_of_heat {s : State} {p : PocketId} (h : (s.pocket p).phase = .heat) :
    (s.coolStep p).windowTest p = s := by
  have hstep : s.coolStep p = s := if_neg (by simp [h])
  rw [hstep, State.windowTest_of_other (by rw [h]; decide)]

/-- Cooling begins in the second in which a guard ends heat (R13, log 23). -/
structure GuardCools (p : PocketId) (g : Guard) (s t : State) : Prop where
  marks : (t.pocket p).tripped g = true
  faults : (t.pocket p).faults = if s.cfg.guardAction p g = .hold then
    { (s.pocket p).faults with guardHold := true } else (s.pocket p).faults
  cause : (t.pocket p).run.cause = .guard
  credit : (t.pocket p).run.d = (s.pocket p).run.d ∧ (t.pocket p).run.h = (s.pocket p).run.h
  second : (t.pocket p).phase ∈ [.heat, .cool] →
    (t.pocket p).timers.second = (s.pocket p).timers.second
  cools : 1 < (s.pocket p).run.coolTarget → 1 < (s.pocket p).run.copies.cmax →
    (t.pocket p).phase = .cool
      ∧ (t.pocket p).run = { (s.pocket p).run.endHeat .guard
          (decide (s.cfg.guardAction p g = .hold)) with
        c := if (s.sense p).lastPulse.isSome then 1 else 0 }

theorem State.guardTrip_cools {s : State} {p : PocketId} {g : Guard}
    (hphase : (s.pocket p).phase = .heat) (h : s.cfg.guardAction p g ≠ .report) :
    GuardCools p g s ((((s.guardTrip p g).coolStep p).windowTest p).arbitrate) := by
  obtain ⟨hcool, hmark, hrun, hfaults⟩ := State.guardTrip_of_ending hphase h
  have hsecond := State.second_guardTrip (s := s) (p := p) (by rw [hphase]; rfl) g
  have hsense := (((ActsOn.refl p s).guardTrip g).sense p)
  generalize s.guardTrip p g = x at hcool hmark hrun hfaults hsecond hsense ⊢
  have hcount : x.coolAfter p = if (s.sense p).lastPulse.isSome then 1 else 0 := by
    unfold State.coolAfter Sensing.turning
    rw [hsense, hrun]
    rfl
  obtain ⟨y, hy⟩ : ∃ y, y = x.setRun p { (x.pocket p).run with c := x.coolAfter p } := ⟨_, rfl⟩
  have hstep : x.coolStep p = y.coolEndTest p := by
    rw [hy, ← State.countCool_eq]
    exact if_pos hcool
  have hself : y.pocket p = { x.pocket p with run := { (x.pocket p).run with c := x.coolAfter p } } := by
    rw [hy, State.pocket_setRun_self]
  rw [hstep]
  by_cases hover : y.coolNormalEnd p = true ∨ (y.pocket p).run.copies.cmax ≤ (y.pocket p).run.c
  · obtain ⟨l, hl⟩ := State.coolEndTest_of_over hover
    have hoff := ({ y with ml := l } : State).endCool_cooledOff p
    rw [← hl] at hoff
    generalize ((y.coolEndTest p).windowTest p).arbitrate = t at hoff ⊢
    have hlink : ({ y with ml := l } : State).pocket p = y.pocket p := rfl
    obtain ⟨hdone, hheld, hanti, -, hleft, hkept, hmarks, -⟩ := hoff
    rw [hlink] at hdone hheld hanti hkept hmarks
    have hcredit : (t.pocket p).run.cause = (y.pocket p).run.cause
        ∧ (t.pocket p).run.d = (y.pocket p).run.d ∧ (t.pocket p).run.h = (y.pocket p).run.h := by
      cases hexit : (y.pocket p).run.coolExit with
      | done => rw [(hdone hexit).2]; exact ⟨rfl, rfl, rfl⟩
      | faultHold => rw [(hheld hexit).2]; exact ⟨rfl, rfl, rfl⟩
      | antiCrease => rw [hanti hexit]; exact ⟨rfl, rfl, rfl⟩
    rw [hself, hrun] at hcredit
    refine ⟨(hmarks g).trans (by rw [hself]; exact hmark), ?_, hcredit.1, hcredit.2,
      fun hin => absurd hin hleft, fun htarget hmax => ?_⟩
    · rw [hkept, hself]
      simpa using hfaults
    · have hsoon : (y.pocket p).run.c ≤ 1 := by
        rw [hself]
        change x.coolAfter p ≤ 1
        rw [hcount]
        split <;> omega
      have hbounds : (y.pocket p).run.coolTarget = (s.pocket p).run.coolTarget
          ∧ (y.pocket p).run.copies = (s.pocket p).run.copies := by
        rw [hself, hrun]
        exact ⟨rfl, rfl⟩
      rw [State.coolNormalEnd_iff, hbounds.1, hbounds.2] at hover
      rcases hover with ⟨h, -⟩ | h <;> omega
  · rw [not_or] at hover
    have hopen := State.coolEndTest_of_open hover.1 (not_le.mp hover.2)
    have hyphase : (y.pocket p).phase = .cool := by rw [hself]; exact hcool
    have hkept : y.arbitrate.pocket p = y.pocket p :=
      State.arbitrate_pocket_of_phase y p (by rw [hyphase]; decide)
    rw [hopen, State.windowTest_of_other (by rw [hyphase]; decide)]
    rw [hself] at hkept
    refine ⟨?_, ?_, ?_, ?_, fun _ => ?_, fun _ _ => ⟨?_, ?_⟩⟩ <;> rw [hkept]
    · exact hmark
    · simpa using hfaults
    · rw [hrun]; rfl
    · rw [hrun]; exact ⟨rfl, rfl⟩
    · exact hsecond
    · exact hcool
    · rw [hrun, hcount]

end Sys2Proof.Machine

open Sys2Proof Sys2Proof.Machine

/-- Settles O43. -/
theorem pocketSecondsEndCooling : Obligations.PocketSecondsEndCooling := by
  intro dt p τ s hrun hphase ht hdue k c' normalEnd
  let k' : Pocket := { k with timers := { k.timers with second := some (τ + 1000000) } }
  obtain ⟨u, hu⟩ : ∃ u, u = (s.advance dt).setPocket p k' := ⟨_, rfl⟩
  have hexec : exec (.pocketTimerExpiry dt p) s = .next ((u.pocketSecond p).arbitrate) := by
    rw [hu]
    exact exec_pocketTimerExpiry_of_due hrun ht hdue
  have hpocket : u.pocket p = k' := by rw [hu, State.pocket_setPocket_self]
  have hcount : u.coolAfter p = c' := by
    unfold State.coolAfter
    rw [hpocket, hu]
    rfl
  obtain ⟨v, hv⟩ : ∃ v, v = u.setRun p { (u.pocket p).run with c := u.coolAfter p } := ⟨_, rfl⟩
  have hself : v.pocket p = { k' with run := { k.run with c := c' } } := by
    rw [hv, State.pocket_setRun_self, hcount, hpocket]
  have hsecond : u.pocketSecond p = (v.coolEndTest p).windowTest p := by
    rw [hv]
    exact State.pocketSecond_of_cool (by rw [hpocket]; exact hphase)
  have hacts : ActsOn p (s.advance dt) ((v.coolEndTest p).windowTest p) := by
    rw [hv, hu]
    exact (((ActsOn.refl p (s.advance dt)).setPocket (k := k') rfl rfl rfl).setRun (by simp) (by simp)
      (by simp)).coolEndTest.windowTest
  obtain ⟨hworld, hother, hplans⟩ := hacts.frame
  have hnormal : v.coolNormalEnd p = true ↔ normalEnd := by
    rw [State.coolNormalEnd_iff, hself, hv, hu]
    rfl
  rw [hsecond] at hexec
  refine ⟨_, hexec, hworld, hother, hplans, ?_⟩
  by_cases hover : normalEnd ∨ k.run.copies.cmax ≤ c'
  · obtain ⟨l, hl⟩ := State.coolEndTest_of_over (s := v) (p := p)
      (hover.imp hnormal.mpr fun h => by rw [hself]; exact h)
    have hoff := ({ v with ml := l } : State).endCool_cooledOff p
    rw [← hl] at hoff
    obtain ⟨hdone, hheld, hanti, hrests, -, hfaults, -, hqueue⟩ := hoff
    have hlink : ({ v with ml := l } : State).pocket p = { k' with run := { k.run with c := c' } } := hself
    rw [hlink] at hdone hheld hanti hrests hfaults
    refine ⟨hfaults, fun h hc => absurd hover (by rw [not_or]; exact ⟨h, by omega⟩), fun _ => ⟨?_, hdone,
      hheld, fun h hw => ?_⟩⟩
    · rw [hqueue, hv, hu]
      rfl
    · obtain ⟨hphase, hrest⟩ := hrests h hw
      refine ⟨hphase, hrest, ?_⟩
      rw [hanti h, hv, hu]
      rfl
  · have hopen := State.coolEndTest_of_open (s := v) (p := p)
      (fun h => hover (.inl (hnormal.mp h))) (by rw [hself]; exact not_le.mp fun h => hover (.inr h))
    have hkept : (v.coolEndTest p).windowTest p = v := by
      rw [hopen, State.windowTest_of_other]
      rw [hself]
      change k.phase ∉ _
      rw [hphase]
      decide
    rw [hkept, State.arbitrate_pocket_of_phase v p (by
      rw [hself]
      change k.phase ∉ _
      rw [hphase]
      decide), hself]
    refine ⟨rfl, fun _ _ => ⟨hphase, rfl, ?_⟩, fun h => absurd h hover⟩
    rw [State.queue_arbitrate, hv, hu]
    rfl

/-- Settles O42: steps 1 and 2 of R13 give the state that step 3 tests; then heat ends at the target, or
the guard is evaluated. -/
theorem pocketSecondsAccrueCredit : Obligations.PocketSecondsAccrueCredit := by
  intro dt p τ s hrun hphase ht hdue k d' h' c'
  let k' : Pocket := { k with timers := { k.timers with second := some (τ + 1000000) } }
  obtain ⟨u, hu⟩ : ∃ u, u = (s.advance dt).setPocket p k' := ⟨_, rfl⟩
  obtain ⟨w, hw⟩ : ∃ w, w = (s.advance dt).setPocket p { k' with run := { k.run with d := d', h := h' } } :=
    ⟨_, rfl⟩
  have hexec : exec (.pocketTimerExpiry dt p) s = .next ((u.pocketSecond p).arbitrate) := by
    rw [hu]
    exact exec_pocketTimerExpiry_of_due hrun ht hdue
  have hpocket : u.pocket p = k' := by rw [hu, State.pocket_setPocket_self]
  have hself : w.pocket p = { k' with run := { k.run with d := d', h := h' } } := by
    rw [hw, State.pocket_setPocket_self]
  have hcredit : u.creditAfter p = d' := by
    unfold State.creditAfter
    rw [hpocket, hu]
    cases hstage : k.run.stage <;> simp only [k', hstage, d'] <;> rfl
  have hheat : u.heatAfter p = h' := by
    unfold State.heatAfter
    rw [hpocket, hu, State.heatPermit_setPocket (s := s.advance dt) (k := k') rfl]
    rfl
  have hcounted : (u.accrueCredit p).countHeat p = w := by
    rw [State.secondOfHeat (by rw [hpocket]; exact hphase), hcredit, hheat, hpocket, hw, hu]
    exact State.setRun_setPocket _ _ _ _
  have hwphase : (w.pocket p).phase = .heat := by rw [hself]; exact hphase
  have hreached := State.targetReached_iff hwphase
  rw [hself] at hreached
  have hsecond : u.pocketSecond p = if w.targetReached p then (w.endHeat p .target false).windowTest p
      else ((w.runLongGuard p).coolStep p).windowTest p := by
    rw [← hcounted]
    rfl
  have hacts : ActsOn p w (u.pocketSecond p) := by
    rw [hsecond]
    split
    · exact ((ActsOn.refl p w).endHeat _ _).windowTest
    · exact (ActsOn.refl p w).runLongGuard.coolStep.windowTest
  have hqueues : KeepsQueues w (u.pocketSecond p) := by
    rw [hsecond]
    split
    · exact ((KeepsQueues.refl w).endHeat _ _).windowTest
    · exact ((KeepsQueues.refl w).evaluateGuard _ _).coolStep.windowTest
  have hline := hacts.keepsLine hqueues
  have hframe := hacts.frame
  have hwtime : w.time = s.time + dt := by rw [hw]; rfl
  have hwqueue : w.jc.queue = s.jc.queue := by rw [hw]; rfl
  have hwcfg : w.cfg = s.cfg := by rw [hw]; rfl
  rw [hw] at hline hframe
  obtain ⟨hworld, hother, hplans⟩ := actsOnPocket_of_setPocket hframe
  refine ⟨_, hexec, hworld, hother, hline, hplans, ?_⟩
  by_cases hend : d' = k.run.t
  · rw [if_pos (hreached.mpr hend)] at hsecond
    have hheating : (w.pocket p).phase.heating = true := by rw [hwphase]; rfl
    have hcool : ((w.endHeat p .target false).pocket p).phase = .cool := by
      rw [State.phase_endHeat, if_pos hheating]
    rw [hsecond, State.windowTest_of_other (by rw [hcool]; decide)]
    have hkept : (w.endHeat p .target false).arbitrate.pocket p = (w.endHeat p .target false).pocket p :=
      State.arbitrate_pocket_of_phase _ _ (by rw [hcool]; decide)
    rw [hkept]
    refine ⟨fun _ => ?_, fun _ => ⟨hcool, ?_, ?_⟩, fun h => absurd hend h, fun h => absurd hend h⟩
    · rw [State.second_endHeat hheating, hself]
    · rw [State.queue_arbitrate, State.time_arbitrate, State.queue_endHeat, if_pos hheating,
        State.time_endHeat, hwqueue]
    · rw [State.run_endHeat, hself]
      rfl
  · rw [if_neg fun h => hend (hreached.mp h)] at hsecond
    have hguard : w.runLongGuard p
        = w.evaluateGuard p .runLong (decide (s.cfg.runLongLimit p ≤ h')) := by
      rw [State.runLongGuard, hself, hwcfg]
    have hidle : ∀ v : State, (v.pocket p).phase = .heat →
        (((v.coolStep p).windowTest p).arbitrate.pocket p = v.pocket p
          ∧ ((v.coolStep p).windowTest p).arbitrate.jc.queue = v.jc.queue) := by
      intro v hv
      rw [State.coolStep_of_heat hv]
      exact ⟨State.arbitrate_pocket_of_phase v p (by rw [hv]; decide), State.queue_arbitrate v⟩
    by_cases htrip : s.cfg.runLongLimit p ≤ h' ∧ k.runLongTripped = false
    · have htripped : w.runLongGuard p = w.guardTrip p .runLong := by
        rw [hguard, decide_eq_true htrip.1]
        exact State.evaluateGuard_of_reached hwphase (by rw [hself]; exact htrip.2)
      rw [htripped] at hsecond
      have hnone : ¬ (h' < s.cfg.runLongLimit p ∨ k.runLongTripped = true) := by
        rintro (h | h)
        · omega
        · exact Bool.noConfusion (htrip.2.symm.trans h)
      have hends := State.guardTrip_cools (g := .runLong) hwphase
      have hreport := State.guardTrip_of_report (s := w) (p := p) (g := .runLong)
      rw [hwcfg] at hends hreport
      rw [hsecond]
      cases haction : s.cfg.guardAction p .runLong with
      | report =>
        obtain ⟨hmarked, -, -⟩ := hreport haction
        obtain ⟨hkept, -⟩ := hidle (w.guardTrip p .runLong) (by
          rw [hmarked, Pocket.phase_trip]
          exact hwphase)
        rw [hkept, hmarked, hself]
        exact ⟨fun _ => rfl, fun h => absurd h hend, fun _ h => absurd h hnone,
          fun _ _ _ => ⟨rfl, hphase, rfl⟩⟩
      | endHeat | hold =>
        obtain ⟨hmark, hfaults, hcause, hcredits, hsec, hcools⟩ := hends (by rw [haction]; decide)
        rw [hwcfg, haction] at hfaults hcools
        rw [hself] at hfaults hcredits hsec hcools
        refine ⟨hsec, fun h => absurd h hend, fun _ h => absurd h hnone,
          fun _ _ _ => ⟨hmark, hfaults, ?_, fun htarget hmax => ⟨(hcools htarget hmax).1, ?_⟩⟩⟩
        · obtain ⟨hd, hh⟩ := hcredits
          generalize (State.pocket _ p).run = r at hcause hd hh ⊢
          change r.d = d' at hd
          change r.h = h' at hh
          rw [← hcause, ← hd, ← hh]
        · rw [(hcools htarget hmax).2, hw]
          rfl
    · have hquiet : w.runLongGuard p = w := by
        rw [hguard]
        refine State.evaluateGuard_of_quiet ?_
        rw [hself]
        rcases not_and_or.mp htrip with h | h
        · exact .inr (.inr (decide_eq_false h))
        · exact .inr (.inl ((Bool.not_eq_false _).mp h))
      rw [hquiet] at hsecond
      obtain ⟨hkept, hqueue⟩ := hidle w hwphase
      rw [hsecond, hkept, hqueue, hwqueue, hself]
      refine ⟨fun _ => rfl, fun h => absurd h hend, fun _ _ => ⟨rfl, rfl⟩,
        fun _ hlimit hclear => absurd ⟨hlimit, hclear⟩ htrip⟩
end

section
/-! Blocked vents (R52, R66, R77), the purge and the ignition trials (R65 to R71). -/

namespace Sys2Proof.Machine

/-! ### An expiry in RUN -/

/-- A command of a pocket's timer that runs in RUN and has reached its instant. -/
theorem next_of_due {s a b : State} {dt τ : Nat} {timer : Option Nat} (hrun : s.ss.power = .run)
    (ht : timer = some τ) (hdue : τ ≤ s.time + dt) :
    (Host.Outcome.next (if (s.advance dt).inRun && due timer (s.advance dt).time then a else b)
      : Host.Outcome State Fault Refusal) = .next a := by
  have hinRun : (s.advance dt).inRun = true := beq_iff_eq.mpr hrun
  rw [hinRun, due_of_le ht (show τ ≤ (s.advance dt).time from hdue)]
  rfl

section
variable {dt τ : Nat} {p : PocketId} {s : State}

theorem exec_airflowGraceExpiry_of_due (hrun : s.ss.power = .run)
    (ht : (s.pocket p).timers.airflowGrace = some τ) (hdue : τ ≤ s.time + dt) :
    exec (.airflowGraceExpiry dt p) s = .next ((s.advance dt).spinupVent p).arbitrate :=
  next_of_due hrun ht hdue

theorem exec_heatGraceExpiry_of_due (hrun : s.ss.power = .run)
    (ht : (s.pocket p).timers.heatGrace = some τ) (hdue : τ ≤ s.time + dt) :
    exec (.heatGraceExpiry dt p) s = .next ((s.advance dt).ventBlocked p).arbitrate :=
  next_of_due hrun ht hdue

theorem exec_purgeTimerExpiry_of_due (hrun : s.ss.power = .run)
    (ht : (s.pocket p).timers.purge = some τ) (hdue : τ ≤ s.time + dt) :
    exec (.purgeTimerExpiry dt p) s = .next ((s.advance dt).enterIgnition p).arbitrate :=
  next_of_due hrun ht hdue

theorem exec_ignitionTrialExpiry_of_due (hrun : s.ss.power = .run)
    (ht : (s.pocket p).timers.trial = some τ) (hdue : τ ≤ s.time + dt) :
    exec (.ignitionTrialExpiry dt p) s = .next ((s.advance dt).trialFailed p).arbitrate :=
  next_of_due hrun ht hdue

end

/-! ### Start requests -/

theorem Arbiter.mem_arrive (a : Arbiter) (r : StartRequest) : r ∈ (a.arrive r).queue := by
  unfold Arbiter.arrive
  split
  · next h => exact List.contains_iff_mem.mp h
  · simp

/-- A burst takes no heat start from the queue (R48). -/
theorem Arbiter.mem_leave_of_heatStart {a : Arbiter} {r : StartRequest} (h : r ∈ a.queue)
    (hr : r.kind = .heatStart) (q : PocketId) : r ∈ (a.leave q .acRest .acBurst).queue := by
  refine List.mem_filter.mpr ⟨h, ?_⟩
  simp [hr, Phase.dropsMotor]

theorem State.mem_takeGrant_of_heatStart {s : State} {r : StartRequest} (h : r ∈ s.ssa.queue)
    (hr : r.kind = .heatStart) (r' : StartRequest) : r ∈ (s.takeGrant r').ssa.queue := by
  unfold State.takeGrant
  dsimp only
  split
  · exact h
  · next hrest =>
    unfold State.startBurst
    change r ∈ (s.ssa.leave r'.pocket (s.pocket r'.pocket).phase .acBurst).queue
    rw [hrest]
    exact Arbiter.mem_leave_of_heatStart h hr _
  · split <;> exact h
  · exact h

/-- The slot of a grant outlives what the grant does. -/
theorem State.slot_takeGrant {s : State} {r : StartRequest} {g : Grant} (h : s.ssa.slot = some g)
    (hg : g.request = r) : (s.takeGrant r).ssa.slot = some g :=
  (takeGrant_keeps s r g h hg).slot.trans h

/-- A heat start that waits goes on to wait, or is granted. -/
theorem State.heatStart_arbitrate {s : State} {r : StartRequest} (h : r ∈ s.ssa.queue)
    (hr : r.kind = .heatStart) :
    r ∈ s.arbitrate.ssa.queue ∨ ∃ g, s.arbitrate.ssa.slot = some g ∧ g.request = r := by
  unfold State.arbitrate
  split
  · next r' rest _ _ hqueue =>
    rw [hqueue] at h
    rcases List.mem_cons.mp h with rfl | h
    · exact .inr ⟨_, State.slot_takeGrant rfl rfl, rfl⟩
    · exact .inl (State.mem_takeGrant_of_heatStart h hr r')
  · exact .inl h

/-! ### The way into IGNITION (R68) -/

/-- SENSOR ends heat at the door of IGNITION (R68). -/
theorem State.enterIgnition_of_sensor {s : State} {p : PocketId}
    (h : (s.pocket p).faults.sensor = true) :
    ((s.enterIgnition p).pocket p).phase = .cool
      ∧ ((s.enterIgnition p).pocket p).run
        = { (s.pocket p).run with cause := .sensor, target := .cool, c := 0 } := by
  have hself : (s.changePhase p .ignition).pocket p = _ := State.pocket_changePhase_self s p .ignition
  have hend : s.enterIgnition p = (s.changePhase p .ignition).endHeat p .sensor false := by
    refine if_pos ?_
    rw [hself]
    exact h
  rw [hend, State.phase_endHeat, State.run_endHeat, hself]
  exact ⟨rfl, rfl⟩

/-- A failing interlock set leads on to HEAT_WAIT (R68). -/
theorem State.enterIgnition_of_broken {s : State} {p : PocketId}
    (hsensor : (s.pocket p).faults.sensor = false) (h : s.interlock p = false) :
    ((s.enterIgnition p).pocket p).phase = .heatWait
      ∧ ((s.enterIgnition p).pocket p).run = (s.pocket p).run := by
  have hself : (s.changePhase p .ignition).pocket p = _ := State.pocket_changePhase_self s p .ignition
  have hlock : (s.changePhase p .ignition).interlock p = false := h
  have hwait : s.enterIgnition p = (s.changePhase p .ignition).enterHeatWait p := by
    refine (if_neg ?_).trans (if_neg (by rw [hlock]; decide))
    rw [hself]
    exact fun hs => Bool.noConfusion (hsensor.symm.trans hs)
  rw [hwait, State.pocket_enterHeatWait, hself]
  exact ⟨rfl, rfl⟩

/-- IGNITION is entered with its HEAT_START queued (R68). -/
theorem State.enterIgnition_of_ready {s : State} {p : PocketId}
    (hsensor : (s.pocket p).faults.sensor = false) (h : s.interlock p = true) :
    (s.enterIgnition p).pocket p = (s.pocket p).move .ignition s.time s.cfg.period
      ∧ (s.enterIgnition p).jc.queue = s.jc.queue
      ∧ (s.enterIgnition p).ssa = (s.ssa.leave p (s.pocket p).phase .ignition).arrive ⟨p, .heatStart⟩ := by
  rw [State.enterIgnition_of_interlock hsensor h]
  exact ⟨by simp, rfl, rfl⟩

theorem State.faults_towardHeat_of_ready {s : State} {p : PocketId}
    (hsensor : (s.pocket p).faults.sensor = false) (hset : s.interlock p = true) :
    ((s.towardHeat p).pocket p).faults = (s.pocket p).faults := by
  have hair : (s.sense p).airflow.level = true := by
    simp only [State.interlock, Bool.and_eq_true] at hset
    exact hset.1.1
  unfold State.towardHeat
  dsimp only
  split
  · rw [State.enterPurge_of_airflow hsensor hair]
    simp [Pocket.move]
  · rw [State.enterIgnition_of_interlock hsensor hset]
    simp [Pocket.move]

/-- A free slot with nothing waiting goes to the gas pocket at once, and its trial begins (R69). -/
theorem State.arbitrate_of_gasStart {s : State} {p : PocketId} (hrun : s.inRun = true)
    (hssa : s.ssa = ⟨none, [⟨p, .heatStart⟩]⟩) (hphase : (s.pocket p).phase = .ignition)
    (hgas : (s.pocket p).run.copies.heatKind = .gas) :
    s.arbitrate.ssa.slot = some ⟨⟨p, .heatStart⟩, s.time, none⟩
      ∧ (s.arbitrate.pocket p).timers.trial
        = some (s.time + (s.pocket p).run.copies.trial * 1000000) := by
  have hend : s.holdEnd ⟨p, .heatStart⟩ = none := by simp [State.holdEnd, hgas]
  have hgrant := State.arbitrate_of_waiting hrun (r := ⟨p, .heatStart⟩) (rest := [])
    (by rw [hssa]) (by rw [hssa])
  rw [hgrant, hend]
  generalize hv : ({ s with ssa := ⟨some ⟨⟨p, .heatStart⟩, s.time, none⟩, []⟩ } : State) = v
  have hself : v.pocket p = s.pocket p := by rw [← hv]; rfl
  have htaken : v.takeGrant ⟨p, .heatStart⟩ = v.setTimers p { (v.pocket p).timers with
      trial := some (v.time + seconds (v.pocket p).run.copies.trial) } := by
    have hphase : (v.pocket p).phase = .ignition := by rw [hself]; exact hphase
    have hgas : (v.pocket p).run.copies.heatKind = .gas := by rw [hself]; exact hgas
    simp only [State.takeGrant, hphase, hgas]
  rw [htaken, State.pocket_setTimers_self, hself, ← hv]
  exact ⟨rfl, rfl⟩

end Sys2Proof.Machine

open Sys2Proof Sys2Proof.Machine

/-- Settles O45: the vent's fault, then the way into COOL. -/
theorem blockedVentsSendToCool : Obligations.BlockedVentsSendToCool := by
  intro dt p τ s hrun hdue k vented
  obtain ⟨u, hu⟩ : ∃ u, u = (s.advance dt).setFault p .ventBlocked := ⟨_, rfl⟩
  have hself : u.pocket p = { k with faults := { k.faults with ventBlocked := true } } := by
    rw [hu, State.pocket_setFault]
    rfl
  have hu_queue : u.jc.queue = s.jc.queue := by rw [hu, State.jc_setFault]; rfl
  have hu_time : u.time = s.time + dt := by rw [hu, State.time_setFault]; rfl
  have hu_acts : ActsOn p (s.advance dt) u := by rw [hu]; exact (ActsOn.refl p _).setFault _
  have hu_queues : KeepsQueues (s.advance dt) u := by rw [hu]; exact (KeepsQueues.refl _).setFault _
  have hvented : ∀ v : State, ActsOn p (s.advance dt) v → KeepsQueues (s.advance dt) v →
      (v.pocket p).phase = .cool → (v.pocket p).motorRun = k.motorRun →
      (v.pocket p).faults = { k.faults with ventBlocked := true } →
      v.jc.queue = enqueue s.jc.queue p .phase (s.time + dt) →
      vented v.arbitrate ∧ v.arbitrate.pocket p = v.pocket p := by
    intro v hacts hqueues hphase hmotor hfaults hqueue
    have hkept : v.arbitrate.pocket p = v.pocket p :=
      State.arbitrate_pocket_of_phase v p (by rw [hphase]; decide)
    refine ⟨⟨by rw [hkept, hphase], by rw [hkept, hmotor], by rw [hkept, hfaults], ?_, hacts.frame,
      hacts.keepsLine hqueues⟩, hkept⟩
    rw [State.queue_arbitrate, State.time_arbitrate, hqueue, hacts.time]
    rfl
  refine ⟨fun ht hphase => ?_, fun ht hphase => ?_⟩
  · refine ⟨_, exec_airflowGraceExpiry_of_due hrun ht hdue, ?_⟩
    have hvent : (s.advance dt).spinupVent p = if k.run.target = .heat then
        (u.endHeat p .vent false).enterPhase p .cool else u.enterPhase p .cool := by
      have htarget : ((u.pocket p).run).target = k.run.target := by rw [hself]
      unfold State.spinupVent
      rw [← hu]
      dsimp only
      rw [htarget]
      cases k.run.target <;> rfl
    have hcold : (u.pocket p).phase.heating = false := by
      rw [hself]
      change k.phase.heating = false
      rw [hphase]
      rfl
    rw [hvent]
    split
    · next htarget =>
      obtain ⟨w, hw⟩ : ∃ w, w = u.endHeat p .vent false := ⟨_, rfl⟩
      have hmotor : (w.pocket p).motorRun = k.motorRun := by
        rw [hw, State.motorRun_endHeat, hself]
      have hwqueue : w.jc.queue = s.jc.queue := by
        rw [hw, State.queue_endHeat, hcold]
        exact hu_queue
      have hwtime : w.time = s.time + dt := by rw [hw, State.time_endHeat, hu_time]
      have hwacts : ActsOn p (s.advance dt) w := by rw [hw]; exact hu_acts.endHeat _ _
      have hwqueues : KeepsQueues (s.advance dt) w := by rw [hw]; exact hu_queues.endHeat _ _
      rw [← hw]
      obtain ⟨hall, hkept⟩ := hvented (w.enterPhase p .cool) (hwacts.enterPhase _)
        (hwqueues.enterPhase _) (State.phase_enterPhase _ _ _)
        ((drivesOn_enterPhase w p (ph := .cool) (by decide)).1.trans hmotor)
        (by rw [State.faults_enterPhase, hw, State.faults_endHeat, hself])
        (by rw [State.queue_enterPhase, hwqueue, hwtime])
      refine ⟨hall, fun _ => ?_, fun h => ?_⟩
      · rw [hkept, State.run_enterPhase, hw, State.run_endHeat, hself]
        rfl
      · rw [htarget] at h
        cases h
    · next htarget =>
      obtain ⟨hall, hkept⟩ := hvented (u.enterPhase p .cool) (hu_acts.enterPhase _)
        (hu_queues.enterPhase _) (State.phase_enterPhase _ _ _)
        ((drivesOn_enterPhase u p (ph := .cool) (by decide)).1.trans (by rw [hself]))
        (by rw [State.faults_enterPhase, hself]) (by rw [State.queue_enterPhase, hu_queue, hu_time])
      refine ⟨hall, fun h => absurd h htarget, fun _ => ?_⟩
      rw [hkept, State.run_enterPhase, hself]
  · refine ⟨_, exec_heatGraceExpiry_of_due hrun ht hdue, ?_⟩
    have hvent : (s.advance dt).ventBlocked p = u.endHeat p .vent false := by rw [hu]; rfl
    have hheat : (u.pocket p).phase.heating = true := by
      rw [hself]
      change k.phase.heating = true
      rcases hphase with h | h <;> rw [h] <;> rfl
    rw [hvent]
    obtain ⟨hall, hkept⟩ := hvented (u.endHeat p .vent false) (hu_acts.endHeat _ _)
      (hu_queues.endHeat _ _) (by rw [State.phase_endHeat, if_pos hheat])
      (by rw [State.motorRun_endHeat, hself]) (by rw [State.faults_endHeat, hself])
      (by rw [State.queue_endHeat, if_pos hheat, hu_queue, hu_time])
    refine ⟨hall, ?_⟩
    rw [hkept, State.run_endHeat, hself]
    rfl

/-- Settles O46. -/
theorem purgeAndTrialsLeadOn : Obligations.PurgeAndTrialsLeadOn := by
  refine ⟨fun dt p τ s hrun hphase ht hdue => ?_, fun dt p τ s hrun hphase ht hdue hgas htries => ?_⟩
  · intro k
    obtain ⟨u, hu⟩ : ∃ u, u = s.advance dt := ⟨_, rfl⟩
    have hself : u.pocket p = k := by rw [hu]; rfl
    have hset : u.interlock p = s.interlock p := by rw [hu]; rfl
    have hacts : ActsOn p u (u.enterIgnition p) := (ActsOn.refl p u).enterIgnition
    have hqueues : KeepsQueues u (u.enterIgnition p) := (KeepsQueues.refl u).enterIgnition
    have hline := hacts.keepsLine hqueues
    have hframe := hacts.frame
    have hon := (drivesOn_enterIgnition u p).arbitrate
    rw [hu] at hline hframe
    have hexec := exec_purgeTimerExpiry_of_due hrun ht hdue
    rw [← hu] at hexec hline hframe
    refine ⟨_, hexec, by rw [hu] at hframe ⊢; exact hframe, by rw [hu] at hline ⊢; exact hline,
      hon.1.trans (by rw [hself]), fun hsensor hready => ?_, fun hsensor hbroken => ?_, fun hsensor => ?_⟩
    · obtain ⟨hpocket, hqueue, hssa⟩ := State.enterIgnition_of_ready (s := u) (p := p)
        (by rw [hself]; exact hsensor) (hset.trans hready)
      have hphase' : ((u.enterIgnition p).pocket p).phase = .ignition := by rw [hpocket]; rfl
      have hrun' : ((u.enterIgnition p).pocket p).run = k.run := by rw [hpocket, hself]; rfl
      refine ⟨by rw [State.phase_arbitrate (by rw [hphase']; decide), hphase'],
        by rw [State.run_arbitrate, hrun'], by rw [State.queue_arbitrate, hqueue, hu]; rfl, ?_,
        fun hslot hempty hgas => ?_⟩
      · exact State.heatStart_arbitrate (by rw [hssa]; exact Arbiter.mem_arrive _ _) rfl
      · have hfree : (u.enterIgnition p).ssa = ⟨none, [⟨p, .heatStart⟩]⟩ := by
          rw [hssa, show u.ssa = ⟨none, []⟩ from ?_]
          · rfl
          · rw [hu, ← hslot, ← hempty]
            rfl
        have hgrant := State.arbitrate_of_gasStart
          (by rw [hacts.inRun, hu]; exact beq_iff_eq.mpr hrun) hfree hphase'
          (by rw [hrun']; exact hgas)
        rw [hrun'] at hgrant
        rw [State.time_arbitrate]
        exact hgrant
    · obtain ⟨hwait, hkept⟩ := State.enterIgnition_of_broken (s := u) (p := p)
        (by rw [hself]; exact hsensor) (hset.trans hbroken)
      rw [State.phase_arbitrate (by rw [hwait]; decide), State.run_arbitrate, hkept, hself]
      exact ⟨hwait, rfl⟩
    · obtain ⟨hcool, hended⟩ := State.enterIgnition_of_sensor (s := u) (p := p)
        (by rw [hself]; exact hsensor)
      rw [State.phase_arbitrate (by rw [hcool]; decide), State.run_arbitrate, hended, hself]
      exact ⟨hcool, rfl⟩
  · intro k n
    obtain ⟨u, hu⟩ : ∃ u, u = ((s.advance dt).setRun p { k.run with tries := n }).post .ignitionFailed
      (some p) (half n) := ⟨_, rfl⟩
    have hself : u.pocket p = { k with run := { k.run with tries := n } } := by
      rw [hu, State.pocket_post, State.pocket_setRun_self]
      rfl
    have hfailed : (s.advance dt).trialFailed p
        = if n < k.run.copies.tries then u.towardHeat p else u.lockout p := by
      have hn : min 3 (((s.advance dt).pocket p).run.tries + 1) = n := by
        change min 3 ((s.pocket p).run.tries + 1) = (s.pocket p).run.tries + 1
        omega
      unfold State.trialFailed
      dsimp only
      rw [hn, hu]
      rfl
    have hacts : ActsOn p (s.advance dt) ((s.advance dt).trialFailed p) :=
      (ActsOn.refl p _).trialFailed
    have hqueues : KeepsQueues (s.advance dt) ((s.advance dt).trialFailed p) :=
      (KeepsQueues.refl _).trialFailed
    have hline := hacts.keepsLine hqueues
    have hheat : ((u.setFault p .ignitionLockout).pocket p).phase.heating = true := by
      rw [State.pocket_setFault, hself]
      change k.phase.heating = true
      rw [show k.phase = .ignition from hphase]
      rfl
    have hlock := drivesOn_endHeat hheat .ignition false
    have hon : drivesOn p u ((s.advance dt).trialFailed p) := by
      rw [hfailed]
      split
      · exact drivesOn_towardHeat u p
      · refine ⟨hlock.1.trans ?_, hlock.2⟩
        rw [State.pocket_setFault]
    have hgrown : KeepsQueues u ((s.advance dt).trialFailed p).arbitrate := by
      rw [hfailed]
      split
      · exact (KeepsQueues.refl u).towardHeat.arbitrate
      · exact (KeepsQueues.refl u).lockout.arbitrate
    refine ⟨_, exec_ignitionTrialExpiry_of_due hrun ht hdue, hacts.frame, hline,
      hon.arbitrate.1.trans (by rw [hself]), fun hmask hroom => hgrown.events _ ?_,
      fun hmore hsensor hset => ?_, fun hover => ?_⟩
    · have hposted := State.events_post (s := (s.advance dt).setRun p { k.run with tries := n })
        .ignitionFailed (some p) (half n) hmask hroom
      rw [hu, hposted]
      simp
    · rw [hfailed, if_pos hmore]
      obtain ⟨hto, hkept, -, -⟩ := State.towardHeat_of_ready (s := u) (p := p)
        (by rw [hself]; exact hsensor) (by rw [hu]; exact hset)
      have hclear := State.faults_towardHeat_of_ready (s := u) (p := p)
        (by rw [hself]; exact hsensor) (by rw [hu]; exact hset)
      have hmoving : ((u.towardHeat p).pocket p).phase ≠ .acRest := by
        rw [hto, State.heatPhase]
        split <;> decide
      rw [State.run_arbitrate, State.faults_arbitrate, State.phase_arbitrate hmoving, hto, hkept, hclear,
        State.heatPhase, hself]
      refine ⟨rfl, rfl, ?_⟩
      have hkind : k.run.copies.heatKind = .gas := hgas
      simp only [hkind, true_and]
    · rw [hfailed, if_neg (by omega)]
      have hcool : ((u.lockout p).pocket p).phase = .cool := by
        rw [State.lockout, State.phase_endHeat, if_pos hheat]
      have hkept : (u.lockout p).arbitrate.pocket p = (u.lockout p).pocket p :=
        State.arbitrate_pocket_of_phase _ _ (by rw [hcool]; decide)
      rw [hkept]
      refine ⟨hcool, ?_, ?_⟩
      · rw [State.lockout, State.faults_endHeat, State.pocket_setFault, hself]
        rfl
      · rw [State.lockout, State.run_endHeat, State.pocket_setFault, hself]
        rfl
end

section
/-! The start slot (R45 to R48, R57) and the entry into HEAT (R69 to R74). -/

namespace Sys2Proof.Machine

/-! ### What a change of phase gives up (R3, R48) -/

theorem Arbiter.giveUp_none (a : Arbiter) : a.giveUp (fun _ => false) (fun _ => false) = a := by
  obtain ⟨slot, queue⟩ := a
  cases slot <;> simp [Arbiter.giveUp]

/-- From PURGE to IGNITION nothing is given up. -/
theorem Arbiter.leave_purge (a : Arbiter) (p : PocketId) : a.leave p .purge .ignition = a := by
  have hnone : a.leave p .purge .ignition = a.giveUp (fun _ => false) (fun _ => false) := by
    unfold Arbiter.leave
    congr 1
    · funext r
      obtain ⟨q, kind⟩ := r
      cases p <;> cases q <;> cases kind <;> rfl
    · funext r
      obtain ⟨q, kind⟩ := r
      cases p <;> cases q <;> cases kind <;> rfl
  rw [hnone, Arbiter.giveUp_none]

/-- From IGNITION to HEAT the pocket's heat start is given up, queued and granted. -/
theorem Arbiter.leave_ignition {a : Arbiter} {p : PocketId} {g : Grant} (hslot : a.slot = some g)
    (hg : g.request = ⟨p, .heatStart⟩) :
    a.leave p .ignition .heat = ⟨none, a.queue.filter (fun r => r ≠ ⟨p, .heatStart⟩)⟩ := by
  have hqueued : ∀ r : StartRequest, (r.pocket == p && (Phase.heat.dropsMotor
      || (r.kind == .heatStart && (Phase.heat == .cool || Phase.ignition == .ignition))
      || (r.kind == .motorStart && (Phase.ignition == .spinup || Phase.ignition == .acRest))))
      = decide (r = ⟨p, .heatStart⟩) := by
    rintro ⟨q, kind⟩
    cases p <;> cases q <;> cases kind <;> rfl
  unfold Arbiter.leave Arbiter.giveUp
  simp only [hqueued, hslot, hg]
  simp [Phase.dropsMotor]

/-- From AC_REST to AC_BURST the pocket's motor start leaves the queue, and the grant stays. -/
theorem Arbiter.leave_acRest {a : Arbiter} {p : PocketId} (h : ⟨p, .motorStart⟩ ∉ a.queue) :
    a.leave p .acRest .acBurst = a := by
  obtain ⟨slot, queue⟩ := a
  have hqueue : queue.filter (fun r => !(r.pocket == p && (Phase.acBurst.dropsMotor
      || (r.kind == .heatStart && (Phase.acBurst == .cool || Phase.acRest == .ignition))
      || (r.kind == .motorStart && (Phase.acRest == .spinup || Phase.acRest == .acRest))))) = queue := by
    refine List.filter_eq_self.mpr ?_
    rintro ⟨q, kind⟩ hr
    cases kind with
    | heatStart => simp [Phase.dropsMotor]
    | motorStart =>
      have hne : q ≠ p := fun hq => h (hq ▸ hr)
      simp [hne]
  unfold Arbiter.leave Arbiter.giveUp
  dsimp only
  rw [hqueue]
  cases slot <;> simp [Phase.dropsMotor]

/-! ### Grants (R46, R47, R50, R58) -/

/-- A grant leaves the queue behind it as it was, for the request granted is not in it twice. -/
theorem State.ssa_takeGrant {s : State} {r : StartRequest} (h : r ∉ s.ssa.queue) :
    (s.takeGrant r).ssa = s.ssa := by
  obtain ⟨p, kind⟩ := r
  unfold State.takeGrant
  dsimp only
  split
  · rfl
  · next hrest =>
    unfold State.startBurst
    change s.ssa.leave p (s.pocket p).phase .acBurst = s.ssa
    rw [hrest]
    exact Arbiter.leave_acRest h
  · split <;> rfl
  · rfl

@[simp] theorem State.jc_takeGrant (s : State) (r : StartRequest) : (s.takeGrant r).jc = s.jc := by
  unfold State.takeGrant
  dsimp only
  split
  · rfl
  · rfl
  · split <;> rfl
  · rfl

/-- R50: a grant in SPINUP drives the motor forward and starts its proof. -/
theorem State.takeGrant_of_spinup {s : State} {p : PocketId} (h : (s.pocket p).phase = .spinup) :
    (s.takeGrant ⟨p, .motorStart⟩).pocket p = { s.pocket p with
      motorRev := false, motorRun := true
      timers := { (s.pocket p).timers with startProof := some (s.time + seconds (s.cfg.startProof p)) } } := by
  simp [State.takeGrant, h]

/-- R58: a grant in AC_REST starts a burst. -/
theorem State.takeGrant_of_acRest {s : State} {p : PocketId} (h : (s.pocket p).phase = .acRest) :
    s.takeGrant ⟨p, .motorStart⟩ = s.startBurst p := by
  simp [State.takeGrant, h]

theorem State.startBurst_fields (s : State) (p : PocketId) :
    let k := (s.startBurst p).pocket p
    k.phase = .acBurst ∧ k.motorRun = true
      ∧ k.motorRev = ((s.pocket p).run.reverse && !(s.pocket p).lastBurstReverse)
      ∧ k.lastBurstReverse = k.motorRev ∧ k.windowReached = false
      ∧ k.timers.burstProof = some (s.time + s.cfg.startProof p * 1000000) := by
  intro k
  have hk : k = _ := State.pocket_setPocket_self _ _ _
  rw [State.pocket_changePhase_self] at hk
  rw [hk]
  exact ⟨rfl, rfl, rfl, rfl, rfl, rfl⟩

/-- The state in which the oldest request takes its grant (R46). -/
def State.granting (s : State) (r : StartRequest) (rest : List StartRequest) : State :=
  { s with ssa := ⟨some ⟨r, s.time, s.holdEnd r⟩, rest⟩ }

theorem State.arbitrate_of_free {s : State} {r : StartRequest} {rest : List StartRequest}
    (hrun : s.inRun = true) (hssa : s.ssa = ⟨none, r :: rest⟩) :
    s.arbitrate = (s.granting r rest).takeGrant r :=
  State.arbitrate_of_waiting hrun (by rw [hssa]) (by rw [hssa])

/-- The slot goes to the oldest request with its hold, and the rest waits on (R46, R47). -/
theorem State.ssa_arbitrate_of_free {s : State} {r : StartRequest} {rest : List StartRequest}
    (hrun : s.inRun = true) (hssa : s.ssa = ⟨none, r :: rest⟩) (hnodup : (r :: rest).Nodup) :
    s.arbitrate.ssa = ⟨some ⟨r, s.time, s.holdEnd r⟩, rest⟩ := by
  rw [State.arbitrate_of_free hrun hssa]
  exact State.ssa_takeGrant (List.nodup_cons.mp hnodup).1

/-- A held slot is granted to no one. -/
theorem State.arbitrate_of_held {s : State} (h : s.ssa.slot ≠ none) : s.arbitrate = s :=
  arbitrate_idle s fun hnone => absurd hnone h

/-! ### The entry into HEAT (R69, R72, R74) -/

/-- What the entry into HEAT leaves of its pocket. -/
theorem State.pocket_enterHeat (s : State) (p : PocketId) :
    let k := (s.enterHeat p).pocket p
    k.phase = .heat ∧ k.run = { (s.pocket p).run with tries := 0 } ∧ k.tempHighTripped = false
      ∧ k.runLongTripped = false ∧ k.motorRun = (s.pocket p).motorRun
      ∧ k.faults = (s.pocket p).faults := by
  intro k
  have hk : k = _ := State.pocket_postRequest_self _ _ _
  rw [State.pocket_post, State.pocket_setPocket_self, State.pocket_changePhase_self] at hk
  rw [hk]
  refine ⟨rfl, rfl, rfl, rfl, ?_, rfl⟩
  change ((s.pocket p).motorRun && !Phase.heat.dropsMotor) = _
  simp [Phase.dropsMotor]

/-- HEAT_ESTABLISHED with the number of the trial, or 0 (R74). -/
def Pocket.heatArg (k : Pocket) : Nat :=
  if k.run.copies.heatKind = .gas then k.run.tries + 1 else 0

theorem State.mem_enterHeat {s : State} {p : PocketId} (hmask : s.cfg.classMask = 0)
    (hroom : s.ml.events.length < 15) :
    (⟨.heatEstablished, some p, half s.bd.clock, half (s.pocket p).heatArg⟩ : EventEntry)
      ∈ (s.enterHeat p).ml.events := by
  have hml : (s.enterHeat p).ml = (s.changePhase p .heat).ml.post s.cfg.classMask
      ⟨.heatEstablished, some p, half s.bd.clock, half (s.pocket p).heatArg⟩ := by
    unfold Pocket.heatArg State.enterHeat
    cases (s.pocket p).run.copies.heatKind <;> rfl
  have hlen := Link.length_post_le s.ml s.cfg.classMask
    ⟨.phaseChanged, some p, half s.bd.clock, pairArg (s.pocket p).phase.code Phase.heat.code⟩
  have hroom' : (s.changePhase p .heat).ml.events.length < 16 := lt_of_le_of_lt hlen (by omega)
  rw [hml, hmask]
  exact Link.mem_post_of_room _ hroom'

/-- The slot that a pocket's heat start held is free once it is in HEAT (R47, R69, R72). -/
theorem State.ssa_enterHeat {s : State} {p : PocketId} {g : Grant}
    (hphase : (s.pocket p).phase = .ignition) (hslot : s.ssa.slot = some g)
    (hg : g.request = ⟨p, .heatStart⟩) :
    (s.enterHeat p).ssa = ⟨none, s.ssa.queue.filter (fun r => r ≠ ⟨p, .heatStart⟩)⟩ := by
  change s.ssa.leave p (s.pocket p).phase .heat = _
  rw [hphase]
  exact Arbiter.leave_ignition hslot hg

theorem exec_motorStartHoldEnd_of_due {dt since τ : Nat} {p : PocketId} {s : State}
    (hrun : s.ss.power = .run) (hslot : s.ssa.slot = some ⟨⟨p, .motorStart⟩, since, some τ⟩)
    (hdue : τ ≤ s.time + dt) :
    exec (.motorStartHoldEnd dt) s
      = .next ({ s.advance dt with ssa := ⟨none, s.ssa.queue⟩ } : State).arbitrate := by
  have hinRun : (s.advance dt).inRun = true := beq_iff_eq.mpr hrun
  have hover : (s.advance dt).ssa.holdOver .motorStart (s.advance dt).time = some p := by
    simp [Arbiter.holdOver, hslot, due, hdue]
  simp only [exec, execMotorStartHoldEnd, hinRun, hover, if_true]
  rfl

theorem exec_heatStartHoldEnd_of_due {dt since τ : Nat} {p : PocketId} {s : State}
    (hrun : s.ss.power = .run) (hphase : (s.pocket p).phase = .ignition)
    (hslot : s.ssa.slot = some ⟨⟨p, .heatStart⟩, since, some τ⟩) (hdue : τ ≤ s.time + dt) :
    exec (.heatStartHoldEnd dt) s = .next ((s.advance dt).enterHeat p).arbitrate := by
  have hinRun : (s.advance dt).inRun = true := beq_iff_eq.mpr hrun
  have hover : (s.advance dt).ssa.holdOver .heatStart (s.advance dt).time = some p := by
    simp [Arbiter.holdOver, hslot, due, hdue]
  have hignition : ((s.advance dt).pocket p).phase = .ignition := hphase
  simp only [exec, execHeatStartHoldEnd, hinRun, hover, hignition, if_true]

theorem exec_restTimerExpiry_of_due {dt τ : Nat} {p : PocketId} {s : State} (hrun : s.ss.power = .run)
    (ht : (s.pocket p).timers.rest = some τ) (hdue : τ ≤ s.time + dt) :
    exec (.restTimerExpiry dt p) s
      = .next (if (s.sense p).door.level = true then
          (((s.advance dt).setTimers p { (s.pocket p).timers with rest := none }).postStart p
            .motorStart).arbitrate
        else ((s.advance dt).enterPhase p .idle).arbitrate) :=
  next_of_due hrun ht hdue

theorem Arbiter.arrive_of_new {a : Arbiter} {r : StartRequest} (h : r ∉ a.queue) :
    a.arrive r = { a with queue := a.queue ++ [r] } :=
  if_neg (by rwa [List.contains_iff_mem])

theorem Arbiter.arrive_of_old {a : Arbiter} {r : StartRequest} (h : r ∈ a.queue) : a.arrive r = a :=
  if_pos (by rwa [List.contains_iff_mem])

/-- The hold of a grant, by the kind of the request and of the heat (R47). -/
theorem State.holdEnd_eq (s : State) (r : StartRequest) :
    s.holdEnd r = (match r.kind, (s.pocket r.pocket).run.copies.heatKind with
      | .motorStart, _ => some (s.time + s.cfg.hm * 1000000)
      | .heatStart, .electric => some (s.time + s.cfg.he * 1000000)
      | .heatStart, .gas => none) := by
  obtain ⟨p, kind⟩ := r
  unfold State.holdEnd
  cases kind <;> cases (s.pocket p).run.copies.heatKind <;> rfl

end Sys2Proof.Machine

open Sys2Proof Sys2Proof.Machine

/-- Settles O48: a hold's end frees the slot, a rest's end and a purge's end ask for it. -/
theorem startsShareTheSlot : Obligations.StartsShareTheSlot := by
  refine ⟨fun dt p since τ s hrun hslot hdue hnodup => ?_, fun dt p τ s hrun hphase ht hdue => ?_,
    fun dt p τ s hrun hphase ht hdue hsensor hset hslot => ?_⟩
  · obtain ⟨u, hu⟩ : ∃ u : State, u = { s.advance dt with ssa := ⟨none, s.ssa.queue⟩ } := ⟨_, rfl⟩
    have hexec : exec (.motorStartHoldEnd dt) s = .next u.arbitrate := by
      rw [hu]
      exact exec_motorStartHoldEnd_of_due hrun hslot hdue
    have hinRun : u.inRun = true := by rw [hu]; exact beq_iff_eq.mpr hrun
    refine ⟨fun hempty => ?_, fun r rest hqueue => ?_⟩
    · rw [hexec, arbitrate_idle u (fun _ => by rw [hu]; exact hempty), hu, hempty]
      rfl
    · have hfree : u.ssa = ⟨none, r :: rest⟩ := by rw [hu, ← hqueue]
      have hgrant := State.arbitrate_of_free hinRun hfree
      have hssa := State.ssa_arbitrate_of_free hinRun hfree (hqueue ▸ hnodup)
      rw [State.holdEnd_eq] at hssa
      obtain ⟨v, hv⟩ : ∃ v, v = u.granting r rest := ⟨_, rfl⟩
      have hself : ∀ q, v.pocket q = s.pocket q := by
        intro q
        rw [hv, hu]
        rfl
      have hnow : v.time = s.time + dt := by rw [hv, hu]; rfl
      have hcfg : v.cfg = s.cfg := by rw [hv, hu]; rfl
      rw [← hv] at hgrant
      refine ⟨_, hexec, ?_, ?_, ?_, ?_, ?_, fun hkind hspin => ?_, fun hkind hrest => ?_⟩
      · rw [hssa, hu]
        rfl
      · rw [State.run_arbitrate, hu]
        rfl
      · rw [hgrant, State.takeGrant_pocket_of_ne _ (by cases r.pocket <;> decide), hself]
      · rw [hgrant, State.jc_takeGrant, hv, hu]
        rfl
      · rw [hgrant, ((ActsOn.refl r.pocket v).takeGrant (r := r)).journal, hv, hu]
        rfl
      · obtain ⟨q, kind⟩ := r
        subst hkind
        rw [State.time_arbitrate, hgrant,
          State.takeGrant_of_spinup (p := q) (by rw [hself]; exact hspin), hnow, hcfg, hu]
        exact ⟨rfl, rfl, rfl⟩
      · obtain ⟨q, kind⟩ := r
        subst hkind
        have hburst := v.startBurst_fields q
        rw [hself, hnow, hcfg] at hburst
        rw [State.time_arbitrate, hgrant,
          State.takeGrant_of_acRest (p := q) (by rw [hself]; exact hrest), hu]
        exact hburst
  · have hexec := exec_restTimerExpiry_of_due hrun ht hdue
    by_cases hdoor : (s.sense p).door.level = true
    · rw [if_pos hdoor] at hexec
      obtain ⟨u, hu⟩ : ∃ u, u = ((s.advance dt).setTimers p { (s.pocket p).timers with
        rest := none }).postStart p .motorStart := ⟨_, rfl⟩
      have hacts : ActsOn p (s.advance dt) u := by
        rw [hu]
        exact ((ActsOn.refl p _).setTimers _).postStart _
      have hqueues : KeepsQueues (s.advance dt) u := by
        rw [hu]
        exact ((KeepsQueues.refl _).setTimers _).postStart _
      have hself : u.pocket p
          = { s.pocket p with timers := { (s.pocket p).timers with rest := none } } := by
        rw [hu, State.pocket_postStart, State.pocket_setTimers_self]
        rfl
      have hssa : u.ssa = s.ssa.arrive ⟨p, .motorStart⟩ := by rw [hu]; rfl
      rw [← hu] at hexec
      have hheld : s.ssa.slot ≠ none → u.arbitrate = u := by
        intro hslot
        refine State.arbitrate_of_held ?_
        rw [hssa]
        unfold Arbiter.arrive
        split <;> exact hslot
      refine ⟨_, hexec, hacts.frame, hacts.keepsLine hqueues, by rw [State.run_arbitrate, hself],
        fun _ hslot hnew => ?_, fun _ hslot hold => ?_, fun _ hslot hempty => ?_,
        fun hopen => Bool.noConfusion (hopen.symm.trans hdoor)⟩
      · rw [hheld hslot, hself, hssa]
        exact ⟨hphase, Arbiter.arrive_of_new hnew⟩
      · rw [hheld hslot, hself, hssa]
        exact ⟨hphase, Arbiter.arrive_of_old hold⟩
      · have hfree : u.ssa = ⟨none, [⟨p, .motorStart⟩]⟩ := by
          rw [hssa, Arbiter.arrive_of_new (by rw [hempty]; simp), hempty, hslot]
          rfl
        have hinRun : u.inRun = true := by
          rw [hacts.inRun]
          exact beq_iff_eq.mpr hrun
        obtain ⟨hburst, hmotor, -⟩ := (u.granting ⟨p, .motorStart⟩ []).startBurst_fields p
        rw [State.arbitrate_of_free hinRun hfree, State.takeGrant_of_acRest (p := p) (by
          change (u.pocket p).phase = .acRest
          rw [hself]
          exact hphase)]
        exact ⟨hburst, hmotor⟩
    · rw [if_neg hdoor] at hexec
      have hacts : ActsOn p (s.advance dt) ((s.advance dt).enterPhase p .idle) :=
        (ActsOn.refl p _).enterPhase _
      obtain ⟨hself, hqueue⟩ := State.arbitrate_enterPhase_closed (s.advance dt) p (ph := .idle) rfl
      refine ⟨_, hexec, hacts.frame, hacts.keepsLine ((KeepsQueues.refl _).enterPhase _),
        by rw [State.run_arbitrate, State.run_enterPhase]; rfl, fun h => absurd h hdoor,
        fun h => absurd h hdoor, fun h => absurd h hdoor, fun _ => ⟨?_, hqueue⟩⟩
      rw [hself, State.phase_enterPhase]
  · obtain ⟨hself, -, hssa⟩ := State.enterIgnition_of_ready (s := s.advance dt) (p := p) hsensor hset
    rw [State.pocket_advance, hphase, Arbiter.leave_purge] at hssa
    have hheld : ((s.advance dt).enterIgnition p).ssa.slot ≠ none := by
      rw [hssa]
      unfold Arbiter.arrive
      split <;> exact hslot
    refine ⟨_, exec_purgeTimerExpiry_of_due hrun ht hdue, ?_, ?_⟩
    · rw [State.arbitrate_of_held hheld, hself]
      rfl
    · rw [State.arbitrate_of_held hheld, hssa]
      by_cases hold : (⟨p, .heatStart⟩ : StartRequest) ∈ s.ssa.queue
      · rw [if_pos hold]
        exact Arbiter.arrive_of_old hold
      · rw [if_neg hold]
        exact Arbiter.arrive_of_new hold

/-- Settles O47: both ways into HEAT are one act, and the slot that it frees is given on. -/
theorem heatIsEstablished : Obligations.HeatIsEstablished := by
  intro dt p s hrun hphase hnodup k others lit
  have hlit : ∀ (u : State) (g : Grant) (trial : Nat), u.psq = s.psq → u.time = s.time + dt →
      u.cfg = s.cfg → u.ssa = s.ssa → u.jc = s.jc → u.bd = s.bd → u.ml = s.ml → u.ss = s.ss →
      s.ssa.slot = some g → g.request = ⟨p, .heatStart⟩ → k.heatArg = trial →
      lit (u.enterHeat p).arbitrate trial := by
    intro u g trial hpsq htime hcfg hssa hjc hbd hml hss hslot hg htrial
    have hpocket : ∀ q, u.pocket q = s.pocket q := fun q => congrArg (·.get q) hpsq
    have hacts : ActsOn p u (u.enterHeat p) := (ActsOn.refl p u).enterHeat
    obtain ⟨hheat, hrecord, htemp, hlong, hmotor, hfaults⟩ := u.pocket_enterHeat p
    have hfreed := State.ssa_enterHeat (s := u) (p := p) (g := g) (by rw [hpocket]; exact hphase)
      (by rw [hssa]; exact hslot) hg
    rw [hssa] at hfreed
    rw [hpocket] at hrecord hmotor hfaults
    have hkept : (u.enterHeat p).arbitrate.pocket p = (u.enterHeat p).pocket p :=
      State.arbitrate_pocket_of_phase _ _ (by rw [hheat]; decide)
    have hinRun : (u.enterHeat p).inRun = true := by
      rw [hacts.inRun, State.inRun, hss]
      exact beq_iff_eq.mpr hrun
    refine ⟨by rw [hkept, hheat], by rw [hkept, hrecord], by rw [hkept, htemp], by rw [hkept, hlong],
      by rw [hkept, hmotor], by rw [hkept, hfaults], fun hnone => ?_, fun r rest hsome => ⟨?_, ?_⟩, ?_,
      fun hmask hroom => ?_⟩
    · have hempty : (u.enterHeat p).ssa = ⟨none, []⟩ := hfreed.trans (congrArg _ hnone)
      rw [arbitrate_idle _ (fun _ => by rw [hempty]), hempty]
    · have hfree : (u.enterHeat p).ssa = ⟨none, r :: rest⟩ := hfreed.trans (congrArg _ hsome)
      have hdistinct : (r :: rest).Nodup := hsome ▸ hnodup.filter _
      have hkind : ∀ q, ((u.enterHeat p).pocket q).run.copies = (s.pocket q).run.copies := by
        intro q
        by_cases hq : q = p
        · subst hq
          rw [hrecord]
        · rw [PocketId.eq_other_of_ne hq, hacts.other, hpocket]
      rw [State.ssa_arbitrate_of_free hinRun hfree hdistinct, State.holdEnd_eq, hkind, hacts.cfg, hcfg,
        State.time_arbitrate] <;> rfl
    · intro hkind hother hspin
      have hfree : (u.enterHeat p).ssa = ⟨none, r :: rest⟩ := hfreed.trans (congrArg _ hsome)
      obtain ⟨q, kind⟩ := r
      subst hkind
      have hq : q = p.other := PocketId.eq_other_of_ne hother
      have hsame : ((u.enterHeat p).granting ⟨q, .motorStart⟩ rest).pocket q = s.pocket q := by
        change (u.enterHeat p).pocket q = _
        rw [hq, hacts.other, hpocket]
      rw [State.arbitrate_of_free hinRun hfree,
        State.takeGrant_of_spinup (p := q) (by rw [hsame]; exact hspin)]
    · rw [State.queue_arbitrate, State.time_arbitrate, hacts.time, ← hjc]
      rfl
    · have hposted := State.mem_enterHeat (s := u) (p := p) (by rw [hcfg]; exact hmask)
        (by rw [hml]; exact hroom)
      rw [hpocket, hbd] at hposted
      rw [← htrial]
      exact (KeepsQueues.refl (u.enterHeat p)).arbitrate.events _ hposted
  refine ⟨fun g since hslot hg hgas htrial hsettled hlevel hcand hdue => ?_,
    fun since τ hslot hdue helectric => ?_⟩
  · have hseen : (s.filtered dt p .heatFb true).flameSeen p = (s.filtered dt p .heatFb true).enterHeat p :=
      if_pos ⟨hphase, hgas, htrial⟩
    have hexec := exec_contactFilterExpiry_of_run (i := .heatFb) (level := true) hrun hsettled hcand hdue
      (by rw [show ((s.sense p).contact .heatFb).level = false from hlevel]; rfl)
    rw [show ((s.filtered dt p .heatFb true).postInput p .heatFb true).inputChanged p .heatFb true
      = (s.filtered dt p .heatFb true).enterHeat p from hseen] at hexec
    exact ⟨_, hexec, hlit _ g _ rfl rfl rfl rfl rfl rfl rfl rfl hslot hg (if_pos hgas)⟩
  · have hkind : ¬ k.run.copies.heatKind = .gas := by
      rw [show k.run.copies.heatKind = .electric from helectric]
      decide
    exact ⟨_, exec_heatStartHoldEnd_of_due hrun hphase hslot hdue,
      hlit (s.advance dt) _ _ rfl rfl rfl rfl rfl rfl rfl rfl hslot rfl (if_neg hkind),
      (ActsOn.refl p (s.advance dt)).enterHeat.frame⟩
end

section
/-! Interlock failures and returns (R64 to R66, R76 to R79, R94). -/

namespace Sys2Proof.Machine

/-! ### High-limit trips (R78) -/

/-- The state once a high-limit trip is counted and its fault set. -/
def State.tripCounted (s : State) (p : PocketId) : State :=
  (s.setRun p { (s.pocket p).run with trips := min 3 ((s.pocket p).run.trips + 1) }).setFault p .highLimit

theorem State.pocket_tripCounted (s : State) (p : PocketId) :
    (s.tripCounted p).pocket p = { s.pocket p with
      run := { (s.pocket p).run with trips := min 3 ((s.pocket p).run.trips + 1) }
      faults := { (s.pocket p).faults with highLimit := true } } := by
  simp [State.tripCounted, FaultSet.insert]

@[simp] theorem State.jc_tripCounted (s : State) (p : PocketId) : (s.tripCounted p).jc = s.jc := by
  simp [State.tripCounted]

@[simp] theorem State.ssa_tripCounted (s : State) (p : PocketId) : (s.tripCounted p).ssa = s.ssa := by
  simp [State.tripCounted]

@[simp] theorem State.time_tripCounted (s : State) (p : PocketId) : (s.tripCounted p).time = s.time := by
  simp [State.tripCounted]

theorem State.highLimitTrip_of_cold {s : State} {p : PocketId} (h : (s.pocket p).phase.heating = false) :
    s.highLimitTrip p = s := by
  simp [State.highLimitTrip, h]

theorem State.highLimitTrip_of_third {s : State} {p : PocketId} (h : (s.pocket p).phase.heating = true)
    (htrips : 3 ≤ (s.pocket p).run.trips + 1) :
    s.highLimitTrip p = (s.tripCounted p).endHeat p .limit false := by
  simp [State.highLimitTrip, h, htrips, State.tripCounted]

theorem State.highLimitTrip_of_lit {s : State} {p : PocketId}
    (h : (s.pocket p).phase = .ignition ∨ (s.pocket p).phase = .heat)
    (htrips : (s.pocket p).run.trips < 2) :
    s.highLimitTrip p = (s.tripCounted p).enterHeatWait p := by
  have hfew : ¬ 3 ≤ (s.pocket p).run.trips + 1 := by omega
  rcases h with h | h <;> simp [State.highLimitTrip, h, hfew, State.tripCounted, Phase.heating]

theorem State.highLimitTrip_of_waiting {s : State} {p : PocketId}
    (h : (s.pocket p).phase = .purge ∨ (s.pocket p).phase = .heatWait)
    (htrips : (s.pocket p).run.trips < 2) : s.highLimitTrip p = s.tripCounted p := by
  have hfew : ¬ 3 ≤ (s.pocket p).run.trips + 1 := by omega
  rcases h with h | h <;> simp [State.highLimitTrip, h, hfew, State.tripCounted, Phase.heating]

/-! ### The motor through an interlock change -/

/-- An act kept the motor output and the start slot, or the motor runs on in a heat phase or COOL. -/
def motorHeld (p : PocketId) (s t : State) : Prop :=
  (t.ssa = s.ssa ∧ (t.pocket p).motorRun = (s.pocket p).motorRun) ∨ drivesOn p s t

theorem motorHeld.refl (p : PocketId) (s : State) : motorHeld p s s := .inl ⟨rfl, rfl⟩

theorem motorHeld.setTimers (p : PocketId) (s : State) (x : PocketTimers) :
    motorHeld p s (s.setTimers p x) := .inl ⟨rfl, by simp⟩

theorem motorHeld.arbitrate {p : PocketId} {s t : State} (h : motorHeld p s t) (hs : s.slotServed) :
    (t.arbitrate.pocket p).motorRun = (s.pocket p).motorRun := by
  rcases h with ⟨hssa, hmotor⟩ | h
  · rw [arbitrate_idle t (by unfold State.slotServed; rw [hssa]; exact hs), hmotor]
  · exact h.arbitrate.1

theorem drivesOn.from_same {p : PocketId} {a b t : State}
    (h : (b.pocket p).motorRun = (a.pocket p).motorRun) (k : drivesOn p b t) : drivesOn p a t :=
  ⟨k.1.trans h, k.2⟩

theorem motorHeld_checkHeatWait (s : State) (p : PocketId) : motorHeld p s (s.checkHeatWait p) := by
  unfold State.checkHeatWait
  split
  · exact .inr (drivesOn_enterIgnition s p)
  · exact .refl p s

theorem motorHeld_airflowProven (s : State) (p : PocketId) : motorHeld p s (s.airflowProven p) := by
  unfold State.airflowProven
  dsimp only
  split
  · split
    · exact .inr (drivesOn_leaveSpinup s p)
    · exact .refl p s
  · exact .setTimers p s _
  · rcases motorHeld_checkHeatWait (s.setTimers p { (s.pocket p).timers with heatGrace := none }) p with
      ⟨hssa, hmotor⟩ | h
    · exact .inl ⟨hssa, hmotor.trans (by simp)⟩
    · exact .inr (h.from_same (by simp))
  · exact .refl p s

theorem motorHeld_airflowLost (s : State) (p : PocketId) : motorHeld p s (s.airflowLost p) := by
  unfold State.airflowLost
  dsimp only
  split
  · exact .setTimers p s _
  · exact .inr (drivesOn_enterHeatWait s p)
  · exact .inr (drivesOn_enterHeatWait s p)
  · exact .setTimers p s _
  · exact .refl p s

theorem motorHeld_highLimitTrip (s : State) (p : PocketId) : motorHeld p s (s.highLimitTrip p) := by
  have hself := s.pocket_tripCounted p
  have hmotor : ((s.tripCounted p).pocket p).motorRun = (s.pocket p).motorRun := by rw [hself]
  unfold State.highLimitTrip
  dsimp only
  split
  · next hheat =>
    split
    · exact .inr ((drivesOn_endHeat (s := s.tripCounted p) (by rw [hself]; exact hheat) _ _).from_same
        hmotor)
    · split
      · exact .inr ((drivesOn_enterHeatWait (s.tripCounted p) p).from_same hmotor)
      · exact .inr ((drivesOn_enterHeatWait (s.tripCounted p) p).from_same hmotor)
      · exact .inl ⟨State.ssa_tripCounted s p, hmotor⟩
  · exact .refl p s

/-! ### Waiting for the interlock set (R64, R79) -/

theorem State.interlock_iff (s : State) (p : PocketId) : s.interlock p = true ↔
    (s.sense p).airflow.level = true ∧ (s.sense p).hilimit.level = true
      ∧ (s.lm.line = .normal ∨ s.lm.line = .rideThrough) := by
  unfold State.interlock
  cases s.lm.line <;> simp [LineState.heats]

theorem State.checkHeatWait_of_sound {s : State} {p : PocketId} (hrun : s.inRun = true)
    (hphase : (s.pocket p).phase = .heatWait) (hset : s.interlock p = true) :
    s.checkHeatWait p = s.enterIgnition p :=
  if_pos ⟨hrun, hphase, hset⟩

theorem State.checkHeatWait_of_broken {s : State} {p : PocketId} (hset : ¬ s.interlock p = true) :
    s.checkHeatWait p = s :=
  if_neg fun h => hset h.2.2

/-- IGNITION entered with the whole set holding, and the grant that may follow (R68, R69, R79). -/
theorem State.enterIgnition_granted {s : State} {p : PocketId}
    (hsensor : (s.pocket p).faults.sensor = false) (hset : s.interlock p = true) :
    let t := (s.enterIgnition p).arbitrate
    (t.pocket p).phase = .ignition ∧ (t.pocket p).run = (s.pocket p).run
      ∧ (⟨p, .heatStart⟩ ∈ t.ssa.queue ∨ ∃ g, t.ssa.slot = some g ∧ g.request = ⟨p, .heatStart⟩) := by
  intro t
  obtain ⟨hself, -, hssa⟩ := State.enterIgnition_of_ready hsensor hset
  have hphase : ((s.enterIgnition p).pocket p).phase = .ignition := by rw [hself]; rfl
  refine ⟨(State.phase_arbitrate (by rw [hphase]; decide)).trans hphase,
    (State.run_arbitrate _ p).trans (by rw [hself]; rfl),
    State.heatStart_arbitrate (by rw [hssa]; exact Arbiter.mem_arrive _ _) rfl⟩

/-! ### Both pockets act on the line (R94) -/

@[simp] theorem PocketId.other_other (p : PocketId) : p.other.other = p := by
  cases p <;> rfl

/-- Where both pockets act, U first, each acts on a state that differs by the other's act alone. -/
theorem both_act {R : PocketId → State → State → Prop} (refl : ∀ p s, R p s s)
    {f : State → PocketId → State} (hf : ∀ s p, R p s (f s p)) (w : State) (p : PocketId) :
    ∃ v, R p.other w v ∧ R p.other (f v p) (f (f w .U) .L) := by
  cases p with
  | U => exact ⟨w, refl _ w, hf _ _⟩
  | L => exact ⟨f w .U, hf _ _, refl _ _⟩

/-- An act on the other pocket leaves this one. -/
theorem ActsOn.self_of_other {p : PocketId} {s t : State} (h : ActsOn p.other s t) :
    t.pocket p = s.pocket p := by
  have hother := h.other
  rwa [PocketId.other_other] at hother

/-- From s to t the start requests of the other pocket wait on. -/
def keepsOthersStarts (p : PocketId) (s t : State) : Prop :=
  ∀ r : StartRequest, r.pocket = p.other → r ∈ s.ssa.queue → r ∈ t.ssa.queue

theorem Arbiter.mem_leave_of_other {a : Arbiter} {p : PocketId} {r : StartRequest}
    (hr : r.pocket = p.other) (h : r ∈ a.queue) (old new : Phase) : r ∈ (a.leave p old new).queue := by
  refine List.mem_filter.mpr ⟨h, ?_⟩
  have hne : (r.pocket == p) = false := by
    rw [hr]
    cases p <;> rfl
  simp [hne]

theorem Arbiter.mem_arrive_of_mem {a : Arbiter} {r : StartRequest} (h : r ∈ a.queue)
    (r' : StartRequest) : r ∈ (a.arrive r').queue := by
  unfold Arbiter.arrive
  split
  · exact h
  · exact List.mem_append_left _ h

namespace keepsOthersStarts

variable {p : PocketId} {a s : State}

theorem refl (p : PocketId) (s : State) : keepsOthersStarts p s s := fun _ _ h => h

theorem changePhase (h : keepsOthersStarts p a s) (ph : Phase) :
    keepsOthersStarts p a (s.changePhase p ph) :=
  fun r hr hmem => Arbiter.mem_leave_of_other hr (h r hr hmem) _ _

theorem postStart (h : keepsOthersStarts p a s) (k : StartKind) :
    keepsOthersStarts p a (s.postStart p k) :=
  fun r hr hmem => Arbiter.mem_arrive_of_mem (h r hr hmem) _

theorem enterHeatWait (h : keepsOthersStarts p a s) : keepsOthersStarts p a (s.enterHeatWait p) := by
  have hin := h.changePhase .heatWait
  unfold State.enterHeatWait
  dsimp only
  split
  · exact hin
  · exact hin

theorem endHeat (h : keepsOthersStarts p a s) (c : HeatCause) (hold : Bool) :
    keepsOthersStarts p a (s.endHeat p c hold) := by
  have hrun : keepsOthersStarts p a (s.setRun p ((s.pocket p).run.endHeat c hold)) := h
  unfold State.endHeat
  dsimp only
  split
  · exact hrun.changePhase .cool
  · exact hrun

theorem enterIgnition (h : keepsOthersStarts p a s) : keepsOthersStarts p a (s.enterIgnition p) := by
  have hin := h.changePhase .ignition
  unfold State.enterIgnition
  dsimp only
  split
  · exact hin.endHeat _ _
  · split
    · exact hin.postStart _
    · exact hin.enterHeatWait

theorem lineSound (h : keepsOthersStarts p a s) : keepsOthersStarts p a (s.lineSound p) := by
  have hstart : keepsOthersStarts p a (s.checkStartWait p) := by
    unfold State.checkStartWait
    split
    · exact (h.changePhase .spinup).postStart .motorStart
    · exact h
  unfold State.lineSound State.checkHeatWait
  split
  · exact hstart.enterIgnition
  · exact hstart

end keepsOthersStarts

/-! ### A change of line state in RUN (R91, R92, R94) -/

/-- The LOW half-cycle that reaches NLOW ends NORMAL (R91). -/
theorem LineMonitor.classify_low_of_reached {m : LineMonitor} {c : WorkingCopy} (interval : Nat)
    (hline : m.line = .normal) (h : c.nLow ≤ min 255 (m.lowCount + 1)) :
    (m.classify c .low interval).line = .lowLine := by
  simp [LineMonitor.classify, LineMonitor.next, LineMonitor.count, hline, h]

/-- The GOOD half-cycle that reaches NREC ends LOW_LINE (R92). -/
theorem LineMonitor.classify_good_of_recovered {m : LineMonitor} {c : WorkingCopy} (interval : Nat)
    (hline : m.line = .lowLine) (h : c.nRec ≤ min 400 (m.goodRun + 1)) :
    (m.classify c .good interval).line = .normal := by
  simp [LineMonitor.classify, LineMonitor.next, LineMonitor.count, hline, h]

/-- The state in which both pockets act on a change of line state: counted, and its event posted. -/
def State.relined (s : State) (cls : HalfCycle) (interval : Nat) (peak : Byte) : State :=
  { s with lm := s.lm.classify s.cfg cls interval }.postLine s.lm.line peak

theorem State.postLine_eq (s : State) (old : LineState) (peak : Byte) :
    ∃ l, s.postLine old peak = { s with ml := l } := by
  unfold State.postLine
  split <;> exact ⟨_, rfl⟩

theorem State.lm_arbitrate (s : State) : s.arbitrate.lm = s.lm := by
  obtain ⟨_, h⟩ := s.arbitrate_acts
  exact h.lm

theorem State.ss_arbitrate (s : State) : s.arbitrate.ss = s.ss := by
  obtain ⟨_, h⟩ := s.arbitrate_acts
  exact h.ss

theorem State.relined_eq (s : State) (cls : HalfCycle) (interval : Nat) (peak : Byte) :
    ∃ l, s.relined cls interval peak
      = { s with ml := l, lm := s.lm.classify s.cfg cls interval } := by
  obtain ⟨l, hl⟩ :=
    ({ s with lm := s.lm.classify s.cfg cls interval } : State).postLine_eq s.lm.line peak
  exact ⟨l, hl⟩

/-- A change of line state in RUN on which both pockets act (R94). -/
theorem State.halfCycle_of_changed {s : State} {cls : HalfCycle} {interval : Nat} {peak : Byte}
    {f : State → PocketId → State} (hf : ∀ s p, ActsOn p s (f s p)) (hrun : s.ss.power = .run)
    (hline : (s.lm.classify s.cfg cls interval).line ≠ s.lm.line)
    (hacts : (s.relined cls interval peak).lineChanged
      = f (f (s.relined cls interval peak) .U) .L) :
    s.halfCycle cls interval peak = (f (f (s.relined cls interval peak) .U) .L).arbitrate := by
  obtain ⟨l, hl⟩ := s.relined_eq cls interval peak
  have hpower : (f (f (s.relined cls interval peak) .U) .L).arbitrate.ss.power = .run := by
    have hss : (s.relined cls interval peak).ss = s.ss := by rw [hl]
    rw [State.ss_arbitrate, (hf _ _).ss, (hf _ _).ss, hss, hrun]
  have hchanged : s.halfCycle cls interval peak
      = (s.relined cls interval peak).lineChanged.arbitrate.returnMarkBy cls :=
    congrArg (State.returnMarkBy · cls) (if_neg hline)
  rw [hchanged, hacts]
  exact if_neg (by rw [hpower]; decide)

theorem State.lineChanged_of_low {s : State} (hrun : s.ss.power = .run) (h : s.lm.line = .lowLine) :
    s.lineChanged = (s.lineLow .U).lineLow .L := by
  simp only [State.lineChanged, hrun, h]

theorem State.lineChanged_of_sound {s : State} (hrun : s.ss.power = .run) (h : s.lm.line = .normal) :
    s.lineChanged = (s.lineSound .U).lineSound .L := by
  simp only [State.lineChanged, hrun, h]

theorem State.lineLow_of_lit {s : State} {p : PocketId}
    (h : (s.pocket p).phase = .heat ∨ (s.pocket p).phase = .ignition) :
    s.lineLow p = s.enterHeatWait p :=
  if_pos h.symm

theorem State.lineLow_keeps (s : State) (p : PocketId) :
    ((s.lineLow p).pocket p).run = (s.pocket p).run
      ∧ ((s.lineLow p).pocket p).faults = (s.pocket p).faults := by
  unfold State.lineLow
  split
  · rw [State.pocket_enterHeatWait]
    exact ⟨rfl, rfl⟩
  · exact ⟨rfl, rfl⟩

/-- The line becoming sound takes a pocket that waits for it into IGNITION (R79). -/
theorem State.lineSound_of_waiting {s : State} {p : PocketId} (hrun : s.inRun = true)
    (hphase : (s.pocket p).phase = .heatWait) (hset : s.interlock p = true) :
    s.lineSound p = s.enterIgnition p := by
  have hkept : s.checkStartWait p = s :=
    State.checkStartWait_of_other (.inr (by rw [hphase]; decide))
  rw [State.lineSound, hkept]
  exact State.checkHeatWait_of_sound hrun hphase hset

/-- A crossing that changes the line state in RUN, where both pockets act on the change (R86, R94). -/
theorem exec_zeroCrossing_of_changed {dt : Nat} {v : Byte} {s : State} {last : Nat} {cls : HalfCycle}
    {new : LineState} {f : State → PocketId → State} (hf : ∀ s p, ActsOn p s (f s p))
    (hrun : s.ss.power = .run) (hlast : s.lm.lastCrossing = some last) (hlong : 7000 ≤ s.time + dt - last)
    (hmissed : s.lm.missed = false)
    (hcls : classOf s.cfg (s.time + dt - last)
      (if s.lm.peak.toNat < v.toNat then v else s.lm.peak) = cls)
    (hnew : ((s.lm.accept (s.time + dt)).classify s.cfg cls (s.time + dt - last)).line = new)
    (hne : new ≠ s.lm.line)
    (hacts : ∀ u : State, u.ss.power = .run → u.lm.line = new → u.lineChanged = f (f u .U) .L) :
    ∃ w : State, exec (.zeroCrossing dt v) s = .next (f (f w .U) .L).arbitrate
      ∧ (f (f w .U) .L).arbitrate.lm.line = new ∧ w.ss = s.ss ∧ w.cfg = s.cfg ∧ w.ic = s.ic
      ∧ w.lm.line = new ∧ (f (f w .U) .L).arbitrate.time = w.time ∧ ∀ p, w.pocket p = s.pocket p := by
  have hexec := exec_zeroCrossing_of_accepted (by rw [hrun]; rfl) hlast hlong hmissed hcls
  generalize (if s.lm.peak.toNat < v.toNat then v else s.lm.peak) = peak at hexec
  generalize s.time + dt - last = interval at hexec hnew
  obtain ⟨l, hl⟩ := (s.crossed (s.time + dt)).relined_eq cls interval peak
  have hw : ((s.crossed (s.time + dt)).relined cls interval peak).ss.power = .run := by
    rw [hl]
    exact hrun
  have hwline : ((s.crossed (s.time + dt)).relined cls interval peak).lm.line = new := by
    rw [hl]
    exact hnew
  have hhalf := State.halfCycle_of_changed hf (s := s.crossed (s.time + dt)) hrun
    (fun h => hne (hnew.symm.trans h)) (hacts _ hw hwline)
  rw [hhalf] at hexec
  refine ⟨_, hexec, ?_, ?_, ?_, ?_, hwline, ?_, fun p => ?_⟩
  · rw [State.lm_arbitrate, (hf _ _).lm, (hf _ _).lm, hwline]
  · rw [hl]; rfl
  · rw [hl]; rfl
  · rw [hl]; rfl
  · rw [State.time_arbitrate, (hf _ _).time, (hf _ _).time]
  · rw [hl]; rfl

/-! ### An input that fails in HEAT and IGNITION -/

/-- HEAT_WAIT as it is entered, and the grant that may follow (R76). -/
theorem State.enterHeatWait_leaves (s : State) (p : PocketId) :
    let t := (s.enterHeatWait p).arbitrate
    (t.pocket p).phase = .heatWait ∧ t.heatPermit p = false
      ∧ (t.pocket p).motorRun = (s.pocket p).motorRun ∧ (t.pocket p).run = (s.pocket p).run
      ∧ (t.pocket p).faults = (s.pocket p).faults ∧ t.jc.queue = s.jc.queue
      ∧ (t.pocket p).timers.heatGrace = (if (s.sense p).airflow.level = true then none
          else some (t.time + s.cfg.airflowGrace p * 1000000)) := by
  intro t
  have hself := s.pocket_enterHeatWait p
  have hphase : ((s.enterHeatWait p).pocket p).phase = .heatWait := by rw [hself]; rfl
  have hkept : t.pocket p = (s.enterHeatWait p).pocket p :=
    State.arbitrate_pocket_of_phase _ _ (by rw [hphase]; decide)
  have hqueue : (s.enterHeatWait p).jc.queue = s.jc.queue := by
    unfold State.enterHeatWait
    dsimp only
    split <;> rfl
  have htime : t.time = s.time :=
    (State.time_arbitrate _).trans ((ActsOn.refl p s).enterHeatWait).time
  refine ⟨by rw [hkept, hphase], State.heatPermit_of_phase (by rw [hkept, hphase]; decide),
    by rw [hkept]; exact (drivesOn_enterHeatWait s p).1, by rw [hkept, hself]; rfl,
    by rw [hkept, hself]; rfl, (State.queue_arbitrate _).trans hqueue, ?_⟩
  rw [hkept, hself, htime]
  rfl

theorem State.airflowLost_of_lit {s : State} {p : PocketId}
    (h : (s.pocket p).phase = .heat ∨ (s.pocket p).phase = .ignition) :
    s.airflowLost p = s.enterHeatWait p := by
  rcases h with h | h <;> simp [State.airflowLost, h]

theorem State.airflowLost_of_purge {s : State} {p : PocketId} (h : (s.pocket p).phase = .purge) :
    s.airflowLost p = s.setTimers p { (s.pocket p).timers with
      purge := none, heatGrace := some (s.time + seconds (s.cfg.airflowGrace p)) } := by
  simp [State.airflowLost, h]

theorem State.airflowLost_of_heatWait {s : State} {p : PocketId} (h : (s.pocket p).phase = .heatWait) :
    s.airflowLost p = s.setTimers p { (s.pocket p).timers with
      heatGrace := some (s.time + seconds (s.cfg.airflowGrace p)) } := by
  simp [State.airflowLost, h]

theorem State.airflowProven_of_purge {s : State} {p : PocketId} (h : (s.pocket p).phase = .purge) :
    s.airflowProven p = s.setTimers p { (s.pocket p).timers with
      purge := some (s.time + seconds (s.pocket p).run.copies.purge), heatGrace := none } := by
  simp [State.airflowProven, h]

theorem State.airflowProven_of_heatWait {s : State} {p : PocketId}
    (h : (s.pocket p).phase = .heatWait) :
    s.airflowProven p
      = (s.setTimers p { (s.pocket p).timers with heatGrace := none }).checkHeatWait p := by
  simp [State.airflowProven, h]

theorem State.airflowProven_of_spinup {s : State} {p : PocketId} (h : (s.pocket p).phase = .spinup) :
    s.airflowProven p = if (s.pocket p).proven then s.leaveSpinup p else s := by
  simp [State.airflowProven, h]

/-- A third trip ends heat with cause LIMIT, and the grant that may follow (R78). -/
theorem State.highLimitTrip_ends {s : State} {p : PocketId} (h : (s.pocket p).phase.heating = true)
    (htrips : 2 ≤ (s.pocket p).run.trips) :
    let t := (s.highLimitTrip p).arbitrate
    (t.pocket p).phase = .cool ∧ t.heatPermit p = false
      ∧ (t.pocket p).motorRun = (s.pocket p).motorRun
      ∧ (t.pocket p).faults = { (s.pocket p).faults with highLimit := true }
      ∧ t.jc.queue = enqueue s.jc.queue p .phase s.time
      ∧ ((s.pocket p).run.trips = 2 → (t.pocket p).run
        = { (s.pocket p).run with trips := 3, cause := .limit, target := .cool, c := 0 }) := by
  intro t
  have hself := s.pocket_tripCounted p
  have hheat : ((s.tripCounted p).pocket p).phase.heating = true := by rw [hself]; exact h
  have htrip : s.highLimitTrip p = (s.tripCounted p).endHeat p .limit false :=
    State.highLimitTrip_of_third h (by omega)
  have hphase : ((s.highLimitTrip p).pocket p).phase = .cool := by
    rw [htrip, State.phase_endHeat, if_pos hheat]
  have hkept : t.pocket p = (s.highLimitTrip p).pocket p :=
    State.arbitrate_pocket_of_phase _ _ (by rw [hphase]; decide)
  refine ⟨by rw [hkept, hphase], State.heatPermit_of_phase (by rw [hkept, hphase]; decide), ?_, ?_, ?_,
    fun h2 => ?_⟩
  · rw [hkept, htrip, State.motorRun_endHeat, hself]
  · rw [hkept, htrip, State.faults_endHeat, hself]
  · rw [State.queue_arbitrate, htrip, State.queue_endHeat, if_pos hheat, State.jc_tripCounted,
      State.time_tripCounted]
  · rw [hkept, htrip, State.run_endHeat, hself, h2]
    rfl

/-! ### A filtered change in RUN (R34) -/

/-- The state in which a pocket acts on a filtered change: the level is taken and its event posted. -/
def State.heard (s : State) (dt : Nat) (p : PocketId) (i : ContactInput) (level : Bool) : State :=
  (s.filtered dt p i level).postInput p i level

theorem State.heard_fields (s : State) (dt : Nat) (p : PocketId) (i : ContactInput) (level : Bool) :
    let v := s.heard dt p i level
    (∀ q, v.pocket q = s.pocket q) ∧ v.jc = s.jc ∧ v.ssa = s.ssa ∧ v.time = s.time + dt
      ∧ v.cfg = s.cfg ∧ v.lm = s.lm ∧ v.ss = s.ss
      ∧ v.sense p = (s.sense p).setContact i ⟨level, none, none⟩ := by
  have hsense := State.sense_setSense_self (s.advance dt) p ((s.sense p).setContact i ⟨level, none, none⟩)
  cases i <;> exact ⟨fun _ => rfl, rfl, rfl, rfl, rfl, rfl, rfl, hsense⟩

/-- The interlock set as a pocket finds it on the return of one of its two inputs (R64). -/
theorem State.interlock_heard (s : State) (dt : Nat) (p : PocketId) {i : ContactInput}
    (hi : i = .airflow ∨ i = .hilimit) : (s.heard dt p i true).interlock p = true ↔
      (s.lm.line = .normal ∨ s.lm.line = .rideThrough)
        ∧ (i = .airflow → (s.sense p).hilimit.level = true)
        ∧ (i = .hilimit → (s.sense p).airflow.level = true) := by
  obtain ⟨-, -, -, -, -, hlm, -, hsense⟩ := s.heard_fields dt p i true
  rw [State.interlock_iff, hlm, hsense]
  rcases hi with rfl | rfl
  · simp [Sensing.setContact, and_comm]
  · simp [Sensing.setContact, and_comm]

theorem motorHeld_inputChanged (s : State) (p : PocketId) {i : ContactInput}
    (hi : i = .airflow ∨ i = .hilimit) (level : Bool) : motorHeld p s (s.inputChanged p i level) := by
  rcases hi with rfl | rfl <;> cases level
  · exact motorHeld_airflowLost s p
  · exact motorHeld_airflowProven s p
  · exact motorHeld_highLimitTrip s p
  · exact motorHeld_checkHeatWait s p

/-- A pocket's timers replaced, with no request waiting at a free slot. -/
theorem State.pocket_setTimers_arbitrate {s : State} (h : s.slotServed) (p : PocketId)
    (x : PocketTimers) : (s.setTimers p x).arbitrate.pocket p = { s.pocket p with timers := x } := by
  rw [arbitrate_idle _ (show (s.setTimers p x).slotServed from h)]
  exact State.pocket_setTimers_self s p x

end Sys2Proof.Machine

open Sys2Proof Sys2Proof.Machine

/-- Settles O40: each input by its own rule, and both pockets by the line. -/
theorem interlockFailuresInterruptHeat : Obligations.InterlockFailuresInterruptHeat := by
  refine ⟨fun dt p since i s hrun hphase hi hsettled hcand hlevel hdue => ?_, ?_, ?_, ?_⟩
  · intro k
    have hexec := exec_contactFilterExpiry_of_run (level := false) hrun hsettled hcand hdue
      (by rw [hlevel]; rfl)
    obtain ⟨v, hv⟩ : ∃ v, v = s.heard dt p i false := ⟨_, rfl⟩
    obtain ⟨hpocket, hjc, -, -, hcfg, -, -, hsense⟩ := s.heard_fields dt p i false
    change exec _ s = .next ((s.heard dt p i false).inputChanged p i false).arbitrate at hexec
    rw [← hv] at hexec hpocket hjc hcfg hsense
    have hself : v.pocket p = k := hpocket p
    rcases hi with rfl | rfl
    · have hlost : v.inputChanged p .airflow false = v.enterHeatWait p :=
        State.airflowLost_of_lit (by rw [hself]; exact hphase)
      obtain ⟨hwait, hpermit, hmotor, hrecord, hfaults, hposted, hgrace⟩ := v.enterHeatWait_leaves p
      rw [hself] at hmotor hrecord hfaults
      rw [hsense] at hgrace
      rw [hlost] at hexec
      exact ⟨_, hexec, hpermit, hmotor, fun _ => ⟨hwait, hrecord, hfaults, hposted.trans (by rw [hjc]),
        by rw [hgrace, hcfg]; rfl⟩, nofun⟩
    · by_cases htrips : k.run.trips < 2
      · have htrip : v.inputChanged p .hilimit false = (v.tripCounted p).enterHeatWait p :=
          State.highLimitTrip_of_lit (by rw [hself]; exact hphase.symm) (by rw [hself]; exact htrips)
        obtain ⟨hwait, hpermit, hmotor, hrecord, hfaults, hposted, hgrace⟩ :=
          (v.tripCounted p).enterHeatWait_leaves p
        rw [v.pocket_tripCounted p, hself] at hmotor hrecord hfaults
        rw [htrip] at hexec
        refine ⟨_, hexec, hpermit, hmotor, nofun, fun _ => ⟨hfaults, fun _ => ⟨hwait, ?_⟩,
          fun h => absurd h (by omega)⟩⟩
        rw [hrecord, min_eq_right (by omega)]
      · have hheat : (v.pocket p).phase.heating = true := by
          rw [hself]
          rcases hphase with h | h <;> rw [show k.phase = _ from h] <;> rfl
        obtain ⟨hcool, hpermit, hmotor, hfaults, -, hrecord⟩ :=
          State.highLimitTrip_ends hheat (by rw [hself]; omega)
        rw [hself] at hmotor hfaults hrecord
        exact ⟨_, hexec, hpermit, hmotor, nofun, fun _ => ⟨hfaults, fun h => absurd h htrips,
          fun h => ⟨hcool, hrecord h⟩⟩⟩
  · intro dt v s last hrun hline hlast hmissed hlong hshort hpeak hlow
    have hcls := classOf_of_low (c := s.cfg) hshort (by rw [toNat_peak]; exact hpeak)
    have hacts : ∀ s p, ActsOn p s (State.lineLow s p) := fun s p => (ActsOn.refl p s).lineLow
    obtain ⟨w, hexec, hline', -, hcfg, hic, -, htime, hpocket⟩ := exec_zeroCrossing_of_changed hacts hrun
      hlast hlong hmissed hcls (LineMonitor.classify_low_of_reached _ hline hlow)
      (by rw [hline]; decide) (fun u => State.lineChanged_of_low)
    refine ⟨_, hexec, hline', fun p => ?_⟩
    obtain ⟨u, hu, hfinal⟩ := both_act ActsOn.refl hacts w p
    have hself : u.pocket p = s.pocket p := hu.self_of_other.trans (hpocket p)
    have hkept := hfinal.self_of_other
    obtain ⟨hrecord, hfaults⟩ := u.lineLow_keeps p
    refine ⟨by rw [State.run_arbitrate, hkept, hrecord, hself],
      by rw [State.faults_arbitrate, hkept, hfaults, hself], fun hphase => ?_⟩
    have hwait := hkept.trans
      (by rw [State.lineLow_of_lit (by rw [hself]; exact hphase), u.pocket_enterHeatWait p, hself])
    generalize State.lineLow (State.lineLow w .U) .L = t at htime hwait ⊢
    have hwaiting : (t.pocket p).phase = .heatWait := by rw [hwait]; rfl
    have hstill : t.arbitrate.pocket p = t.pocket p :=
      State.arbitrate_pocket_of_phase _ _ (by rw [hwaiting]; decide)
    have hutime : u.time = w.time := hu.time
    have hucfg : u.cfg = s.cfg := hu.cfg.trans hcfg
    have husense : u.sense p = s.sense p := congrArg (·.get p) (hu.ic.trans hic)
    refine ⟨by rw [hstill, hwaiting], State.heatPermit_of_phase (by rw [hstill, hwaiting]; decide),
      by rw [hstill, hwait]; simp [Pocket.move, Phase.dropsMotor], ?_⟩
    rw [hstill, hwait, htime, ← hutime]
    simp only [State.heatWaitTimers, husense, hucfg]
    rfl
  · intro dt p since i s hrun hi hsettled hcand hdue hslot k was grace sound
    obtain ⟨v, hv⟩ : ∃ v, v = s.heard dt p i !was := ⟨_, rfl⟩
    have hexec : exec (.contactFilterExpiry dt p i) s = .next (v.inputChanged p i !was).arbitrate := by
      rw [hv]
      exact exec_contactFilterExpiry_of_run hrun hsettled hcand hdue rfl
    obtain ⟨hpocket, hjc, hssa, htime, hcfg, -, hss, -⟩ := s.heard_fields dt p i !was
    rw [← hv] at hpocket hjc hssa htime hcfg hss
    have hself : v.pocket p = k := hpocket p
    have hserved : v.slotServed := by
      unfold State.slotServed
      rw [hssa]
      exact hslot
    have hinRun : v.inRun = true := beq_iff_eq.mpr (by rw [hss]; exact hrun)
    have hgrace : some (v.time + seconds (v.cfg.airflowGrace p)) = grace := by
      rw [htime, hcfg]
      rfl
    have hset : was = false → (v.interlock p = true ↔ sound) := by
      intro hwas
      rw [hv, hwas]
      exact s.interlock_heard dt p hi
    refine ⟨_, hexec, ?_, ?_, ?_, ?_, ?_, ?_, ?_, ?_, ?_, ?_, ?_⟩
    · exact (motorHeld_inputChanged v p hi _).arbitrate hserved |>.trans (by rw [hself])
    · have hother := (((ActsOn.refl p v).inputChanged i !was).frame).2.1
      unfold keepsOther at hother ⊢
      simpa only [hpocket] using hother
    · rintro hwas rfl hphase
      have hout : v.inputChanged p .hilimit (!was) = v.highLimitTrip p := by
        rw [hwas]
        rfl
      rw [hout]
      by_cases htrips : k.run.trips < 2
      · have htrip : v.highLimitTrip p = v.tripCounted p :=
          State.highLimitTrip_of_waiting (by rw [hself]; exact hphase) (by rw [hself]; exact htrips)
        have hidle : (v.tripCounted p).slotServed := by
          unfold State.slotServed
          rw [State.ssa_tripCounted]
          exact hserved
        have hcounted := v.pocket_tripCounted p
        rw [hself, min_eq_right (by omega)] at hcounted
        rw [htrip, arbitrate_idle _ hidle, hcounted, State.jc_tripCounted, hjc]
        exact ⟨rfl, fun _ => ⟨rfl, rfl, rfl, rfl⟩, fun h => absurd h (by omega)⟩
      · have hheat : (v.pocket p).phase.heating = true := by
          rw [hself]
          rcases hphase with h | h <;> rw [show k.phase = _ from h] <;> rfl
        obtain ⟨hcool, -, -, hfaults, hqueue, hrecord⟩ :=
          State.highLimitTrip_ends hheat (by rw [hself]; omega)
        rw [hself] at hfaults hrecord
        refine ⟨hfaults, fun h => absurd h htrips, fun h => ⟨hcool, ?_, hrecord h⟩⟩
        rw [State.time_arbitrate, ((ActsOn.refl p v).highLimitTrip).time]
        exact hqueue.trans (by rw [hjc])
    · rintro hwas rfl hphase
      rw [hwas]
      change (v.airflowLost p).arbitrate.pocket p = _
      rw [State.airflowLost_of_purge (by rw [hself]; exact hphase),
        State.pocket_setTimers_arbitrate hserved, hself, hgrace]
    · rintro hwas rfl hphase
      rw [hwas]
      change (v.airflowLost p).arbitrate.pocket p = _
      rw [State.airflowLost_of_heatWait (by rw [hself]; exact hphase),
        State.pocket_setTimers_arbitrate hserved, hself, hgrace]
    · rintro hwas rfl hphase
      rw [hwas]
      change (v.airflowProven p).arbitrate.pocket p = _
      rw [State.airflowProven_of_purge (by rw [hself]; exact hphase),
        State.pocket_setTimers_arbitrate hserved, hself, htime]
      rfl
    · rintro hwas rfl hphase hbroken
      have hlock : ¬ v.interlock p = true := fun h => hbroken ((hset hwas).mp h)
      rw [hwas]
      change (v.airflowProven p).arbitrate.pocket p = _
      rw [State.airflowProven_of_heatWait (by rw [hself]; exact hphase),
        State.checkHeatWait_of_broken (s := v.setTimers p _) hlock, State.pocket_setTimers_arbitrate hserved, hself]
    · rintro hwas rfl hphase hbroken
      have hlock : ¬ v.interlock p = true := fun h => hbroken ((hset hwas).mp h)
      rw [hwas]
      change (v.checkHeatWait p).arbitrate.pocket p = _
      rw [State.checkHeatWait_of_broken hlock, arbitrate_idle v hserved, hself]
    · intro hwas hphase hsound hsensor
      have hlock : v.interlock p = true := (hset hwas).mpr hsound
      rw [hwas]
      rcases hi with rfl | rfl
      · have hout : v.inputChanged p .airflow (!false) = v.airflowProven p := rfl
        rw [hout, State.airflowProven_of_heatWait (by rw [hself]; exact hphase)]
        obtain ⟨w, hw⟩ : ∃ w, w = v.setTimers p { (v.pocket p).timers with heatGrace := none } :=
          ⟨_, rfl⟩
        have hwself : w.pocket p = { k with timers := { k.timers with heatGrace := none } } := by
          rw [hw, State.pocket_setTimers_self, hself]
        have hwlock : w.interlock p = true := by rw [hw]; exact hlock
        have hgranted := State.enterIgnition_granted (by rw [hwself]; exact hsensor) hwlock
        rw [hwself] at hgranted
        rw [← hw, State.checkHeatWait_of_sound (by rw [hw]; exact hinRun) (by rw [hwself]; exact hphase)
          hwlock]
        exact hgranted
      · have hout : v.inputChanged p .hilimit (!false) = v.checkHeatWait p := rfl
        have hgranted := State.enterIgnition_granted (by rw [hself]; exact hsensor) hlock
        rw [hself] at hgranted
        rw [hout, State.checkHeatWait_of_sound hinRun (by rw [hself]; exact hphase) hlock]
        exact hgranted
    · rintro hwas rfl hphase hproven
      have hout : v.inputChanged p .airflow (!was) = v.leaveSpinup p := by
        rw [hwas]
        change v.airflowProven p = _
        rw [State.airflowProven_of_spinup (by rw [hself]; exact hphase), hself, hproven]
        rfl
      rw [hout]
      refine ⟨fun htarget => ?_, fun htarget hsensor hsound => ?_⟩
      · rw [State.leaveSpinup_of_cool (by rw [hself]; exact htarget),
          State.arbitrate_pocket_of_phase _ _ (by rw [State.phase_enterPhase]; decide),
          State.run_enterPhase, hself, State.queue_arbitrate, State.queue_enterPhase,
          State.time_arbitrate, hjc]
        exact ⟨State.phase_enterPhase _ _ _, rfl, rfl⟩
      · rw [State.leaveSpinup_of_heat (by rw [hself]; exact htarget)]
        obtain ⟨hheat, hkept, -, -⟩ := State.towardHeat_of_ready (s := v) (p := p)
          (by rw [hself]; exact hsensor) ((hset hwas).mpr hsound)
        have hmoving : ((v.towardHeat p).pocket p).phase ≠ .acRest := by
          rw [hheat, State.heatPhase]
          split <;> decide
        rw [State.run_arbitrate, State.phase_arbitrate hmoving, hkept, hheat, State.heatPhase, hself]
        exact ⟨rfl, rfl⟩
    · rintro hwas rfl hphase hproven
      rw [hwas]
      change (v.airflowProven p).arbitrate.pocket p = _
      rw [State.airflowProven_of_spinup (by rw [hself]; exact hphase), hself, hproven]
      rw [if_neg (by decide), arbitrate_idle v hserved, hself]
  · intro dt v s last hrun hline hlast hmissed hlong hshort hpeak hgood
    have hcls := classOf_of_good (c := s.cfg) hshort (by rw [toNat_peak]; exact hpeak)
    have hacts : ∀ s p, ActsOn p s (State.lineSound s p) := fun s p => (ActsOn.refl p s).lineSound
    obtain ⟨w, hexec, hline', hss, -, hic, hwline, -, hpocket⟩ := exec_zeroCrossing_of_changed hacts
      hrun hlast hlong hmissed hcls (LineMonitor.classify_good_of_recovered _ hline hgood)
      (by rw [hline]; decide) (fun u => State.lineChanged_of_sound)
    refine ⟨_, hexec, hline', fun p hphase hsensor hair hlimit => ?_⟩
    obtain ⟨u, ⟨hu, -⟩, hfinal, hstarts⟩ := both_act
      (R := fun p s t => ActsOn p s t ∧ keepsOthersStarts p s t)
      (fun p s => ⟨ActsOn.refl p s, .refl p s⟩)
      (fun s p => ⟨hacts s p, (keepsOthersStarts.refl p s).lineSound⟩) w p
    have hself : u.pocket p = s.pocket p := hu.self_of_other.trans (hpocket p)
    have hinRun : u.inRun = true := beq_iff_eq.mpr (by rw [hu.ss, hss, hrun])
    have husense : u.sense p = s.sense p := congrArg (·.get p) (hu.ic.trans hic)
    have hset : u.interlock p = true :=
      (u.interlock_iff p).mpr (by rw [husense, hu.lm, hwline]; exact ⟨hair, hlimit, .inl rfl⟩)
    rw [State.lineSound_of_waiting hinRun (by rw [hself]; exact hphase) hset] at hfinal hstarts
    obtain ⟨hlit, -, hssa⟩ := State.enterIgnition_of_ready (by rw [hself]; exact hsensor) hset
    have hkept := hfinal.self_of_other.trans hlit
    rw [hself] at hkept
    have hqueued := hstarts ⟨p, .heatStart⟩ (by simp) (by rw [hssa]; exact Arbiter.mem_arrive _ _)
    generalize State.lineSound (State.lineSound w .U) .L = t at hkept hqueued ⊢
    have hignition : (t.pocket p).phase = .ignition := by rw [hkept]; rfl
    have hmotor := State.arbitrate_motorRun t p (by rw [hignition]; decide)
    refine ⟨(State.phase_arbitrate (by rw [hignition]; decide)).trans hignition,
      (State.run_arbitrate t p).trans (by rw [hkept]; rfl), hmotor.trans (by rw [hkept]; simp [Pocket.move, Phase.dropsMotor]),
      State.heatStart_arbitrate hqueued rfl⟩
end

section
/-! Plans applied at CONTINUE, CONFIRM and DECLINE (R152 to R157). -/

namespace Sys2Proof.Machine

/-! ### The phase a plan enters (R152) -/

/-- A plan into START_WAIT, which a closed door and a NORMAL line end at once (R10). -/
theorem State.enterPlan_waits {s : State} {p : PocketId} {pl : PlanRecord} (kind : RecordKind)
    (hrun : s.inRun = true) (h : pl.dest = .startWait) :
    let u := s.enterPlan p pl kind
    (u.pocket p).phase
        = (if (s.sense p).door.level ∧ s.lm.line = .normal then .spinup else .startWait)
      ∧ (u.pocket p).run = pl.run (s.pocket p).run s.bd.stamp
      ∧ (u.pocket p).faults = (s.pocket p).faults ∧ (u.pocket p).frozen = false
      ∧ u.jc.queue = enqueue s.jc.queue p kind s.time := by
  intro u
  obtain ⟨v, hv⟩ : ∃ v, v = ((s.setRun p (pl.run (s.pocket p).run s.bd.stamp)).changePhase p
      .startWait).postRequest p kind := ⟨_, rfl⟩
  have hu : u = v.checkStartWait p := by
    rw [hv]
    exact (State.enterPlan_eq s p pl kind).trans (by rw [h]; rfl)
  have hself : (v.pocket p).phase = .startWait
      ∧ (v.pocket p).run = pl.run (s.pocket p).run s.bd.stamp
      ∧ (v.pocket p).faults = (s.pocket p).faults ∧ (v.pocket p).frozen = false := by
    rw [hv, State.pocket_postRequest_self, State.pocket_changePhase_self, State.pocket_setRun_self]
    simp [Pocket.move, Phase.running]
  obtain ⟨hphase, hrecord, hfaults, hfrozen⟩ := hself
  have hqueue : v.jc.queue = enqueue s.jc.queue p kind s.time := by rw [hv]; rfl
  have hinRun : v.inRun = true := by rw [hv]; exact hrun
  have hsense : v.sense p = s.sense p := by rw [hv]; rfl
  have hline : v.lm = s.lm := by rw [hv]; rfl
  rw [hu, State.pocket_checkStartWait, State.queue_checkStartWait, hinRun, hphase, hsense, hline, hqueue]
  by_cases hgo : (s.sense p).door.level = true ∧ s.lm.line = .normal
  · rw [if_pos ⟨rfl, rfl, hgo⟩, if_pos hgo]
    exact ⟨rfl, hrecord, hfaults, by simp [Pocket.move, Phase.running], rfl⟩
  · rw [if_neg (fun h => hgo h.2.2), if_neg hgo]
    exact ⟨hphase, hrecord, hfaults, hfrozen, rfl⟩

/-- A plan into AC_REST (R57). -/
theorem State.enterPlan_rests {s : State} {p : PocketId} {pl : PlanRecord} (kind : RecordKind)
    (h : pl.dest = .acRest) :
    let u := s.enterPlan p pl kind
    (u.pocket p).phase = .acRest
      ∧ (u.pocket p).run = { pl.run (s.pocket p).run s.bd.stamp with target := .antiCrease }
      ∧ (u.pocket p).faults = (s.pocket p).faults ∧ u.ssa.Without p
      ∧ u.jc.queue = enqueue s.jc.queue p kind s.time ∧ (u.pocket p).frozen = false
      ∧ (u.pocket p).timers.rest
        = some (s.time + (pl.run (s.pocket p).run s.bd.stamp).rest * 1000000) := by
  intro u
  obtain ⟨v, hv⟩ : ∃ v, v = ((s.setRun p (pl.run (s.pocket p).run s.bd.stamp)).enterAcRest
      p).postRequest p kind := ⟨_, rfl⟩
  have hself := State.pocket_postRequest_self
    ((s.setRun p (pl.run (s.pocket p).run s.bd.stamp)).enterAcRest p) p kind
  have hpocket : ((s.setRun p (pl.run (s.pocket p).run s.bd.stamp)).enterAcRest p).pocket p = _ :=
    State.pocket_setPocket_self _ p _
  rw [← hv, hpocket, State.pocket_changePhase_self, State.pocket_setRun_self] at hself
  have hu : u = v := by
    refine (State.enterPlan_eq s p pl kind).trans ?_
    rw [if_pos h, ← hv]
    exact State.checkStartWait_of_other (.inr (by rw [hself]; exact nofun))
  rw [hu, hself]
  refine ⟨rfl, rfl, rfl, ?_, by rw [hv]; rfl, by simp [Pocket.move, Phase.running], ?_⟩
  · rw [hv]
    exact Arbiter.without_leave s.ssa p _ (new := .acRest) rfl
  · cases kind <;>
      simp [Pocket.move, Phase.running, State.enterAcRest, seconds, RecordKind.restartsPeriodic]

/-- A plan into any other phase (R152). -/
theorem State.enterPlan_enters {s : State} {p : PocketId} {pl : PlanRecord} (kind : RecordKind)
    (hwait : pl.dest ≠ .startWait) (hrest : pl.dest ≠ .acRest) :
    let u := s.enterPlan p pl kind
    (u.pocket p).phase = pl.dest
      ∧ (u.pocket p).run = pl.run (s.pocket p).run s.bd.stamp
      ∧ (u.pocket p).faults = (s.pocket p).faults
      ∧ u.jc.queue = enqueue s.jc.queue p kind s.time
      ∧ (u.pocket p).frozen = ((s.pocket p).frozen && !pl.dest.running) := by
  intro u
  obtain ⟨v, hv⟩ : ∃ v, v = ((s.setRun p (pl.run (s.pocket p).run s.bd.stamp)).changePhase p
      pl.dest).postRequest p kind := ⟨_, rfl⟩
  have hself := State.pocket_postRequest_self
    ((s.setRun p (pl.run (s.pocket p).run s.bd.stamp)).changePhase p pl.dest) p kind
  rw [← hv, State.pocket_changePhase_self, State.pocket_setRun_self] at hself
  have hu : u = v := by
    refine (State.enterPlan_eq s p pl kind).trans ?_
    rw [if_neg hrest, ← hv]
    exact State.checkStartWait_of_other (.inr (by rw [hself]; exact hwait))
  rw [hu, hself]
  exact ⟨rfl, rfl, rfl, by rw [hv]; rfl, rfl⟩

/-! ### A plan held and entered at a request -/

/-- The state in which a request's plan has been held and its phase entered. -/
def State.planned (s : State) (p : PocketId) (pl : PlanRecord) (kind : RecordKind) : State :=
  (s.holdPlan p pl).enterPlan p pl kind

/-- What the request leaves outside its pocket, and the plan kept (R143, R152). -/
theorem planned_replied (s : State) (dt : Nat) (k tag : Byte) (p : PocketId) (pl : PlanRecord)
    (kind : RecordKind) (r : Reply) :
    let t := (((s.asked dt k tag).planned p pl kind).carriedOut r).settle
    answers s t k tag r ∧ keepsWorld s t ∧ keepsOther p s t ∧ t.rp.get p = some pl
      ∧ t.rp.get p.other = s.rp.get p.other ∧ t.time = s.time + dt := by
  intro t
  obtain ⟨a, ha⟩ : ∃ a : State, a = ({ s with rp := s.rp.set p (some pl) } : State).setRun p
    (pl.run (s.pocket p).run s.bd.stamp) := ⟨_, rfl⟩
  have hheld : ActsOn p (a.asked dt k tag) (((s.asked dt k tag).holdPlan p pl).setRun p
      (pl.run (s.pocket p).run s.bd.stamp)) := by
    rw [ha]
    exact (ActsOn.refl p _).post .planReady (some p) (pairArg pl.kind.code pl.reasons.byte)
  have hacts := hheld.trans (((s.asked dt k tag).holdPlan p pl).enterPlan_acts p pl kind)
  obtain ⟨htime, hanswers, honly⟩ := hacts.replied r
  rw [ha] at honly hanswers htime
  obtain ⟨hworld, hother, -⟩ :=
    actsOnPocket_of_setPocket (s := { s with rp := s.rp.set p (some pl) }) honly
  obtain ⟨-, -, -, -, -, -, hrp, -⟩ := carriedOut_keeps ((s.asked dt k tag).planned p pl kind) r p
  have hplans : t.rp = s.rp.set p (some pl) := hrp.trans (hacts.rp.trans (by rw [ha]; rfl))
  refine ⟨hanswers, hworld, hother, ?_, ?_, htime⟩
  · rw [hplans]
    simp
  · rw [hplans]
    simp

/-- A plan that leads to START_WAIT, once the request is carried out. -/
theorem planned_waits {s : State} (dt : Nat) (k tag : Byte) {p : PocketId} {pl : PlanRecord}
    (kind : RecordKind) (r : Reply) (hs : s.serving) (h : pl.dest = .startWait) :
    let t := (((s.asked dt k tag).planned p pl kind).carriedOut r).settle
    (t.pocket p).phase
        = (if (s.sense p).door.level ∧ s.lm.line = .normal then .spinup else .startWait)
      ∧ (t.pocket p).run = pl.run (s.pocket p).run s.bd.stamp
      ∧ (t.pocket p).faults = (s.pocket p).faults ∧ (t.pocket p).frozen = false
      ∧ t.jc.queue = enqueue s.jc.queue p kind (s.time + dt) := by
  intro t
  have hrun : ((s.asked dt k tag).holdPlan p pl).inRun = true := hs.inRun_asked dt k tag
  obtain ⟨hphase, hrecord, hfaults, hfrozen, hqueue⟩ := State.enterPlan_waits (p := p) kind hrun h
  obtain ⟨krecord, kfaults, kphase, -, -, kqueue, -⟩ :=
    carriedOut_keeps ((s.asked dt k tag).planned p pl kind) r p
  have hmoving : (((s.asked dt k tag).planned p pl kind).pocket p).phase ≠ .acRest := by
    unfold State.planned
    rw [hphase]
    split <;> decide
  obtain ⟨hkept, hreleased⟩ := kphase hmoving
  exact ⟨hkept.trans hphase, krecord.trans hrecord, kfaults.trans hfaults, hreleased.trans hfrozen,
    kqueue.trans hqueue⟩

/-- A plan that leads to AC_REST, once the request is carried out. -/
theorem planned_rests {s : State} (dt : Nat) (k tag : Byte) {p : PocketId} {pl : PlanRecord}
    (kind : RecordKind) (r : Reply) (h : pl.dest = .acRest) :
    let t := (((s.asked dt k tag).planned p pl kind).carriedOut r).settle
    (t.pocket p).phase = .acRest
      ∧ (t.pocket p).run = { pl.run (s.pocket p).run s.bd.stamp with target := .antiCrease }
      ∧ (t.pocket p).faults = (s.pocket p).faults
      ∧ t.jc.queue = enqueue s.jc.queue p kind (s.time + dt) := by
  intro t
  obtain ⟨hphase, hrecord, hfaults, hwithout, hqueue, -, -⟩ :=
    State.enterPlan_rests (s := (s.asked dt k tag).holdPlan p pl) (p := p) kind h
  obtain ⟨krecord, kfaults, -, -, -, kqueue, -⟩ :=
    carriedOut_keeps ((s.asked dt k tag).planned p pl kind) r p
  have hkept : t.pocket p = ((s.asked dt k tag).planned p pl kind).pocket p :=
    State.arbitrate_pocket_of_without hwithout
  exact ⟨by rw [hkept]; exact hphase, krecord.trans hrecord, kfaults.trans hfaults,
    kqueue.trans hqueue⟩

/-- A plan that leads to another phase, once the request is carried out. -/
theorem planned_enters {s : State} (dt : Nat) (k tag : Byte) {p : PocketId} {pl : PlanRecord}
    (kind : RecordKind) (r : Reply) (hwait : pl.dest ≠ .startWait) (hrest : pl.dest ≠ .acRest) :
    let t := (((s.asked dt k tag).planned p pl kind).carriedOut r).settle
    (t.pocket p).phase = pl.dest
      ∧ (t.pocket p).run = pl.run (s.pocket p).run s.bd.stamp
      ∧ (t.pocket p).faults = (s.pocket p).faults
      ∧ t.jc.queue = enqueue s.jc.queue p kind (s.time + dt) := by
  intro t
  obtain ⟨hphase, hrecord, hfaults, hqueue, -⟩ :=
    State.enterPlan_enters (s := (s.asked dt k tag).holdPlan p pl) (p := p) kind hwait hrest
  obtain ⟨krecord, kfaults, kphase, -, -, kqueue, -⟩ :=
    carriedOut_keeps ((s.asked dt k tag).planned p pl kind) r p
  obtain ⟨hkept, -⟩ := kphase (by unfold State.planned; rw [hphase]; exact hrest)
  exact ⟨hkept.trans hphase, krecord.trans hrecord, kfaults.trans hfaults, kqueue.trans hqueue⟩

/-! ### CONTINUE (R24, R154) -/

theorem continuePlan_of_heat {c : WorkingCopy} {b : Backup} {k : Sensing} {pk : Pocket}
    (h : pk.run.target = .heat) : continuePlan c b k pk
      = { stayPlan .resumeHeat .startWait .heat (liveFigures c b k pk) 0 with applied := true } := by
  simp only [continuePlan, h]

theorem continuePlan_of_cool {c : WorkingCopy} {b : Backup} {k : Sensing} {pk : Pocket}
    (h : pk.run.target ≠ .heat) : continuePlan c b k pk
      = { coolDecision c pk.run (liveFigures c b k pk) 0 with applied := true } := by
  unfold continuePlan
  cases htarget : pk.run.target with
  | heat => exact absurd htarget h
  | cool => rfl
  | antiCrease => rfl

theorem coolDecision_of_warm {c : WorkingCopy} {run : RunRecord} {fig : Figures} (door : Nat)
    (h : run.thetaX < fig.thetaN) : coolDecision c run fig door
      = { stayPlan .resumeCool .startWait .cool fig door with
          cPrime := min run.c (run.coolTarget - c.cmin) } :=
  if_neg (by omega)

/-- The way a load at or below θX takes out of cooling (R149). -/
def RunRecord.skipTo (run : RunRecord) : Phase :=
  match run.coolExit with
  | .antiCrease => if 0 < run.window then .acRest else .done
  | .done => .done
  | .faultHold => .faultHold

theorem coolDecision_of_cold {c : WorkingCopy} {run : RunRecord} {fig : Figures} (door : Nat)
    (h : fig.thetaN ≤ run.thetaX) : coolDecision c run fig door
      = stayPlan .skipToAntiCrease run.skipTo (if run.skipTo = .acRest then .antiCrease else run.target)
          fig door :=
  if_pos h

theorem RunRecord.skipTo_eq_acRest {run : RunRecord} :
    run.skipTo = .acRest ↔ run.coolExit = .antiCrease ∧ 0 < run.window := by
  cases hexit : run.coolExit <;> simp [RunRecord.skipTo, hexit]

theorem RunRecord.skipTo_ne_startWait (run : RunRecord) : run.skipTo ≠ .startWait := by
  unfold RunRecord.skipTo
  split
  · split <;> decide
  · decide
  · decide

/-- A skip that does not lead to AC_REST leaves the run record (R153). -/
theorem RunRecord.skipped_of_closed {run : RunRecord} (h : run.skipTo ≠ .acRest) (fig : Figures)
    (now : Stamp) :
    ({ stayPlan .skipToAntiCrease run.skipTo
        (if run.skipTo = .acRest then .antiCrease else run.target) fig 0 with
        applied := true } : PlanRecord).run run now = run := by
  have hwait := run.skipTo_ne_startWait
  have hclosed : run.skipTo = .done ∨ run.skipTo = .faultHold := by
    revert h
    unfold RunRecord.skipTo
    cases run.coolExit
    · by_cases hw : 0 < run.window <;> simp [hw]
    · simp
    · simp
  rcases hclosed with h | h <;> rw [h] <;> rfl

/-- A resumed heat changes the credit alone where the target is HEAT already (R153). -/
theorem RunRecord.resumed_of_heat {run : RunRecord} (h : run.target = .heat) (d : Nat) :
    ({ { run with d := d } with target := .heat } : RunRecord) = { run with d := d } := by
  rw [← h]

/-- The figures and the reasons of a CONTINUE (R154). -/
theorem continuePlan_fields (c : WorkingCopy) (b : Backup) (k : Sensing) (pk : Pocket) :
    (continuePlan c b k pk).applied = true
      ∧ (continuePlan c b k pk).figures = liveFigures c b k pk
      ∧ (continuePlan c b k pk).reasons = ⟨false, false, false, false, false⟩ := by
  by_cases htarget : pk.run.target = .heat
  · rw [continuePlan_of_heat htarget]
    exact ⟨rfl, rfl, rfl⟩
  · rw [continuePlan_of_cool htarget]
    by_cases h : (liveFigures c b k pk).thetaN ≤ pk.run.thetaX
    · rw [coolDecision_of_cold 0 h]
      exact ⟨rfl, rfl, rfl⟩
    · rw [coolDecision_of_warm 0 (by omega)]
      exact ⟨rfl, rfl, rfl⟩

theorem exec_continueCycle_of_paused {s : State} {p : PocketId} (dt : Nat) (tag : Byte)
    (hs : s.serving) (hpaused : (s.pocket p).phase = .paused) (hdoor : (s.sense p).door.level = true) :
    exec (.continueCycle dt tag (pocketByte p)) s
      = .next (((s.asked dt 0x08#8 tag).planned p
          (continuePlan s.cfg s.bd (s.sense p) (s.pocket p)) .resume).carriedOut .ok).settle := by
  have hrun := hs.inRun_asked dt 0x08#8 tag
  have hphase : ((s.asked dt 0x08#8 tag).pocket p).phase = .paused := hpaused
  have hclosed : ((s.asked dt 0x08#8 tag).sense p).door.level = true := hdoor
  refine congrArg _ ((request_served s dt tag (.continueCycle (pocketByte p)) hs.listening).trans
    (congrArg Served.settle ?_))
  simp only [State.serve, State.serveContinue, State.pocketRequest, pocketOfByte_pocketByte,
    Request.kind, hrun, hphase, hclosed]
  rfl

/-! ### CONFIRM and DECLINE (R156, R157) -/

theorem exec_confirm_of_held {s : State} {p : PocketId} (dt : Nat) (tag : Byte)
    (hs : s.serving) (hheld : (s.pocket p).phase = .held) :
    exec (.confirm dt tag (pocketByte p)) s
      = .next (((s.asked dt 0x0A#8 tag).planned p
          (confirmPlan s.cfg s.bd (s.sense p) (s.pocket p) (s.rp.get p)) .resume).carriedOut .ok).settle := by
  have hrun := hs.inRun_asked dt 0x0A#8 tag
  have hphase : ((s.asked dt 0x0A#8 tag).pocket p).phase = .held := hheld
  refine congrArg _ ((request_served s dt tag (.confirm (pocketByte p)) hs.listening).trans
    (congrArg Served.settle ?_))
  simp only [State.serve, State.serveConfirm, State.pocketRequest, pocketOfByte_pocketByte,
    Request.kind, hrun, hphase]
  rfl

theorem declined_of_cold {s : State} {p : PocketId}
    (h : (liveFigures s.cfg s.bd (s.sense p) (s.pocket p)).thetaN ≤ (s.pocket p).run.thetaX) :
    s.declined p = { stayPlan .finish .done (s.pocket p).run.target
        (liveFigures s.cfg s.bd (s.sense p) (s.pocket p)) (oldDoorCount (s.rp.get p)) with
      reasons := liveReasons s.cfg s.bd (s.pocket p) (s.rp.get p), applied := true } := by
  simp only [State.declined, declinePlan, if_pos h]

theorem declined_of_warm {s : State} {p : PocketId}
    (h : (s.pocket p).run.thetaX < (liveFigures s.cfg s.bd (s.sense p) (s.pocket p)).thetaN) :
    s.declined p = { stayPlan .resumeCool .startWait .cool
        (liveFigures s.cfg s.bd (s.sense p) (s.pocket p)) (oldDoorCount (s.rp.get p)) with
      cPrime := (s.pocket p).run.coolTarget - s.cfg.cmin
      reasons := liveReasons s.cfg s.bd (s.pocket p) (s.rp.get p), applied := true } := by
  have hcold : ¬ (liveFigures s.cfg s.bd (s.sense p) (s.pocket p)).thetaN ≤ (s.pocket p).run.thetaX := by
    omega
  simp only [State.declined, declinePlan, if_neg hcold]

/-- A DECLINE of a warm load, once it is carried out: heat ends with STOP, then cooling resumes. -/
theorem declined_waits {s : State} (dt : Nat) (k tag : Byte) {p : PocketId} {pl : PlanRecord}
    (r : Reply) (hs : s.serving) (hheld : (s.pocket p).phase = .held) (h : pl.dest = .startWait) :
    let t := (((((s.asked dt k tag).holdPlan p pl).endHeat p .stop false).enterPlan p pl
      .resume).carriedOut r).settle
    (t.pocket p).phase
        = (if (s.sense p).door.level ∧ s.lm.line = .normal then .spinup else .startWait)
      ∧ (t.pocket p).run = pl.run ((s.pocket p).run.endHeat .stop false) s.bd.stamp
      ∧ (t.pocket p).faults = (s.pocket p).faults ∧ (t.pocket p).frozen = false
      ∧ t.jc.queue = enqueue s.jc.queue p .resume (s.time + dt) := by
  intro t
  obtain ⟨a, ha⟩ : ∃ a, a = (s.asked dt k tag).holdPlan p pl := ⟨_, rfl⟩
  have hself : a.pocket p = s.pocket p := by rw [ha]; rfl
  have hend : ActsOn p a (a.endHeat p .stop false) := (ActsOn.refl p a).endHeat _ _
  have hrun : (a.endHeat p .stop false).inRun = true := by
    rw [hend.inRun, ha]
    exact hs.inRun_asked dt k tag
  have hsense : (a.endHeat p .stop false).sense p = s.sense p :=
    congrArg (·.get p) (hend.ic.trans (by rw [ha]; rfl))
  have hline : (a.endHeat p .stop false).lm = s.lm := hend.lm.trans (by rw [ha]; rfl)
  have hbd : (a.endHeat p .stop false).bd = s.bd := hend.bd.trans (by rw [ha]; rfl)
  have htime : (a.endHeat p .stop false).time = s.time + dt := hend.time.trans (by rw [ha]; rfl)
  have hqueued : (a.endHeat p .stop false).jc.queue = s.jc.queue := by
    rw [State.queue_endHeat, hself, hheld, ha]
    rfl
  obtain ⟨hphase, hrecord, hfaults, hfrozen, hqueue⟩ := State.enterPlan_waits (p := p) .resume hrun h
  rw [hsense, hline] at hphase
  rw [State.run_endHeat, hself, hbd] at hrecord
  rw [State.faults_endHeat, hself] at hfaults
  rw [hqueued, htime] at hqueue
  obtain ⟨krecord, kfaults, kphase, -, -, kqueue, -⟩ :=
    carriedOut_keeps ((a.endHeat p .stop false).enterPlan p pl .resume) r p
  obtain ⟨hkept, hreleased⟩ := kphase (by rw [hphase]; split <;> decide)
  have ht : t = (((a.endHeat p .stop false).enterPlan p pl .resume).carriedOut r).settle := by rw [ha]
  rw [ht]
  exact ⟨hkept.trans hphase, krecord.trans hrecord, kfaults.trans hfaults, hreleased.trans hfrozen,
    kqueue.trans hqueue⟩

end Sys2Proof.Machine

open Sys2Proof Sys2Proof.Machine

/-- Settles O18, by the target and by the load's temperature. -/
theorem continueAppliesALivePlan : Obligations.ContinueAppliesALivePlan := by
  intro dt tag p s hs hpaused hdoor r fig
  obtain ⟨pl, hpl⟩ : ∃ pl, pl = continuePlan s.cfg s.bd (s.sense p) (s.pocket p) := ⟨_, rfl⟩
  have hexec := exec_continueCycle_of_paused dt tag hs hpaused hdoor
  rw [← hpl] at hexec
  obtain ⟨hanswers, hworld, hother, hheld, hheldOther, htime⟩ :=
    planned_replied s dt 0x08#8 tag p pl .resume .ok
  obtain ⟨happlied, hfigures, hreasons⟩ := continuePlan_fields s.cfg s.bd (s.sense p) (s.pocket p)
  rw [← hpl] at happlied hfigures hreasons
  have hline : (if (s.sense p).door.level = true ∧ s.lm.line = .normal then Phase.spinup else .startWait)
      = (if s.lm.line = .normal then .spinup else .startWait) := by simp [hdoor]
  by_cases htarget : r.target = .heat
  · rw [continuePlan_of_heat htarget] at hpl
    obtain ⟨hphase, hrecord, hfaults, hfrozen, hqueue⟩ :=
      planned_waits (pl := pl) dt 0x08#8 tag .resume .ok hs (by rw [hpl]; rfl)
    refine ⟨_, pl, hexec, hanswers, hworld, hother, hfaults, by rw [htime]; exact hqueue, hheld,
      hheldOther, happlied, hfigures, hreasons, fun _ => ⟨by rw [hpl]; rfl, ?_, hphase.trans hline,
      hfrozen⟩, fun h => absurd htarget h, fun h => absurd htarget h⟩
    rw [hrecord, hpl]
    exact RunRecord.resumed_of_heat htarget _
  · rw [continuePlan_of_cool htarget] at hpl
    by_cases hwarm : r.thetaX < fig.thetaN
    · rw [coolDecision_of_warm 0 hwarm] at hpl
      obtain ⟨hphase, hrecord, hfaults, hfrozen, hqueue⟩ :=
        planned_waits (pl := pl) dt 0x08#8 tag .resume .ok hs (by rw [hpl]; rfl)
      exact ⟨_, pl, hexec, hanswers, hworld, hother, hfaults, by rw [htime]; exact hqueue, hheld,
        hheldOther, happlied, hfigures, hreasons, fun h => absurd h htarget,
        fun _ _ => ⟨by rw [hpl]; rfl, by rw [hrecord, hpl]; rfl, hphase.trans hline, hfrozen⟩,
        fun _ h => absurd hwarm (by omega)⟩
    · have hcold : fig.thetaN ≤ r.thetaX := by omega
      rw [coolDecision_of_cold 0 hcold] at hpl
      have hdest : pl.dest = r.skipTo := by rw [hpl]; rfl
      by_cases hrest : r.skipTo = .acRest
      · obtain ⟨hexit, hwindow⟩ := RunRecord.skipTo_eq_acRest.mp hrest
        obtain ⟨hphase, hrecord, hfaults, hqueue⟩ :=
          planned_rests (s := s) (p := p) (pl := pl) dt 0x08#8 tag .resume .ok (hdest.trans hrest)
        refine ⟨_, pl, hexec, hanswers, hworld, hother, hfaults, by rw [htime]; exact hqueue, hheld,
          hheldOther, happlied, hfigures, hreasons, fun h => absurd h htarget,
          fun _ h => absurd h hwarm, fun _ _ => ⟨by rw [hpl]; rfl, fun _ _ => ⟨hphase, ?_⟩,
          fun h => ?_, fun h => ?_⟩⟩
        · rw [hrecord, hpl, stayPlan, hrest]
          rfl
        · rcases h with h | ⟨-, h⟩
          · exact absurd (hexit.symm.trans h) (by decide)
          · omega
        · exact absurd (hexit.symm.trans h) (by decide)
      · obtain ⟨hphase, hrecord, hfaults, hqueue⟩ := planned_enters (s := s) (p := p) (pl := pl) dt
          0x08#8 tag .resume .ok (by rw [hdest]; exact r.skipTo_ne_startWait) (by rw [hdest]; exact hrest)
        have hkept : pl.run r s.bd.stamp = r := by
          rw [hpl]
          exact RunRecord.skipped_of_closed hrest _ _
        refine ⟨_, pl, hexec, hanswers, hworld, hother, hfaults, by rw [htime]; exact hqueue, hheld,
          hheldOther, happlied, hfigures, hreasons, fun h => absurd h htarget,
          fun _ h => absurd h hwarm, fun _ _ => ⟨by rw [hpl]; rfl, fun hexit hwindow => ?_,
          fun h => ⟨?_, hrecord.trans hkept⟩, fun h => ⟨?_, hrecord.trans hkept⟩⟩⟩
        · exact absurd (RunRecord.skipTo_eq_acRest.mpr ⟨hexit, hwindow⟩) hrest
        · rw [hphase, hdest]
          rcases h with h | ⟨h, hwindow⟩
          · simp [RunRecord.skipTo, h]
          · simp [RunRecord.skipTo, h, hwindow]
        · rw [hphase, hdest]
          simp [RunRecord.skipTo, h]

/-- Settles O19: CONFIRM by its plan, DECLINE by the load's temperature. -/
theorem heldPlansAreDecided : Obligations.HeldPlansAreDecided := by
  refine ⟨fun dt tag p s hs hphase => ?_, fun dt tag p s hs hphase => ?_⟩
  · intro r fig
    obtain ⟨pl, hpl⟩ : ∃ pl, pl = confirmPlan s.cfg s.bd (s.sense p) (s.pocket p) (s.rp.get p) :=
      ⟨_, rfl⟩
    have hexec := exec_confirm_of_held dt tag hs hphase
    rw [← hpl] at hexec
    obtain ⟨hanswers, hworld, hother, hheld, hheldOther, htime⟩ :=
      planned_replied s dt 0x0A#8 tag p pl .resume .ok
    obtain ⟨hphase, hrecord, hfaults, hfrozen, hqueue⟩ :=
      planned_waits (pl := pl) dt 0x0A#8 tag .resume .ok hs (by rw [hpl]; rfl)
    exact ⟨_, pl, hexec, hanswers, hworld, hother, hheld, hheldOther, by rw [hpl]; rfl,
      by rw [hpl]; rfl, by rw [hpl]; rfl, by rw [hrecord, hpl]; rfl, hfaults, hphase, hfrozen,
      by rw [htime]; exact hqueue⟩
  · intro r fig
    obtain ⟨a, ha⟩ : ∃ a, a = s.asked dt 0x0B#8 tag := ⟨_, rfl⟩
    obtain ⟨pl, hpl⟩ : ∃ pl, pl = a.declined p := ⟨_, rfl⟩
    have hexec := exec_decline_of_held dt tag hs hphase
    rw [← ha] at hexec
    have hacts := a.decline_acts p
    rw [← hpl] at hacts
    have hasked : ActsOn p { s.asked dt 0x0B#8 tag with rp := a.rp.set p (some pl) } (a.decline p) := by
      rw [← ha]
      exact hacts
    obtain ⟨hanswers, hworld, hother⟩ := replied_with_plans hasked .ok
    obtain ⟨-, -, -, -, -, -, hrp, -⟩ := carriedOut_keeps (a.decline p) .ok p
    have hplans : ((a.decline p).carriedOut .ok).settle.rp = s.rp.set p (some pl) :=
      hrp.trans (hacts.rp.trans (by rw [ha]; rfl))
    have htime : ((a.decline p).carriedOut .ok).settle.time = s.time + dt :=
      (State.time_arbitrate _).trans (hacts.time.trans (by rw [ha]; rfl))
    have hfig : liveFigures a.cfg a.bd (a.sense p) (a.pocket p) = fig := by rw [ha]; rfl
    have hr : (a.pocket p).run = r := by rw [ha]; rfl
    refine ⟨_, pl, hexec, hanswers, hworld, hother, by rw [hplans]; simp, by rw [hplans]; simp, ?_⟩
    by_cases hcold : fig.thetaN ≤ r.thetaX
    · rw [declined_of_cold (by rw [hfig, hr]; exact hcold)] at hpl
      have hdeclined : a.decline p = (s.asked dt 0x0B#8 tag).planned p pl .phase := by
        rw [State.decline_eq, declined_of_cold (by rw [hfig, hr]; exact hcold), ← hpl, ← ha, hpl]
        rfl
      obtain ⟨hdone, hrecord, hfaults, hqueue⟩ := planned_enters (s := s) (p := p) (pl := pl) dt 0x0B#8
        tag .phase .ok (by rw [hpl]; exact nofun) (by rw [hpl]; exact nofun)
      rw [← hdeclined] at hdone hrecord hfaults hqueue
      exact ⟨by rw [hpl], by rw [hpl]; exact hfig, hfaults,
        fun _ => ⟨by rw [hpl]; rfl, by rw [hdone, hpl]; rfl, by rw [hrecord, hpl]; rfl,
          by rw [htime, hqueue]⟩, fun h => absurd h (by omega)⟩
    · have hwarm : r.thetaX < fig.thetaN := by omega
      rw [declined_of_warm (by rw [hfig, hr]; exact hwarm)] at hpl
      have hdeclined : a.decline p = ((a.holdPlan p pl).endHeat p .stop false).enterPlan p pl
          .resume := by
        rw [State.decline_eq, declined_of_warm (by rw [hfig, hr]; exact hwarm), ← hpl]
        exact if_pos (by rw [hpl]; rfl)
      obtain ⟨hwait, hrecord, hfaults, hfrozen, hqueue⟩ :=
        declined_waits (pl := pl) dt 0x0B#8 tag .ok hs hphase (by rw [hpl]; rfl)
      rw [← ha, ← hdeclined] at hwait hrecord hfaults hfrozen hqueue
      refine ⟨by rw [hpl], by rw [hpl]; exact hfig, hfaults, fun h => absurd h hcold,
        fun _ => ⟨by rw [hpl]; rfl, ?_, hwait, hfrozen, by rw [htime, hqueue]⟩⟩
      rw [hrecord, hpl, hr, ha]
      rfl
end

section
/-! The planner: its four stages and its decisions (R144 to R151). -/

namespace Sys2Proof.Machine

/-! ### The four stages (R145 to R147) -/

/-- Every entry of a decay table in range is at most 256. -/
theorem CopySafe.decay_le {c : WorkingCopy} (h : CopySafe c) (i : Nat) : c.decay i ≤ 256 := by
  obtain ⟨-, hall⟩ := inRanges_replicate.mp
    (inRanges_drop h.plan 6 : inRanges (List.replicate 16 (.number 0 256)) (c.plan.drop 6) = true)
  have hget : c.planField (6 + i) = (c.plan.drop 6).getD i 0 := by
    simp [WorkingCopy.planField, List.getD_eq_getElem?_getD, List.getElem?_drop]
  have hle : (c.plan.drop 6).getD i 0 ≤ 256 := by
    by_cases hi : i < (c.plan.drop 6).length
    · rw [List.getD_eq_getElem _ _ hi]
      exact (ok_number_iff.mp (hall _ (List.getElem_mem hi))).2
    · rw [List.getD_eq_default _ _ (by omega)]
      decide
  unfold WorkingCopy.decay
  omega

/-- The factor of R145 is at most 256. -/
theorem decayFactor_le {c : WorkingCopy} (h : CopySafe c) (e : Nat) : decayFactor c e ≤ 256 := by
  unfold decayFactor
  dsimp only
  split
  · exact h.decay_le 15
  · exact (Nat.sub_le _ _).trans (h.decay_le _)

theorem stageOne_le {c : WorkingCopy} (h : CopySafe c) (e : Option Nat) : stageOne c e ≤ 256 := by
  cases e with
  | none => exact Nat.zero_le _
  | some e => exact decayFactor_le h e

theorem loadTemperature_of_hot {c : WorkingCopy} {thetaRef : Int} (e : Nat) (theta : Option Int)
    (distrust : Bool) (h : c.thetaA < thetaRef) :
    loadTemperature c thetaRef (some e) theta distrust
      = c.thetaA + (thetaRef - c.thetaA) * (decayFactor c e : Int) / 256 :=
  if_pos h

theorem loadTemperature_of_cool {c : WorkingCopy} {thetaRef : Int} (e : Nat) (theta : Option Int)
    (distrust : Bool) (h : thetaRef ≤ c.thetaA) :
    loadTemperature c thetaRef (some e) theta distrust = thetaRef :=
  if_neg (by omega)

theorem loadTemperature_of_sensed (c : WorkingCopy) (thetaRef th : Int) :
    loadTemperature c thetaRef none (some th) false = max (min c.thetaA thetaRef) (min thetaRef th) :=
  rfl

theorem loadTemperature_of_unknown (c : WorkingCopy) (thetaRef : Int) {theta : Option Int}
    {distrust : Bool} (h : distrust = true ∨ theta = none) :
    loadTemperature c thetaRef none theta distrust = min c.thetaA thetaRef := by
  rcases h with rfl | rfl
  · cases theta <;> rfl
  · rfl

/-- The load is estimated no warmer than the reference (R146). -/
theorem loadTemperature_le {c : WorkingCopy} (h : CopySafe c) (thetaRef : Int) (e : Option Nat)
    (theta : Option Int) (distrust : Bool) :
    loadTemperature c thetaRef e theta distrust ≤ thetaRef := by
  cases e with
  | some e =>
    by_cases hhot : c.thetaA < thetaRef
    · have hf : (decayFactor c e : Int) ≤ 256 := by exact_mod_cast decayFactor_le h e
      have hprod : (thetaRef - c.thetaA) * (decayFactor c e : Int) ≤ (thetaRef - c.thetaA) * 256 :=
        Int.mul_le_mul_of_nonneg_left hf (by omega)
      rw [loadTemperature_of_hot e theta distrust hhot]
      omega
    · exact (loadTemperature_of_cool e theta distrust (by omega)).le
  | none =>
    cases theta with
    | none => exact min_le_right _ _
    | some th =>
      cases distrust with
      | true => exact min_le_right _ _
      | false => exact max_le (min_le_right _ _) (min_le_left _ _)

/-! ### What the planner reads (R111, R144) -/

theorem distrusts_eq (k : Sensing) (faults : FaultSet) : distrusts k faults
    = (decide (k.theta = none) || decide (k.goodRun = 0) || faults.sensor) := by
  have hrun : (k.goodRun == 0) = decide (k.goodRun = 0) := by
    rw [Bool.eq_iff_iff]
    simp
  unfold distrusts
  rw [hrun]
  cases k.theta <;> simp

/-! ### Decisions (R148 to R150) -/

theorem HoldReasons.any_eq_false_iff (r : HoldReasons) :
    r.any = false ↔ r = ⟨false, false, false, false, false⟩ := by
  obtain ⟨a, b, c, d, e⟩ := r
  simp [HoldReasons.any, and_assoc]

/-- The anti-crease decision finishes where the window is over or cannot be known (R150). -/
theorem antiCreaseDecision_of_ended {b : Backup} {run : RunRecord} {fig : Figures} {door : Nat}
    (h : fig.e = none ∨ 0 < door ∨ run.acStart.epoch ≠ b.epoch
      ∨ run.window ≤ b.clock - run.acStart.clock) :
    antiCreaseDecision b run fig door = stayPlan .finish .done run.target fig door := by
  unfold antiCreaseDecision
  dsimp only
  by_cases hknown : fig.e.isNone = true ∨ 0 < door
  · rw [if_pos hknown]
  · by_cases hepoch : run.acStart.epoch ≠ b.epoch
    · rw [if_neg hknown, if_pos hepoch]
    · have hpassed : run.window ≤ b.clock - run.acStart.clock := by
        rcases h with h | h | h | h
        · exact absurd (.inl (by rw [h]; rfl)) hknown
        · exact absurd (.inr h) hknown
        · exact absurd h hepoch
        · exact h
      rw [if_neg hknown, if_neg hepoch, if_pos hpassed]

/-- What is left of the window is resumed (R150). -/
theorem antiCreaseDecision_of_open {b : Backup} {run : RunRecord} {fig : Figures} {door : Nat}
    (h : ¬ (fig.e = none ∨ 0 < door ∨ run.acStart.epoch ≠ b.epoch
      ∨ run.window ≤ b.clock - run.acStart.clock)) :
    antiCreaseDecision b run fig door
      = { stayPlan .resumeAntiCrease .acRest .antiCrease fig door with
          window := run.window - (b.clock - run.acStart.clock) } := by
  obtain ⟨hknown, hdoor, hepoch, hleft⟩ : fig.e ≠ none ∧ ¬ 0 < door ∧ ¬ run.acStart.epoch ≠ b.epoch
      ∧ ¬ run.window ≤ b.clock - run.acStart.clock := by
    simpa only [not_or] using h
  have hfound : ¬ (fig.e.isNone = true ∨ 0 < door) := by
    rw [Option.isNone_iff_eq_none]
    exact not_or.mpr ⟨hknown, hdoor⟩
  unfold antiCreaseDecision
  dsimp only
  rw [if_neg hfound, if_neg hepoch, if_neg hleft]
  rfl

/-- The figures at the end of a scan (R111, R144). -/
def scanFigures (c : WorkingCopy) (b : Backup) (k : Sensing) (run : RunRecord) (faults : FaultSet) :
    Figures :=
  figures c run (b.elapsed run.tref) k.theta (distrusts k faults)

/-- The reasons to hold a heat resume at the end of a scan (R148). -/
def scanReasons (c : WorkingCopy) (b : Backup) (run : RunRecord) (kind : RecordKind)
    (phase : RecordedPhase) (door : Nat) : HoldReasons :=
  holdReasons c (b.elapsed run.tref) door (staleRecord kind phase) run.autoResume

theorem scanPlan_heat_of_free {c : WorkingCopy} {b : Backup} {k : Sensing} {run : RunRecord}
    {kind : RecordKind} {faults : FaultSet} {door : Nat}
    (h : scanReasons c b run kind .heat door = ⟨false, false, false, false, false⟩) :
    scanPlan c b k run (.record kind .heat faults) door
      = stayPlan .resumeHeat .startWait .heat (scanFigures c b k run faults) door :=
  if_neg (Bool.eq_false_iff.mp ((HoldReasons.any_eq_false_iff _).mpr h))

theorem scanPlan_heat_of_held {c : WorkingCopy} {b : Backup} {k : Sensing} {run : RunRecord}
    {kind : RecordKind} {faults : FaultSet} {door : Nat}
    (h : scanReasons c b run kind .heat door ≠ ⟨false, false, false, false, false⟩) :
    scanPlan c b k run (.record kind .heat faults) door
      = { stayPlan .holdHeat .held .heat (scanFigures c b k run faults) door with
          reasons := scanReasons c b run kind .heat door } :=
  if_pos (Bool.eq_true_of_not_eq_false fun hany => h ((HoldReasons.any_eq_false_iff _).mp hany))

theorem staleRecord_eq (kind : RecordKind) (phase : RecordedPhase) : staleRecord kind phase
    = decide (kind ≠ .loss ∧ (phase = .heat ∨ phase = .cool ∨ phase = .antiCrease)) := by
  cases kind <;> cases phase <;> rfl

end Sys2Proof.Machine

open Sys2Proof Sys2Proof.Machine

/-- Settles O54: stage by stage, then decision by decision. -/
theorem planFiguresStayInBounds : Obligations.PlanFiguresStayInBounds := by
  refine ⟨fun c run e theta distrust hsafe => ?_, fun c b k pocket => ?_, fun c b k run door => ?_⟩
  · intro g F step ambient
    have hcopy := (copySafe_iff c).mp hsafe
    refine ⟨rfl, rfl, ?_, fun he hhot => ?_, fun he hcool => ?_, ?_, ?_, stageOne_le hcopy e,
      loadTemperature_le hcopy _ _ _ _, min_le_left _ _, Nat.sub_le _ _, rfl, rfl, rfl, rfl⟩
    · cases e <;> rfl
    · obtain ⟨e, rfl⟩ := Option.ne_none_iff_exists'.mp he
      exact loadTemperature_of_hot e theta distrust hhot
    · obtain ⟨e, rfl⟩ := Option.ne_none_iff_exists'.mp he
      exact loadTemperature_of_cool e theta distrust hcool
    · rintro rfl rfl th rfl
      exact loadTemperature_of_sensed c run.thetaRef th
    · rintro rfl hblind
      exact loadTemperature_of_unknown c run.thetaRef hblind
  · rw [← distrusts_eq]
    rfl
  · intro stay
    refine ⟨rfl, rfl, fun kind faults => ?_⟩
    intro e g reasons plan
    have hg : scanFigures c b k run faults = g := by
      unfold scanFigures
      rw [distrusts_eq]
      rfl
    have hreasons : ∀ phase, scanReasons c b run kind phase door = reasons phase := by
      intro phase
      have hnone : e.isNone = decide (e = none) := by cases e <;> simp
      have hauto : (!run.autoResume || c.omax == 0)
          = decide (run.autoResume = false ∨ c.omax = 0) := by
        rw [Bool.eq_iff_iff]
        simp
      have hfields : scanReasons c b run kind phase door = ⟨e.isNone, (reasons phase).longOutage,
          decide (0 < door), staleRecord kind phase, !run.autoResume || c.omax == 0⟩ := rfl
      rw [hfields, hnone, staleRecord_eq, hauto]
    refine ⟨fun hfree => ?_, fun hheld => ?_, fun hwarm => ?_, fun hcold hexit hwindow => ?_,
      fun hcold hexit => ?_, fun hcold hexit => ?_, ⟨fun hended => ?_, fun hopen => ?_⟩, ?_, ?_, ?_, ?_,
      ?_⟩
    · rw [← hreasons] at hfree
      exact (scanPlan_heat_of_free hfree).trans (by rw [hg]; rfl)
    · rw [← hreasons] at hheld
      exact (scanPlan_heat_of_held hheld).trans (by rw [hg, hreasons]; rfl)
    · rw [← hg] at hwarm ⊢
      exact coolDecision_of_warm door hwarm
    · have hskip : run.skipTo = .acRest := RunRecord.skipTo_eq_acRest.mpr ⟨hexit, hwindow⟩
      rw [← hg] at hcold ⊢
      exact (coolDecision_of_cold door hcold).trans (by rw [hskip]; rfl)
    · have hskip : run.skipTo = .done := by
        rcases hexit with h | ⟨h, hwindow⟩
        · simp [RunRecord.skipTo, h]
        · simp [RunRecord.skipTo, h, hwindow]
      rw [← hg] at hcold ⊢
      exact (coolDecision_of_cold door hcold).trans (by rw [hskip]; rfl)
    · have hskip : run.skipTo = .faultHold := by simp [RunRecord.skipTo, hexit]
      rw [← hg] at hcold ⊢
      exact (coolDecision_of_cold door hcold).trans (by rw [hskip]; rfl)
    · rw [← hg]
      exact antiCreaseDecision_of_ended hended
    · rw [← hg]
      exact antiCreaseDecision_of_open hopen
    · rw [← hg]; rfl
    · rw [← hg, ← hreasons]; rfl
    · rw [← hg]; rfl
    · rw [← hg]; rfl
    · rw [← hg]; rfl

end

section
/-! The stored formats read back: the configuration block (R175, R180) and the record of 12.5. -/

namespace Sys2Proof.Machine

/-! ### Bytes and words at an offset (00 section 7) -/

theorem byteAt_drop (bs : List Byte) (i j : Nat) : byteAt (bs.drop i) j = byteAt bs (i + j) := by
  simp [byteAt, List.getD_eq_getElem?_getD]

theorem u16At_drop (bs : List Byte) (i j : Nat) : u16At (bs.drop i) j = u16At bs (i + j) := by
  simp [u16At, byteAt_drop, Nat.add_assoc]

/-- The two bytes of a word make the word. -/
theorem toNat_bytes (v : Half) : (v.extractLsb' 0 8).toNat + 256 * (v.extractLsb' 8 8).toNat = v.toNat := by
  have hv := v.isLt
  simp only [BitVec.extractLsb'_toNat, Nat.shiftRight_eq_div_pow]
  omega

theorem u16At_le16 (v : Half) (rest : List Byte) : u16At (le16 v ++ rest) 0 = v.toNat :=
  toNat_bytes v

/-! ### Fields of the configuration in 16 bits (12.2) -/

/-- Every value of the range has its own 16 bits, and the choices ascend. -/
def FieldRange.carried : FieldRange → Bool
  | .number lo hi => 0 ≤ lo && hi ≤ 65535
  | .temperature lo hi => (-32768) ≤ lo && hi ≤ 32767
  | .choice cs => cs.all (fun v => 0 ≤ v && v ≤ 65535) && decide (cs.Pairwise (· < ·))
  | .member n => n ≤ 65536
  | .classes => true

theorem toNat_fieldHalf {v : Int} (hlow : 0 ≤ v) (hhigh : v ≤ 65535) :
    ((fieldHalf v).toNat : Int) = v := by
  rw [fieldHalf, BitVec.toNat_ofInt]
  omega

theorem toInt_fieldHalf {v : Int} (hlow : -32768 ≤ v) (hhigh : v ≤ 32767) : (fieldHalf v).toInt = v := by
  rw [fieldHalf, BitVec.toInt_ofInt, Int.bmod_eq_of_le] <;> omega

/-- A value in its range is what its 16 bits mean (12.2). -/
theorem FieldRange.decode_fieldHalf {r : FieldRange} (hr : r.carried = true) {v : Int}
    (hv : r.ok v = true) : r.decode (fieldHalf v) = v := by
  cases r with
  | number lo hi =>
    simp only [FieldRange.carried, FieldRange.ok, Bool.and_eq_true, decide_eq_true_eq] at hr hv
    exact toNat_fieldHalf (by omega) (by omega)
  | temperature lo hi =>
    simp only [FieldRange.carried, FieldRange.ok, Bool.and_eq_true, decide_eq_true_eq] at hr hv
    exact toInt_fieldHalf (by omega) (by omega)
  | choice cs =>
    simp only [FieldRange.carried, Bool.and_eq_true, List.all_eq_true, decide_eq_true_eq] at hr
    obtain ⟨hlow, hhigh⟩ := hr.1 v (List.contains_iff_mem.mp hv)
    exact toNat_fieldHalf hlow hhigh
  | member n =>
    simp only [FieldRange.carried, FieldRange.ok, Bool.and_eq_true, decide_eq_true_eq] at hr hv
    exact toNat_fieldHalf (by omega) (by omega)
  | classes =>
    simp only [FieldRange.ok, Bool.and_eq_true, decide_eq_true_eq] at hv
    exact toNat_fieldHalf (by omega) (by omega)

theorem clampChoice_of_mem {cs : List Int} (hsorted : cs.Pairwise (· < ·)) {v : Int} (h : v ∈ cs) :
    clampChoice cs v = v := by
  induction cs with
  | nil => cases h
  | cons c cs ih =>
    obtain ⟨habove, hsorted⟩ := List.pairwise_cons.mp hsorted
    cases cs with
    | nil => exact (List.mem_singleton.mp h).symm
    | cons c' cs =>
      unfold clampChoice
      rcases List.mem_cons.mp h with rfl | h
      · exact if_pos (le_refl v)
      · rw [if_neg (by have := habove v h; omega)]
        exact ih hsorted h

/-- A value in its range takes no correction (R175). -/
theorem FieldRange.correct_of_ok {r : FieldRange} (hr : r.carried = true) (d : Int) {v : Int}
    (hv : r.ok v = true) : r.correct d v = v := by
  cases r with
  | number lo hi =>
    simp only [FieldRange.ok, Bool.and_eq_true, decide_eq_true_eq] at hv
    change max lo (min hi v) = v
    omega
  | temperature lo hi =>
    simp only [FieldRange.ok, Bool.and_eq_true, decide_eq_true_eq] at hv
    change max lo (min hi v) = v
    omega
  | choice cs =>
    simp only [FieldRange.carried, Bool.and_eq_true, decide_eq_true_eq] at hr
    exact clampChoice_of_mem hr.2 (List.contains_iff_mem.mp hv)
  | member n => exact if_pos hv
  | classes =>
    simp only [FieldRange.ok, Bool.and_eq_true, decide_eq_true_eq] at hv
    exact Int.emod_eq_of_lt hv.1 hv.2

/-! ### Groups -/

theorem correctFields_of_inRanges {rs : List FieldRange} (hr : rs.all (·.carried) = true)
    {ds vs : List Int} (hd : ds.length = rs.length) (hv : inRanges rs vs = true) :
    correctFields rs ds vs = vs := by
  induction rs generalizing ds vs with
  | nil => cases vs <;> simp_all [inRanges, correctFields]
  | cons r rs ih =>
    obtain ⟨hcarried, hrest⟩ : r.carried = true ∧ rs.all (·.carried) = true := by simpa using hr
    cases ds with
    | nil => simp at hd
    | cons d ds =>
      cases vs with
      | nil => rfl
      | cons v vs =>
        obtain ⟨hok, hoks⟩ : r.ok v = true ∧ inRanges rs vs = true := by simpa [inRanges] using hv
        rw [correctFields, FieldRange.correct_of_ok hcarried d hok, ih hrest (by simpa using hd) hoks]

/-- A group's fields read back from where they stand (R180). -/
theorem decodeFields_encodeFields {rs : List FieldRange} (hr : rs.all (·.carried) = true)
    {vs : List Int} (hv : inRanges rs vs = true) {bs rest : List Byte} {offset : Nat}
    (hbs : bs.drop offset = encodeFields vs ++ rest) : decodeFields bs offset rs = vs := by
  induction rs generalizing vs offset with
  | nil => cases vs <;> simp_all [inRanges, decodeFields]
  | cons r rs ih =>
    obtain ⟨hcarried, hrest⟩ : r.carried = true ∧ rs.all (·.carried) = true := by simpa using hr
    cases vs with
    | nil => simp [inRanges] at hv
    | cons v vs =>
      obtain ⟨hok, hoks⟩ : r.ok v = true ∧ inRanges rs vs = true := by simpa [inRanges] using hv
      have hword : u16At bs offset = (fieldHalf v).toNat := by
        rw [← Nat.add_zero offset, ← u16At_drop, hbs]
        exact u16At_le16 _ _
      have hnext : bs.drop (offset + 2) = encodeFields vs ++ rest := by
        rw [← List.drop_drop, hbs]
        rfl
      rw [decodeFields, hword, BitVec.ofNat_toNat, BitVec.setWidth_eq,
        FieldRange.decode_fieldHalf hcarried hok, ih hrest hoks hnext]

/-! ### The order of the tables (R98, R174) -/

theorem lowerAfter_of_sorted {prev : Int} {xs : List Int} (h : (prev :: xs).Pairwise (· ≥ ·)) :
    lowerAfter prev xs = xs := by
  induction xs generalizing prev with
  | nil => rfl
  | cons x xs ih =>
    obtain ⟨hprev, hrest⟩ := List.pairwise_cons.mp h
    have hx : ¬ x > prev := by have := hprev x List.mem_cons_self; omega
    rw [lowerAfter, if_neg hx, ih hrest]

theorem normaliseDecay_of_sorted {xs : List Int} (h : xs.Pairwise (· ≥ ·)) : normaliseDecay xs = xs := by
  cases xs with
  | nil => rfl
  | cons x xs => exact congrArg _ (lowerAfter_of_sorted h)

theorem raiseAfter_of_sorted {prev : Int} {xs : List Int} (h : (prev :: xs).Pairwise (· < ·)) :
    raiseAfter prev xs = xs := by
  induction xs generalizing prev with
  | nil => rfl
  | cons x xs ih =>
    obtain ⟨hprev, hrest⟩ := List.pairwise_cons.mp h
    have hx : ¬ x ≤ prev := by have := hprev x List.mem_cons_self; omega
    rw [raiseAfter, if_neg hx, ih hrest]

theorem upwardPass_of_sorted {xs : List Int} (h : xs.Pairwise (· < ·)) : upwardPass xs = xs := by
  cases xs with
  | nil => rfl
  | cons x xs => exact congrArg _ (raiseAfter_of_sorted h)

theorem downwardPass_of_sorted {xs : List Int} (h : xs.Pairwise (· < ·)) : downwardPass xs = xs := by
  induction xs with
  | nil => rfl
  | cons x xs ih =>
    obtain ⟨hx, hrest⟩ := List.pairwise_cons.mp h
    rw [downwardPass, ih hrest]
    cases xs with
    | nil => rfl
    | cons y ys =>
      have hxy : ¬ x ≥ y := by have := hx y List.mem_cons_self; omega
      exact congrArg (· :: y :: ys) (if_neg hxy)

theorem normaliseCodes_of_sorted {xs : List Int} (h : xs.Pairwise (· < ·)) : normaliseCodes xs = xs := by
  rw [normaliseCodes, upwardPass_of_sorted h, downwardPass_of_sorted h]

theorem CopySafe.withDecay_eq {c : WorkingCopy} (h : CopySafe c) : c.withDecay = c := by
  rw [WorkingCopy.withDecay, normaliseDecay_of_sorted h.decay, List.take_append_drop]

theorem CopySafe.withCodes_eq {c : WorkingCopy} (h : CopySafe c) : c.withCodes = c := by
  have hparts : c.part.take 13 ++ c.breakCodes ++ c.part.drop 22 = c.part := by
    have hdrop : c.part.drop 22 = (c.part.drop 13).drop 9 := by rw [List.drop_drop]
    rw [WorkingCopy.breakCodes, hdrop, List.append_assoc, List.take_append_drop, List.take_append_drop]
  rw [WorkingCopy.withCodes, normaliseCodes_of_sorted h.codes, hparts]

theorem set_getD_self {vs : List Int} {i : Nat} {v : Int} (h : v = vs.getD i 0) : vs.set i v = vs := by
  subst h
  refine List.ext_getElem (by simp) fun j hj hj' => ?_
  rw [List.getElem_set]
  split
  · next hij =>
    subst hij
    exact List.getD_eq_getElem _ _ hj'
  · rfl

theorem CopySafe.withThresholds_eq {c : WorkingCopy} (h : CopySafe c) : c.withThresholds = c := by
  have hfloor := h.floor
  have hwake := h.wake
  have harm := h.arm
  have h7 : c.part.set 7 (max (c.partField 7) (c.partField 8 + 1)) = c.part :=
    set_getD_self (by change _ = c.partField 7; omega)
  have h5 : c.part.set 5 (max (c.partField 5) (max (c.partField 7) (c.partField 8 + 1))) = c.part :=
    set_getD_self (by change _ = c.partField 5; omega)
  have h6 : c.part.set 6 (max (c.partField 6)
      (max (c.partField 5) (max (c.partField 7) (c.partField 8 + 1)))) = c.part :=
    set_getD_self (by change _ = c.partField 6; omega)
  unfold WorkingCopy.withThresholds
  dsimp only
  rw [h7, h5, h6]

/-- A copy in range and in order takes no correction (R175). -/
theorem CopySafe.correctCopy_eq {c : WorkingCopy} (h : CopySafe c) : correctCopy c = c := by
  have hfixed : ({ part := correctFields partRanges Config.partDefaults c.part
                   inst := ⟨correctFields instRanges Config.instDefaults c.inst.u,
                     correctFields instRanges Config.instDefaults c.inst.l⟩
                   plan := correctFields planRanges Config.planDefaults c.plan } : WorkingCopy) = c := by
    rw [correctFields_of_inRanges (by decide) rfl h.part, correctFields_of_inRanges (by decide) rfl h.instU,
      correctFields_of_inRanges (by decide) rfl h.instL, correctFields_of_inRanges (by decide) rfl h.plan]
  rw [correctCopy, hfixed, h.withDecay_eq, h.withCodes_eq, h.withThresholds_eq]

/-! ### The block (R180) -/

theorem shaped_of_copySafe {c : WorkingCopy} (h : CopySafe c) : shaped c = true :=
  (shaped_iff c).mpr ⟨length_of_inRanges h.part, length_of_inRanges h.instU, length_of_inRanges h.instL,
    length_of_inRanges h.plan⟩

theorem blockFields_composeBlock {c : WorkingCopy} (h : CopySafe c) :
    blockFields (composeBlock c) = c := by
  have hpart := length_of_inRanges h.part
  have hu := length_of_inRanges h.instU
  have hl := length_of_inRanges h.instL
  obtain ⟨rest, hrest⟩ : ∃ rest, rest = le16 (crc16 (blockBody c)) ++ List.replicate 330 0#8 := ⟨_, rfl⟩
  have hblock : composeBlock c = [0xA7#8, 178#8] ++ (encodeFields c.part ++ (encodeFields c.inst.u
      ++ (encodeFields c.inst.l ++ (encodeFields c.plan ++ rest)))) := by
    rw [hrest]
    simp only [composeBlock, blockBody, List.append_assoc]
  have h2 : (composeBlock c).drop 2 = encodeFields c.part ++ (encodeFields c.inst.u
      ++ (encodeFields c.inst.l ++ (encodeFields c.plan ++ rest))) := by
    rw [hblock]
    rfl
  have h64 : (composeBlock c).drop 64 = encodeFields c.inst.u
      ++ (encodeFields c.inst.l ++ (encodeFields c.plan ++ rest)) := by
    rw [show 64 = 2 + 62 from rfl, ← List.drop_drop, h2]
    exact List.drop_left' (by rw [length_encodeFields, hpart]; rfl)
  have h100 : (composeBlock c).drop 100 = encodeFields c.inst.l ++ (encodeFields c.plan ++ rest) := by
    rw [show 100 = 64 + 36 from rfl, ← List.drop_drop, h64]
    exact List.drop_left' (by rw [length_encodeFields, hu]; rfl)
  have h136 : (composeBlock c).drop 136 = encodeFields c.plan ++ rest := by
    rw [show 136 = 100 + 36 from rfl, ← List.drop_drop, h100]
    exact List.drop_left' (by rw [length_encodeFields, hl]; rfl)
  rw [blockFields, decodeFields_encodeFields (by decide) h.part h2,
    decodeFields_encodeFields (by decide) h.instU h64, decodeFields_encodeFields (by decide) h.instL h100,
    decodeFields_encodeFields (by decide) h.plan h136]

/-- A composed block loads as the copy it was composed from, and nothing is raised (R175). -/
theorem loadBlock_composeBlock {c : WorkingCopy} (h : CopySafe c) :
    loadBlock (composeBlock c) = (c, false) := by
  have hlen := length_blockBody (shaped_of_copySafe h)
  have hbody : (composeBlock c).take 180 = blockBody c := by
    rw [composeBlock, List.append_assoc]
    exact List.take_left' hlen
  have hcheck : u16At (composeBlock c) 180 = (crc16 (blockBody c)).toNat := by
    rw [← Nat.add_zero 180, ← u16At_drop, composeBlock, List.append_assoc, List.drop_left' hlen]
    exact u16At_le16 _ _
  have hmark : byteAt (composeBlock c) 0 = 0xA7#8 := rfl
  have hkind : byteAt (composeBlock c) 1 = 178#8 := rfl
  unfold loadBlock
  rw [if_neg (by rw [hmark]; decide), if_neg (by rw [hkind]; decide),
    if_neg (by rw [hbody, hcheck]; exact not_not.mpr rfl)]
  dsimp only
  rw [blockFields_composeBlock h, h.correctCopy_eq]
  simp

/-! ### The codes of a record (12.3) -/

theorem RecordKind.ofCode_code (k : RecordKind) : RecordKind.ofCode k.code = some k := by
  cases k <;> rfl

theorem RecordedPhase.ofCode_code (k : RecordedPhase) : RecordedPhase.ofCode k.code = some k := by
  cases k <;> rfl

theorem Target.ofCode_code (k : Target) : Target.ofCode k.code = some k := by
  cases k <;> rfl

theorem CoolExit.ofCode_code (k : CoolExit) : CoolExit.ofCode k.code = some k := by
  cases k <;> rfl

theorem HeatCause.ofCode_code (k : HeatCause) : HeatCause.ofCode k.code = some k := by
  cases k <;> rfl

theorem HeatKind.ofCode_code (k : HeatKind) : HeatKind.ofCode k.code = some k := by
  cases k <;> rfl

theorem HeatStage.ofBool_reduced? (k : HeatStage) : HeatStage.ofBool k.reduced? = k := by
  cases k <;> rfl

/-- The bits of a flags byte are its flags, and the upper three are 0 (12.5, byte 11). -/
theorem flags_bits (a b c d e : Bool) :
    let x := bitIf a 0 ||| bitIf b 1 ||| bitIf c 2 ||| bitIf d 3 ||| bitIf e 4
    x.toNat < 32 ∧ x.getLsbD 0 = a ∧ x.getLsbD 1 = b ∧ x.getLsbD 2 = c ∧ x.getLsbD 3 = d
      ∧ x.getLsbD 4 = e := by
  revert a b c d e
  decide

theorem FaultSet.ofByte_byte (f : FaultSet) : FaultSet.ofByte f.byte = f ∧ f.byte.toNat < 64 := by
  obtain ⟨a, b, c, d, e, g⟩ := f
  revert a b c d e g
  decide

/-! ### The numbers of a record (12.5) -/

theorem u16_of_nat {n : Nat} (h : n < 65536) :
    ((BitVec.ofNat 16 n).extractLsb' 0 8).toNat + 256 * ((BitVec.ofNat 16 n).extractLsb' 8 8).toNat = n := by
  rw [toNat_bytes, BitVec.toNat_ofNat]
  omega

theorem u32_of_nat {n : Nat} (h : n < 4294967296) :
    (((BitVec.ofNat 32 n).extractLsb' 0 8).toNat + 256 * ((BitVec.ofNat 32 n).extractLsb' 8 8).toNat)
      + 65536 * (((BitVec.ofNat 32 n).extractLsb' 16 8).toNat
        + 256 * ((BitVec.ofNat 32 n).extractLsb' 24 8).toNat) = n := by
  simp only [BitVec.extractLsb'_toNat, BitVec.toNat_ofNat, Nat.shiftRight_eq_div_pow]
  omega

theorem s16_of_int {i : Int} (hlow : -32768 ≤ i) (hhigh : i ≤ 32767) :
    signed16 (((BitVec.ofInt 16 i).extractLsb' 0 8).toNat
      + 256 * ((BitVec.ofInt 16 i).extractLsb' 8 8).toNat) = i := by
  rw [toNat_bytes, BitVec.toNat_ofInt]
  unfold signed16
  split <;> omega

theorem byte_of_nat {n : Nat} (h : n < 256) : (byteNat n).toNat = n := by
  rw [byteNat, BitVec.toNat_ofNat]
  omega

/-- A record whose numbers fit the fields of 12.5. -/
structure CheckpointRecord.Fits (r : CheckpointRecord) : Prop where
  range : r.run.inRange = true
  seq : r.seq < 4294967296
  epoch : r.epoch < 65536
  clock : r.clock < 4294967296
  h : r.run.h < 65536
  c : r.run.c < 65536
  tref : r.run.tref.clock < 4294967296
  acStart : r.run.acStart.clock < 4294967296

/-- The layout of 12.5. -/
theorem CheckpointRecord.encode_eq (r : CheckpointRecord) : r.encode
    = [0xC5#8, pocketByte r.pocket] ++ (le32Nat r.seq
    ++ ([r.kind.code, r.phase.code, r.run.target.code, r.run.coolExit.code, r.run.cause.code, r.flags]
    ++ (le16Nat r.epoch ++ (le32Nat r.clock
    ++ (le16Nat r.run.d ++ (le16Nat r.run.t ++ (le16Nat r.run.h ++ (le16Nat r.run.c
    ++ (le16Nat r.run.coolTarget ++ (le16Int r.run.thetaX ++ (le16Int r.run.thetaRef
    ++ (le32Nat r.run.tref.clock ++ (le16Nat r.run.window ++ (le32Nat r.run.acStart.clock
    ++ ([byteNat r.run.burst, byteNat r.run.tries] ++ (le16Nat r.run.rest
    ++ ([byteNat r.run.trips, r.faults.byte] ++ (le16Nat r.run.copies.cmax
    ++ ([r.run.copies.heatKind.code, byteNat r.run.copies.purge, byteNat r.run.copies.trial,
        byteNat r.run.copies.tries]
    ++ (List.replicate 8 0#8 ++ le16 (crc16 r.body))))))))))))))))))))) := by
  delta CheckpointRecord.encode CheckpointRecord.body
  simp only [List.append_assoc]

/-- What a record's bytes say of it: its stamps are those of its epoch, or of none (R120, R138). -/
def CheckpointRecord.asStored (r : CheckpointRecord) : CheckpointRecord :=
  { r with
    run := { r.run with
      tref := ⟨r.run.tref.clock, if r.trefForeign then 0 else r.epoch⟩
      acStart := ⟨r.run.acStart.clock, if r.acForeign then 0 else r.epoch⟩ } }

theorem CheckpointRecord.parse_encode {r : CheckpointRecord} (h : r.Fits) :
    CheckpointRecord.parse r.encode = some r.asStored := by
  obtain ⟨hrange, hseq, hepoch, hclock, hh, hc, htref, hac⟩ := h
  simp only [RunRecord.inRange, Bool.and_eq_true, decide_eq_true_eq] at hrange
  obtain ⟨hflags, hstage, hauto, hreverse, htrefForeign, hacForeign⟩ := flags_bits
    r.run.stage.reduced? r.run.autoResume r.run.reverse r.trefForeign r.acForeign
  obtain ⟨hfaults, hsummary⟩ := r.faults.ofByte_byte
  obtain ⟨bs, hbs⟩ : ∃ bs, bs = r.encode := ⟨_, rfl⟩
  have hlayout := hbs.trans r.encode_eq
  have e1 : byteAt bs 1 = pocketByte r.pocket := by rw [hlayout]; rfl
  have e2 : u32At bs 2 = r.seq := by rw [hlayout]; exact u32_of_nat hseq
  have e6 : byteAt bs 6 = r.kind.code := by rw [hlayout]; rfl
  have e7 : byteAt bs 7 = r.phase.code := by rw [hlayout]; rfl
  have e8 : byteAt bs 8 = r.run.target.code := by rw [hlayout]; rfl
  have e9 : byteAt bs 9 = r.run.coolExit.code := by rw [hlayout]; rfl
  have e10 : byteAt bs 10 = r.run.cause.code := by rw [hlayout]; rfl
  have e11 : byteAt bs 11 = r.flags := by rw [hlayout]; rfl
  have e12 : u16At bs 12 = r.epoch := by rw [hlayout]; exact u16_of_nat hepoch
  have e14 : u32At bs 14 = r.clock := by rw [hlayout]; exact u32_of_nat hclock
  have e18 : u16At bs 18 = r.run.d := by rw [hlayout]; exact u16_of_nat (by omega)
  have e20 : u16At bs 20 = r.run.t := by rw [hlayout]; exact u16_of_nat (by omega)
  have e22 : u16At bs 22 = r.run.h := by rw [hlayout]; exact u16_of_nat hh
  have e24 : u16At bs 24 = r.run.c := by rw [hlayout]; exact u16_of_nat hc
  have e26 : u16At bs 26 = r.run.coolTarget := by rw [hlayout]; exact u16_of_nat (by omega)
  have e28 : s16At bs 28 = r.run.thetaX := by rw [hlayout]; exact s16_of_int (by omega) (by omega)
  have e30 : s16At bs 30 = r.run.thetaRef := by rw [hlayout]; exact s16_of_int (by omega) (by omega)
  have e32 : u32At bs 32 = r.run.tref.clock := by rw [hlayout]; exact u32_of_nat htref
  have e36 : u16At bs 36 = r.run.window := by rw [hlayout]; exact u16_of_nat (by omega)
  have e38 : u32At bs 38 = r.run.acStart.clock := by rw [hlayout]; exact u32_of_nat hac
  have e42 : (byteAt bs 42).toNat = r.run.burst := by rw [hlayout]; exact byte_of_nat (by omega)
  have e43 : (byteAt bs 43).toNat = r.run.tries := by rw [hlayout]; exact byte_of_nat (by omega)
  have e44 : u16At bs 44 = r.run.rest := by rw [hlayout]; exact u16_of_nat (by omega)
  have e46 : (byteAt bs 46).toNat = r.run.trips := by rw [hlayout]; exact byte_of_nat (by omega)
  have e47 : byteAt bs 47 = r.faults.byte := by rw [hlayout]; rfl
  have e48 : u16At bs 48 = r.run.copies.cmax := by rw [hlayout]; exact u16_of_nat (by omega)
  have e50 : byteAt bs 50 = r.run.copies.heatKind.code := by rw [hlayout]; rfl
  have e51 : (byteAt bs 51).toNat = r.run.copies.purge := by rw [hlayout]; exact byte_of_nat (by omega)
  have e52 : (byteAt bs 52).toNat = r.run.copies.trial := by rw [hlayout]; exact byte_of_nat (by omega)
  have e53 : (byteAt bs 53).toNat = r.run.copies.tries := by rw [hlayout]; exact byte_of_nat (by omega)
  rw [← hbs]
  change r.flags.toNat < 32 at hflags
  change r.flags.getLsbD 0 = _ at hstage
  change r.flags.getLsbD 1 = _ at hauto
  change r.flags.getLsbD 2 = _ at hreverse
  change r.flags.getLsbD 3 = _ at htrefForeign
  change r.flags.getLsbD 4 = _ at hacForeign
  simp only [CheckpointRecord.parse, e1, e2, e6, e7, e8, e9, e10, e11, e12, e14, e18, e20, e22, e24, e26,
    e28, e30, e32, e36, e38, e42, e43, e44, e46, e47, e48, e50, e51, e52, e53, pocketOfByte_pocketByte,
    RecordKind.ofCode_code, RecordedPhase.ofCode_code, Target.ofCode_code, CoolExit.ofCode_code,
    HeatCause.ofCode_code, HeatKind.ofCode_code, hstage, hauto, hreverse, htrefForeign, hacForeign,
    HeatStage.ofBool_reduced?, hfaults, hflags, hsummary, Option.bind_eq_bind, Option.bind_some]
  rfl

end Sys2Proof.Machine

open Sys2Proof Sys2Proof.Machine

/-- Settles O53: the block group by group, the record field by field. -/
theorem storedDataReadsBack : Obligations.StoredDataReadsBack := by
  refine ⟨fun c hsafe => ?_, fun r hrange hseq1 hseq hepoch1 hepoch hclock hh hc htref hac => ?_⟩
  · have h := (copySafe_iff c).mp hsafe
    exact ⟨length_composeBlock (shaped_of_copySafe h), loadBlock_composeBlock h⟩
  · have hparse : CheckpointRecord.parse r.encode = some r.asStored :=
      CheckpointRecord.parse_encode ⟨hrange, hseq, hepoch, hclock, hh, hc, htref, hac⟩
    have hbody : r.encode.take 62 = r.body := List.take_left' r.length_body
    have hcheck : u16At r.encode 62 = (crc16 r.body).toNat := by
      rw [← Nat.add_zero 62, ← u16At_drop, CheckpointRecord.encode, List.drop_left' r.length_body]
      exact u16At_le16 _ []
    have hmark : byteAt r.encode 0 = 0xC5#8 := by rw [r.encode_eq]; rfl
    have hpocket : byteAt r.encode 1 = pocketByte r.pocket := by rw [r.encode_eq]; rfl
    refine ⟨r.length_encode, ?_⟩
    unfold readRecord
    rw [if_neg (by rw [hmark]; decide), if_neg (by rw [hpocket]; exact not_not.mpr rfl),
      if_neg (by rw [hbody, hcheck]; exact not_not.mpr rfl), hparse]
    exact if_pos ⟨hseq1, hepoch1, hrange⟩

end

section
/-! Journal requests: the choice, the starts (R105, R119 to R122), and what HOLD_UP comes to. -/

namespace Sys2Proof.Machine

/-! ### What HOLD_UP comes to (R105, R106) -/

theorem State.finishHoldUp_of_other {s : State} (h : s.ss.power ≠ .holdUp) : s.finishHoldUp = s :=
  if_neg fun hup => h hup.1

theorem State.finishHoldUp_of_work {s : State} (h : s.jc.queue ≠ [] ∨ s.jc.engine ≠ .free) :
    s.finishHoldUp = s := by
  refine if_neg fun hup => ?_
  rcases h with h | h
  · exact h hup.2.1
  · exact h hup.2.2

section
variable {s : State} (hup : s.ss.power = .holdUp) (hqueue : s.jc.queue = []) (hfree : s.jc.engine = .free)
include hup hqueue hfree

theorem State.finishHoldUp_of_unmarked (h : s.ss.returnMark = false) : s.finishHoldUp = s.enterDark := by
  refine (if_pos ⟨hup, hqueue, hfree⟩).trans (if_neg ?_)
  rw [h]
  decide

theorem State.finishHoldUp_of_waiting (h : s.ss.returnMark = true) (hvhu : s.ss.vhu.toNat < s.cfg.wakeCode) :
    s.finishHoldUp = s :=
  (if_pos ⟨hup, hqueue, hfree⟩).trans ((if_pos h).trans (if_neg (by omega)))

theorem State.finishHoldUp_of_return (h : s.ss.returnMark = true) (hvhu : s.cfg.wakeCode ≤ s.ss.vhu.toNat) :
    s.finishHoldUp = s.enterWake :=
  (if_pos ⟨hup, hqueue, hfree⟩).trans ((if_pos h).trans (if_pos hvhu))

end

theorem darkFrom_enterDark (s : State) : darkFrom s s.enterDark := by
  have hdark : s.enterDark.ss.power ≠ .run := nofun
  refine ⟨rfl, rfl, rfl, rfl, rfl, rfl, rfl, rfl, rfl, rfl, rfl, rfl,
    State.attn_of_not_working (s := s.enterDark) rfl, fun p => ⟨?_, ?_, State.heatPermit_of_not_run hdark p⟩⟩
  · cases p <;> rfl
  · cases p <;> rfl

theorem holdUpLeads_finishHoldUp {u : State} (hup : u.ss.power = .holdUp) :
    holdUpLeads u u.finishHoldUp := by
  refine ⟨State.finishHoldUp_of_work, fun hqueue hfree hmark => ?_, fun hqueue hfree hmark hvhu => ?_,
    fun hqueue hfree hmark hvhu => ?_⟩
  · rw [State.finishHoldUp_of_unmarked hup hqueue hfree hmark]
    exact darkFrom_enterDark u
  · exact State.finishHoldUp_of_waiting hup hqueue hfree hmark hvhu
  · rw [State.finishHoldUp_of_return hup hqueue hfree hmark hvhu]
    exact ⟨State.wokenFrom_enterWake rfl rfl rfl rfl, rfl, rfl⟩

/-! ### The choice (R116, R119) -/

/-- A request is started no later than another. -/
def WriteRequest.first (a b : WriteRequest) : Prop :=
  a.what.priority < b.what.priority ∨ (a.what.priority = b.what.priority
    ∧ (a.age < b.age ∨ (a.age = b.age ∧ (a.ofPocket .U = true ∨ b.ofPocket .U = false))))

theorem WriteRequest.first_refl (a : WriteRequest) : a.first a :=
  .inr ⟨rfl, .inr ⟨rfl, (Bool.eq_false_or_eq_true _).imp id id⟩⟩

theorem WriteRequest.first_trans {a b c : WriteRequest} (h : a.first b) (k : b.first c) : a.first c := by
  unfold WriteRequest.first at h k ⊢
  rcases h with h | ⟨hp, h⟩
  · left; omega
  · rcases k with k | ⟨kp, k⟩
    · left; omega
    · refine .inr ⟨hp.trans kp, ?_⟩
      rcases h with h | ⟨ha, h⟩
      · left; omega
      · rcases k with k | ⟨ka, k⟩
        · left; omega
        · refine .inr ⟨ha.trans ka, ?_⟩
          rcases h with h | h
          · exact .inl h
          · rcases k with k | k
            · exact absurd (h.symm.trans k) (by decide)
            · exact .inr k

theorem WriteRequest.first_of_before {a b : WriteRequest} (h : a.before b = true) : a.first b := by
  unfold WriteRequest.before at h
  unfold WriteRequest.first
  split at h
  · exact .inl (of_decide_eq_true h)
  · next hp =>
    refine .inr ⟨not_not.mp hp, ?_⟩
    split at h
    · exact .inl (of_decide_eq_true h)
    · next ha => exact .inr ⟨not_not.mp ha, .inl h⟩

theorem WriteRequest.first_of_not_before {a b : WriteRequest} (h : ¬ a.before b = true) : b.first a := by
  unfold WriteRequest.before at h
  unfold WriteRequest.first
  split at h
  · next hp =>
    have hle : ¬ a.what.priority < b.what.priority := fun hlt => h (decide_eq_true hlt)
    left; omega
  · next hp =>
    refine .inr ⟨(not_not.mp hp).symm, ?_⟩
    split at h
    · next ha =>
      have hle : ¬ a.age < b.age := fun hlt => h (decide_eq_true hlt)
      left; omega
    · next ha => exact .inr ⟨(not_not.mp ha).symm, .inr (Bool.eq_false_iff.mpr h)⟩

/-- The fold over the queue ends in a request that none of them, nor the first, goes before. -/
theorem foldl_before_first (ws : List WriteRequest) (w : WriteRequest) :
    let best := ws.foldl (fun best x => if x.before best then x else best) w
    best.first w ∧ ∀ x ∈ ws, best.first x := by
  induction ws generalizing w with
  | nil => exact ⟨w.first_refl, nofun⟩
  | cons x ws ih =>
    obtain ⟨hbest, hrest⟩ := ih (if x.before w then x else w)
    rw [List.foldl_cons]
    have hstep : (if x.before w then x else w).first w ∧ (if x.before w then x else w).first x := by
      split
      · next h => exact ⟨WriteRequest.first_of_before h, x.first_refl⟩
      · next h => exact ⟨w.first_refl, WriteRequest.first_of_not_before h⟩
    refine ⟨WriteRequest.first_trans hbest hstep.1, fun y hy => ?_⟩
    rcases List.mem_cons.mp hy with rfl | hy
    · exact WriteRequest.first_trans hbest hstep.2
    · exact hrest y hy

theorem chooseRequest_first {queue : List WriteRequest} {w : WriteRequest}
    (h : chooseRequest queue = some w) : ∀ x ∈ queue, w.first x := by
  cases queue with
  | nil => cases h
  | cons y ws =>
    cases h
    obtain ⟨hfirst, hrest⟩ := foldl_before_first ws y
    intro x hx
    rcases List.mem_cons.mp hx with rfl | hx
    · exact hfirst
    · exact hrest x hx

/-! ### The starts (R105, R119 to R122) -/

theorem State.mayStart_advance {s : State} (hpower : s.ss.power = .run ∨ s.ss.power = .holdUp)
    (hfree : s.jc.engine = .free) (dt : Nat) : (s.advance dt).mayStart = true := by
  have hengine : (s.advance dt).jc.engine = .free := hfree
  have hpower : (s.advance dt).ss.power = .run ∨ (s.advance dt).ss.power = .holdUp := hpower
  unfold State.mayStart
  rw [hengine]
  rcases hpower with h | h <;> rw [h] <;> rfl

theorem State.startChosen_of_writable {s : State} {w : WriteRequest} {p : PocketId} {kind : RecordKind}
    (n : Nat) (h : chooseRequest s.jc.queue = some w) (hw : w.what = .checkpoint p kind)
    (hring : (s.jc.rings.get p).condition = .writable) :
    s.startChosen (n + 1) = (s.dequeue w).startWrite p kind := by
  rw [State.startChosen, h]
  dsimp only
  rw [hw]
  dsimp only
  rw [hring]

theorem State.startChosen_of_refused {s : State} {w : WriteRequest} {p : PocketId} {kind : RecordKind}
    {cause : JournalCause} (n : Nat) (h : chooseRequest s.jc.queue = some w)
    (hw : w.what = .checkpoint p kind)
    (hring : ((s.jc.rings.get p).condition = .exhausted ∧ cause = .exhausted)
      ∨ ((s.jc.rings.get p).condition = .unreadable ∧ cause = .unreadable)) :
    s.startChosen (n + 1) = ((s.dequeue w).refuse p cause).startChosen n := by
  rw [State.startChosen, h]
  dsimp only
  rw [hw]
  rcases hring with ⟨hring, rfl⟩ | ⟨hring, rfl⟩ <;> simp only [hring]

theorem State.startChosen_of_empty {s : State} (h : s.jc.queue = []) (n : Nat) : s.startChosen n = s := by
  cases n with
  | zero => rfl
  | succ n =>
    have hnone : chooseRequest s.jc.queue = none := by rw [h]; rfl
    rw [State.startChosen, hnone]

/-- A start with VHU at or above the write floor, or in RUN. -/
theorem exec_checkpointWriteStart_of_fit {s : State} (dt : Nat)
    (hpower : s.ss.power = .run ∨ (s.ss.power = .holdUp ∧ s.cfg.writeFloor ≤ s.ss.vhu.toNat))
    (hfree : s.jc.engine = .free) (hqueue : s.jc.queue ≠ []) :
    exec (.checkpointWriteStart dt) s
      = .next ((s.advance dt).startChosen s.jc.queue.length).finishHoldUp := by
  have hstart := State.mayStart_advance (hpower.imp id And.left) hfree dt
  have hwaiting : (s.advance dt).jc.queue.isEmpty = false := List.isEmpty_eq_false_iff.mpr hqueue
  have hfit : (s.advance dt).floorFails = false := by
    unfold State.floorFails
    rcases hpower with h | ⟨-, hvhu⟩
    · have : (s.advance dt).ss.power = .run := h
      rw [this]
      rfl
    · have hstrong : decide ((s.advance dt).ss.vhu.toNat < (s.advance dt).cfg.writeFloor) = false :=
        decide_eq_false (Nat.not_lt.mpr hvhu)
      rw [hstrong, Bool.and_false]
  refine congrArg Host.Outcome.next ((if_pos ?_).trans (if_neg ?_))
  · rw [hstart, hwaiting]
    rfl
  · rw [hfit]
    decide

/-- A start in HOLD_UP that finds VHU below the write floor (R105). -/
theorem exec_checkpointWriteStart_of_weak {s : State} (dt : Nat) (hup : s.ss.power = .holdUp)
    (hvhu : s.ss.vhu.toNat < s.cfg.writeFloor) (hfree : s.jc.engine = .free) (hqueue : s.jc.queue ≠ []) :
    exec (.checkpointWriteStart dt) s
      = .next { s.advance dt with jc := { s.jc with queue := [] } }.finishHoldUp := by
  have hstart := State.mayStart_advance (.inr hup) hfree dt
  have hwaiting : (s.advance dt).jc.queue.isEmpty = false := List.isEmpty_eq_false_iff.mpr hqueue
  have hfails : (s.advance dt).floorFails = true := by
    have hpower : (s.advance dt).ss.power = .holdUp := hup
    have hlow : decide ((s.advance dt).ss.vhu.toNat < (s.advance dt).cfg.writeFloor) = true :=
      decide_eq_true hvhu
    unfold State.floorFails
    rw [hpower, hlow]
    rfl
  refine congrArg Host.Outcome.next ((if_pos ?_).trans (if_pos hfails))
  rw [hstart, hwaiting]
  rfl

/-! ### The snapshot (R120) -/

/-- The run record of a pocket as its snapshot takes it (R120, step 1). -/
def State.snapshotRun (s : State) (p : PocketId) : RunRecord :=
  match (s.sense p).theta with
  | some th =>
    if (s.pocket p).phase.running = true ∧ (s.pocket p).frozen = false
        ∧ (s.pocket p).faults.sensor = false then
      { (s.pocket p).run with thetaRef := th, tref := s.bd.stamp }
    else (s.pocket p).run
  | none => (s.pocket p).run

theorem State.beforeSnapshot_eq (s : State) (p : PocketId) :
    s.beforeSnapshot p = s.setRun p (s.snapshotRun p) := by
  unfold State.beforeSnapshot State.snapshotRun
  cases htheta : (s.sense p).theta with
  | none => simp [State.takeReference_of_invalid htheta, State.setRun_run]
  | some th =>
    cases hrunning : (s.pocket p).phase.running
    · simp [State.setRun_run]
    · cases hfrozen : (s.pocket p).frozen
      · cases hsensor : (s.pocket p).faults.sensor
        · simp [State.takeReference_of_valid htheta hsensor, Backup.stamp]
        · simp [State.takeReference_of_sensor hsensor, State.setRun_run]
      · simp [State.setRun_run]

theorem State.snapshotRun_keeps (s : State) (p : PocketId) :
    (s.snapshotRun p).target = (s.pocket p).run.target
      ∧ (s.snapshotRun p).acStart = (s.pocket p).run.acStart := by
  unfold State.snapshotRun
  split
  · split <;> exact ⟨rfl, rfl⟩
  · exact ⟨rfl, rfl⟩

/-- The record a pocket's write carries (R120). -/
def State.snapshot (s : State) (p : PocketId) (kind : RecordKind) : CheckpointRecord :=
  { pocket := p, seq := (s.jc.rings.get p).nextSeq, kind := kind
    phase := (s.pocket p).phase.recorded (s.pocket p).run.target
    run := s.snapshotRun p, faults := (s.pocket p).faults
    clock := s.bd.clock, epoch := s.bd.epoch
    trefForeign := (s.snapshotRun p).tref.epoch != s.bd.epoch
    acForeign := (s.pocket p).run.acStart.epoch != s.bd.epoch }

/-- A pocket's write starts with its snapshot at the ring's next slot (R115, R120). -/
theorem State.startWrite_eq (s : State) (p : PocketId) (kind : RecordKind) :
    s.startWrite p kind = (s.setRun p (s.snapshotRun p)).startJob
      (.checkpoint p (s.jc.rings.get p).nextSlot (s.jc.rings.get p).nextSeq (s.snapshot p kind).encode) := by
  have hself := s.pocket_setRun_self p (s.snapshotRun p)
  obtain ⟨htarget, hac⟩ := s.snapshotRun_keeps p
  have hrecord : (s.setRun p (s.snapshotRun p)).record p kind = s.snapshot p kind := by
    unfold State.record State.snapshot
    rw [hself]
    dsimp only
    rw [htarget, hac]
    rfl
  unfold State.startWrite
  rw [State.beforeSnapshot_eq]
  dsimp only
  rw [hrecord]
  rfl

/-- A refusal sets JOURNAL_FAULT, and posts it if it was clear (R122). -/
theorem State.refuse_eq (s : State) (p : PocketId) (cause : JournalCause) :
    s.refuse p cause = (if s.ss.journalFault = none then
      ({ s with ss := { s.ss with journalFault := some (cause, .ring p) } } : State).post .journalFault
        (some p) (pairArg cause.code (JournalPlace.ring p).code)
      else { s with ss := { s.ss with journalFault := some (cause, .ring p) } }) := by
  unfold State.refuse State.setJournalFault
  cases s.ss.journalFault <;> rfl

/-! ### Starts in RUN of the requests of the link (R130, R132) -/

theorem exec_configStoreStart_of_chosen {s : State} {w : WriteRequest} (dt : Nat)
    (hrun : s.ss.power = .run) (hfree : s.jc.engine = .free) (h : chooseRequest s.jc.queue = some w)
    (hw : w.what = .store) : exec (.configStoreStart dt) s
      = .next (((s.advance dt).dequeue w).startJob (.store (composeBlock s.cfg))) := by
  have hstart := State.mayStart_advance (.inl hrun) hfree dt
  have hchosen : chooseRequest (s.advance dt).jc.queue = some w := h
  simp only [exec, execConfigStoreStart, hstart, hchosen, hw]
  rfl

theorem exec_journalReadStart_of_chosen {s : State} {w : WriteRequest} {p : PocketId} {i : Fin 124}
    (dt : Nat) (hrun : s.ss.power = .run) (hfree : s.jc.engine = .free)
    (h : chooseRequest s.jc.queue = some w) (hw : w.what = .read p i) : exec (.journalReadStart dt) s
      = .next (((s.advance dt).dequeue w).startJob (.read p i)) := by
  have hstart := State.mayStart_advance (.inl hrun) hfree dt
  have hchosen : chooseRequest (s.advance dt).jc.queue = some w := h
  simp only [exec, execJournalReadStart, hstart, hchosen, hw]

end Sys2Proof.Machine

open Sys2Proof Sys2Proof.Machine

/-- Settles O49: the choice as the least of an order, then each start. -/
theorem journalRequestsStart : Obligations.JournalRequestsStart := by
  refine ⟨?_, ?_, ?_, ?_⟩
  · intro queue rank
    have hrank : ∀ k, rank k = k.priority := by
      intro k
      cases k with
      | checkpoint p kind => cases kind <;> rfl
      | store => rfl
      | read p i => rfl
    refine ⟨fun h => by rw [h]; rfl, fun h => ?_, fun w hw => ⟨chooseRequest_mem hw, fun x hx => ?_⟩⟩
    · obtain ⟨w, ws, rfl⟩ := List.exists_cons_of_ne_nil h
      rfl
    · rw [hrank, hrank]
      exact chooseRequest_first hw x hx
  · intro dt w s hpower hfree hchosen p kind hw
    have hmem := chooseRequest_mem hchosen
    have hqueue : s.jc.queue ≠ [] := List.ne_nil_of_mem hmem
    have hexec := exec_checkpointWriteStart_of_fit dt hpower hfree hqueue
    obtain ⟨n, hn⟩ : ∃ n, s.jc.queue.length = n + 1 := Nat.exists_eq_succ_of_ne_zero (by simpa using hqueue)
    rw [hn] at hexec
    have hchosen' : chooseRequest (s.advance dt).jc.queue = some w := hchosen
    refine ⟨fun hring => ?_, fun cause hring => ?_⟩
    · rw [State.startChosen_of_writable n hchosen' hw hring, State.startWrite_eq,
        State.finishHoldUp_of_work (.inr (show Engine.busy _ _ _ ≠ .free from nofun))] at hexec
      obtain ⟨t, ht⟩ : ∃ t, t = ((s.advance dt).dequeue w).setRun p (s.snapshotRun p) := ⟨_, rfl⟩
      have hself : t.pocket p = { s.pocket p with run := s.snapshotRun p } := by
        rw [ht, State.pocket_setRun_self]
        rfl
      have hrun : (t.pocket p).run = s.snapshotRun p := by rw [hself]
      have hworks : s.ss.power.working = true := by
        rcases hpower with h | ⟨h, -⟩ <;> rw [h] <;> rfl
      have hstarted : exec (.checkpointWriteStart dt) s
          = .next (t.startJob (.checkpoint p (s.jc.rings.get p).nextSlot (s.jc.rings.get p).nextSeq
            (s.snapshot p kind).encode)) := by
        rw [ht]
        exact hexec
      refine ⟨_, hstarted, ?_, fun slot seq image hjob => ?_, hrun, ?_, ?_⟩
      · have hjc : t.jc = { s.jc with queue := s.jc.queue.erase w } := by rw [ht]; rfl
        generalize hjob : Job.checkpoint p (s.jc.rings.get p).nextSlot (s.jc.rings.get p).nextSeq
          (s.snapshot p kind).encode = job
        have htaken : ((t.startJob job).pocket p).run = s.snapshotRun p := hrun
        have hstart : (t.startJob job).jc = { t.jc with engine := .busy job 1 .transfer } := rfl
        rw [htaken, hstart, hjc, ← hjob]
        rfl
      · have hpower : t.ss.power.working = true := by rw [ht]; exact hworks
        exact (if_pos hpower).trans (by rw [hjob]; rfl)
      · rw [ht]
        rfl
      · change t.pocket p.other = _
        rw [ht]
        exact State.pocket_setRun_other _ _ _
    · intro set refused
      have hrefuse : ((s.advance dt).dequeue w).refuse p cause = refused.advance dt := by
        rw [State.refuse_eq]
        by_cases hclear : s.ss.journalFault = none
        · refine (if_pos hclear).trans ?_
          change _ = (if s.ss.journalFault = none then _ else _ : State).advance dt
          rw [if_pos hclear]
          cases p <;> rfl
        · refine (if_neg hclear).trans ?_
          change _ = (if s.ss.journalFault = none then _ else _ : State).advance dt
          rw [if_neg hclear]
          rfl
      have hleft : (s.jc.queue.erase w).length = n := by
        rw [List.length_erase_of_mem hmem, hn]
        rfl
      rw [State.startChosen_of_refused n hchosen' hw hring, hrefuse] at hexec
      have hkept : refused.jc = { s.jc with queue := s.jc.queue.erase w }
          ∧ refused.ss = { s.ss with journalFault := some (cause, .ring p) } ∧ refused.cfg = s.cfg
          ∧ refused.time = s.time := by
        change (if s.ss.journalFault = none then _ else _ : State).jc = _
          ∧ (if s.ss.journalFault = none then _ else _ : State).ss = _
          ∧ (if s.ss.journalFault = none then _ else _ : State).cfg = _
          ∧ (if s.ss.journalFault = none then _ else _ : State).time = _
        split <;> exact ⟨rfl, rfl, rfl, rfl⟩
      clear_value refused
      obtain ⟨hjc, hss, hcfg, htime⟩ := hkept
      rw [← htime]
      refine ⟨fun hmore => ?_, fun hnone => ⟨fun hrun => ?_, fun hup => ?_⟩⟩
      · rw [hexec, exec_checkpointWriteStart_of_fit (s := refused) dt (by rw [hss, hcfg]; exact hpower)
          (by rw [hjc]; exact hfree) (by rw [hjc]; exact hmore), hjc, hleft]
      · rw [State.startChosen_of_empty (by change refused.jc.queue = []; rw [hjc]; exact hnone),
          State.finishHoldUp_of_other (by change refused.ss.power ≠ _; rw [hss]; exact hrun ▸ nofun)] at hexec
        exact hexec
      · rw [State.startChosen_of_empty (by change refused.jc.queue = []; rw [hjc]; exact hnone)] at hexec
        exact ⟨_, hexec, holdUpLeads_finishHoldUp (by change refused.ss.power = _; rw [hss]; exact hup)⟩
  · intro dt w s hrun hfree hchosen
    have hworks : s.ss.power.working = true := by rw [hrun]; rfl
    refine ⟨fun hw => ?_, fun p i hw => ?_⟩
    · exact ⟨_, exec_configStoreStart_of_chosen dt hrun hfree hchosen hw, rfl, if_pos hworks⟩
    · exact ⟨_, exec_journalReadStart_of_chosen dt hrun hfree hchosen hw, rfl, if_pos hworks⟩
  · intro dt s hup hfree hqueue hvhu
    have hexec := exec_checkpointWriteStart_of_weak dt hup hvhu hfree hqueue
    obtain ⟨u, hu⟩ : ∃ u, u = ({ s.advance dt with jc := { s.jc with queue := [] } } : State) := ⟨_, rfl⟩
    rw [← hu] at hexec
    have huup : u.ss.power = .holdUp := by rw [hu]; exact hup
    have huqueue : u.jc.queue = [] := by rw [hu]
    have hufree : u.jc.engine = .free := by rw [hu]; exact hfree
    have humark : u.ss.returnMark = s.ss.returnMark := by rw [hu]; rfl
    have hubd : u.bd = s.bd := by rw [hu]; rfl
    have hujournal : u.journal = s.journal := by rw [hu]; rfl
    have hwake : u.cfg.wakeCode ≤ u.ss.vhu.toNat ↔ s.cfg.wakeCode ≤ s.ss.vhu.toNat := by rw [hu]; rfl
    refine ⟨_, hexec, ?_⟩
    cases hmark : s.ss.returnMark with
    | false =>
      rw [State.finishHoldUp_of_unmarked huup huqueue hufree (humark.trans hmark)]
      exact ⟨rfl, rfl, hujournal, fun _ => ⟨rfl, hubd⟩, nofun⟩
    | true =>
      by_cases hreturn : s.cfg.wakeCode ≤ s.ss.vhu.toNat
      · rw [State.finishHoldUp_of_return huup huqueue hufree (humark.trans hmark) (hwake.mpr hreturn)]
        exact ⟨rfl, rfl, hujournal, nofun, fun _ h => absurd hreturn (by omega)⟩
      · rw [State.finishHoldUp_of_waiting huup huqueue hufree (humark.trans hmark)
          (Nat.not_le.mp fun h => hreturn (hwake.mp h))]
        exact ⟨huqueue, hufree, hujournal, nofun, fun _ _ => huup⟩
end

section
/-! Completions of the journal engine, and HOLD_UP's return mark (R105, R106, R115, R121, R130, R132). -/

namespace Sys2Proof.Machine

/-! ### The reply of a bus request (R162) -/

theorem Link.endBusRequest_of_asked {l : Link} {o : Outstanding} (r : Reply) (horphan : l.orphan = false)
    (h : l.outstanding = some o) :
    l.endBusRequest r = { l with tx := l.tx ++ [⟨false, replyFrame o.kind o.tag r⟩] } := by
  simp only [Link.endBusRequest, horphan, Link.reply, h]
  rfl

theorem Link.endBusRequest_of_orphan {l : Link} (r : Reply) (horphan : l.orphan = true) :
    l.endBusRequest r = { l with orphan := false } :=
  if_pos horphan

/-! ### Completions (R115, R121, R130, R132) -/

section
variable {dt n : Nat} {s : State} (hw : s.ss.power.working = true)
include hw

theorem exec_checkpointWriteComplete_of_flight {p : PocketId} {slot : Fin 124} {seq : Nat}
    {image : List Byte} (h : s.jc.engine = .busy (.checkpoint p slot seq image) n .transfer) :
    exec (.checkpointWriteComplete dt) s
      = .next ((s.advance dt).writeDone p slot seq image).finishHoldUp := by
  simp only [exec, execCheckpointWriteComplete, State.advance, hw, h]

theorem exec_configStoreComplete_of_flight {block : List Byte}
    (h : s.jc.engine = .busy (.store block) n .transfer) :
    exec (.configStoreComplete dt) s = .next ({ (s.advance dt).freeEngine with
      journal := Memory.writeBytes s.journal 0 block
      storeCut := false
      ml := s.ml.endBusRequest .ok }.finishHoldUp) := by
  simp only [exec, execConfigStoreComplete, State.advance, hw, h]

theorem exec_journalReadComplete_of_flight {p : PocketId} {slot : Fin 124}
    (h : s.jc.engine = .busy (.read p slot) n .transfer) :
    exec (.journalReadComplete dt) s = .next ({ (s.advance dt).freeEngine with
      ml := s.ml.endBusRequest ⟨.ok, slotReport p slot
        ((s.jc.rings.get p).newest.map Prod.fst == some slot)
        (Memory.readBytes s.journal (slotAddress p slot) 64)⟩ }.finishHoldUp) := by
  cases hnewest : (s.jc.rings.get p).newest with
  | none =>
    simp only [exec, execJournalReadComplete, State.advance, hw, h, hnewest]
    rfl
  | some x =>
    simp only [exec, execJournalReadComplete, State.advance, hw, h, hnewest]
    rfl

end

/-- The validity code of a slot's bytes (R179). -/
theorem validityCode_slotDefect (p : PocketId) (bs : List Byte) :
    byteNat (validityCode (slotDefect p bs)) = (match readRecord p bs with
      | .ok _ => 0#8
      | .error .badMark => 1#8
      | .error .badPocket => 2#8
      | .error .badCheck => 3#8
      | .error .badField => 4#8) := by
  unfold slotDefect
  cases readRecord p bs with
  | ok r => rfl
  | error d => cases d <;> rfl

theorem bitIf_newest (newest : Option (Fin 124 × Nat)) (slot : Fin 124) :
    bitIf (newest.map Prod.fst == some slot) 7
      = (if newest.map Prod.fst = some slot then 0x80#8 else 0#8) := by
  by_cases h : newest.map Prod.fst = some slot
  · rw [if_pos h, beq_iff_eq.mpr h]
    rfl
  · rw [if_neg h, beq_eq_false_iff_ne.mpr h]
    rfl

theorem bitIf_pocket (p : PocketId) : bitIf (p == .L) 7 = (if p = .L then 0x80#8 else 0#8) := by
  cases p <;> rfl

/-! ### HOLD_UP goes on or ends (R105, R106) -/

/-- While HOLD_UP goes on, nothing was done to it. -/
theorem State.finishHoldUp_of_held {s : State} (h : s.finishHoldUp.ss.power = .holdUp) :
    s.finishHoldUp = s := by
  by_cases hends : s.ss.power = .holdUp ∧ s.jc.queue = [] ∧ s.jc.engine = .free
  · obtain ⟨hup, hqueue, hfree⟩ := hends
    cases hmark : s.ss.returnMark with
    | false =>
      rw [State.finishHoldUp_of_unmarked hup hqueue hfree hmark] at h
      cases h
    | true =>
      by_cases hreturn : s.cfg.wakeCode ≤ s.ss.vhu.toNat
      · rw [State.finishHoldUp_of_return hup hqueue hfree hmark hreturn] at h
        cases h
      · exact State.finishHoldUp_of_waiting hup hqueue hfree hmark (by omega)
  · exact if_neg hends

/-- What HOLD_UP comes to does not turn on the Line Monitor or the link it is found with. -/
theorem holdUpLeads_relink {u : State} (hup : u.ss.power = .holdUp) :
    holdUpLeads { u with lm := u.finishHoldUp.lm, ml := u.finishHoldUp.ml } u.finishHoldUp := by
  obtain ⟨hwork, hdark, hwait, hwake⟩ := holdUpLeads_finishHoldUp hup
  refine ⟨fun h => ?_, hdark, fun hqueue hfree hmark hvhu => ?_, hwake⟩
  · rw [hwork h]
  · rw [hwait hqueue hfree hmark hvhu]

theorem State.keepsLine_postLine (s : State) (old : LineState) (peak : Byte) :
    keepsLine s (s.postLine old peak) := by
  unfold State.postLine
  split
  · exact ⟨rfl, rfl, rfl, rfl⟩
  · exact s.keepsLine_post _ _ _
  · exact s.keepsLine_post _ _ _
  · exact s.keepsLine_post _ _ _
  · exact s.keepsLine_post _ _ _

theorem State.lineChanged_of_holdUp {s : State} (hup : s.ss.power = .holdUp) : s.lineChanged = s := by
  unfold State.lineChanged
  cases s.lm.line <;> simp [hup]

/-- A half-cycle in HOLD_UP is counted, and its event posted where the line state changes; then comes the
return mark. -/
theorem State.halfCycle_of_holdUp {s : State} (hup : s.ss.power = .holdUp) (cls : HalfCycle)
    (interval : Nat) (peak : Byte) :
    ∃ m l, keepsLine s { s with lm := m, ml := l }
      ∧ s.halfCycle cls interval peak = ({ s with lm := m, ml := l } : State).returnMarkBy cls := by
  obtain ⟨m, hm⟩ : ∃ m, m = s.lm.classify s.cfg cls interval := ⟨_, rfl⟩
  by_cases hline : m.line = s.lm.line
  · refine ⟨m, s.ml, ⟨rfl, rfl, rfl, rfl⟩, ?_⟩
    simp only [State.halfCycle]
    rw [← hm, if_pos hline]
  · obtain ⟨l, hl⟩ := ({ s with lm := m } : State).postLine_eq s.lm.line peak
    have hkeeps := ({ s with lm := m } : State).keepsLine_postLine s.lm.line peak
    rw [hl] at hkeeps
    have hchanged : ({ s with lm := m, ml := l } : State).lineChanged = { s with lm := m, ml := l } :=
      State.lineChanged_of_holdUp hup
    have hwaits : ({ s with lm := m, ml := l } : State).inRun = false :=
      State.inRun_of_not_run (by change s.ss.power ≠ .run; rw [hup]; decide)
    refine ⟨m, l, hkeeps, ?_⟩
    simp only [State.halfCycle]
    rw [← hm, if_neg hline, hl, hchanged, State.arbitrate_of_not_inRun hwaits]

/-- From s to t a half-cycle in HOLD_UP has left the return mark (R106). -/
def Marked (s : State) (now : Nat) (mark : Bool) (t : State) : Prop :=
  holdUpLeads { s with time := now, lm := t.lm, ml := t.ml, ss := { s.ss with returnMark := mark } } t
    ∧ (t.ss.power = .holdUp → keepsLine s t)

/-- A GOOD half-cycle in HOLD_UP sets the return mark and a MISSING one clears it (R106). -/
theorem State.halfCycle_marks {s a : State} (hup : s.ss.power = .holdUp) {now : Nat} {m : LineMonitor}
    (ha : a = { s with time := now, lm := m }) {cls : HalfCycle} {mark : Bool}
    (hcls : (cls = .good ∧ mark = true) ∨ (cls = .missing ∧ mark = false)) (interval : Nat) (peak : Byte) :
    Marked s now mark (a.halfCycle cls interval peak) := by
  obtain ⟨m', l, hkeeps, hhalf⟩ :=
    State.halfCycle_of_holdUp (s := a) (by rw [ha]; exact hup) cls interval peak
  obtain ⟨u, hu⟩ : ∃ u : State, u = { s with
      time := now, lm := m', ml := l, ss := { s.ss with returnMark := mark } } := ⟨_, rfl⟩
  have huup : u.ss.power = .holdUp := by rw [hu]; exact hup
  have hmarked : a.halfCycle cls interval peak = u.finishHoldUp := by
    rw [hhalf, hu, ha]
    refine (if_pos hup).trans ?_
    rcases hcls with ⟨rfl, rfl⟩ | ⟨rfl, rfl⟩ <;> rfl
  rw [hmarked]
  refine ⟨?_, fun hheld => ?_⟩
  · have hleads := holdUpLeads_relink huup
    generalize u.finishHoldUp = t at hleads
    rw [hu] at hleads
    exact hleads
  · rw [State.finishHoldUp_of_held hheld, hu]
    rw [ha] at hkeeps
    exact hkeeps

theorem exec_vhuReachesWake_of_holdUp (dt : Nat) (v : Byte) {s : State} (hup : s.ss.power = .holdUp) :
    exec (.vhuReachesWake dt v) s = .next ({ s with
      time := s.time + dt
      ss := { s.ss with
        vhu := v
        atWake := decide (s.cfg.wakeCode ≤ v.toNat)
        atFloor := s.ss.atFloor || s.cfg.writeFloor ≤ v.toNat
        atDark := s.ss.atDark || s.cfg.darkCode ≤ v.toNat } }.finishHoldUp) := by
  have hthreshold : s.wakeThreshold = s.cfg.wakeCode := by simp [State.wakeThreshold, hup]
  have hnoted : s.notedWake dt v = { s with
      time := s.time + dt
      ss := { s.ss with
        vhu := v
        atWake := decide (s.cfg.wakeCode ≤ v.toNat)
        atFloor := s.ss.atFloor || s.cfg.writeFloor ≤ v.toNat
        atDark := s.ss.atDark || s.cfg.darkCode ≤ v.toNat } } := by
    unfold State.notedWake
    rw [hthreshold]
    rfl
  have hpower : (s.notedWake dt v).ss.power = .holdUp := hup
  rw [exec_vhuReachesWake, ← hnoted]
  simp only [State.wakeBy, hpower]

end Sys2Proof.Machine

open Sys2Proof Sys2Proof.Machine

/-- Settles O50: the completions, in RUN and in HOLD_UP, then the return mark. -/
theorem completionsStoreAndReply : Obligations.CompletionsStoreAndReply := by
  refine ⟨fun dt n s hrun hsafe => ⟨fun p slot seq image h => ?_, fun block o h horphan hasked => ?_,
      fun p i o h horphan hasked => ?_, fun block h horphan => ?_⟩,
    fun dt n s hup => ⟨fun p slot seq image h => ?_, fun block o h horphan hasked => ?_,
      fun p i o h horphan hasked => ?_⟩, fun dt v s hup => ?_⟩
  · have hexec := exec_checkpointWriteComplete_of_flight (dt := dt) (by rw [hrun]; rfl) h
    obtain ⟨hwf, hfits⟩ := State.fits_of_journalSafe hsafe h rfl
    rw [State.finishHoldUp_of_other (by change s.ss.power ≠ _; rw [hrun]; decide)] at hexec
    exact ⟨_, hexec, fun a => Memory.read_writeBytes hwf image hfits a, rfl, rfl, rfl⟩
  · have hexec := exec_configStoreComplete_of_flight (dt := dt) (by rw [hrun]; rfl) h
    obtain ⟨hwf, hfits⟩ := State.fits_of_journalSafe hsafe h rfl
    rw [Link.endBusRequest_of_asked _ horphan hasked,
      State.finishHoldUp_of_other (by change s.ss.power ≠ _; rw [hrun]; decide)] at hexec
    refine ⟨_, hexec, fun a => ?_, rfl, rfl⟩
    have hread := Memory.read_writeBytes hwf block hfits a
    simpa using hread
  · intro bytes
    have hexec := exec_journalReadComplete_of_flight (dt := dt) (by rw [hrun]; rfl) h
    rw [Link.endBusRequest_of_asked _ horphan hasked,
      State.finishHoldUp_of_other (by change s.ss.power ≠ _; rw [hrun]; decide), slotReport,
      validityCode_slotDefect, bitIf_newest, bitIf_pocket] at hexec
    exact hexec
  · have hexec := exec_configStoreComplete_of_flight (dt := dt) (by rw [hrun]; rfl) h
    rw [Link.endBusRequest_of_orphan _ horphan,
      State.finishHoldUp_of_other (by change s.ss.power ≠ _; rw [hrun]; decide)] at hexec
    exact ⟨_, hexec, rfl⟩
  · exact ⟨_, exec_checkpointWriteComplete_of_flight (by rw [hup]; rfl) h,
      holdUpLeads_finishHoldUp (u := (s.advance dt).writeDone p slot seq image) hup⟩
  · have hexec := exec_configStoreComplete_of_flight (dt := dt) (by rw [hup]; rfl) h
    rw [Link.endBusRequest_of_asked _ horphan hasked] at hexec
    exact ⟨_, hexec, holdUpLeads_finishHoldUp hup⟩
  · have hexec := exec_journalReadComplete_of_flight (dt := dt) (by rw [hup]; rfl) h
    rw [Link.endBusRequest_of_asked _ horphan hasked] at hexec
    exact ⟨_, hexec, holdUpLeads_finishHoldUp hup⟩
  · have hw : s.ss.power.working = true := by rw [hup]; rfl
    refine ⟨fun last hlast hmissed hlong => ⟨fun hshort hpeak => ?_, fun hgap => ?_⟩, fun hdue => ?_,
      _, exec_vhuReachesWake_of_holdUp dt v hup, holdUpLeads_finishHoldUp hup⟩
    · have hcls := classOf_of_good (c := s.cfg) hshort (by rw [toNat_peak]; exact hpeak)
      exact ⟨_, exec_zeroCrossing_of_accepted hw hlast hlong hmissed hcls,
        State.halfCycle_marks hup rfl (.inl ⟨rfl, rfl⟩) _ _⟩
    · have hcls := classOf_of_long (c := s.cfg)
        (peak := if s.lm.peak.toNat < v.toNat then v else s.lm.peak) hgap
      exact ⟨_, exec_zeroCrossing_of_accepted hw hlast hlong hmissed hcls,
        State.halfCycle_marks hup rfl (.inr ⟨rfl, rfl⟩) _ _⟩
    · exact ⟨_, exec_silenceTimerExpiry_of_due hw hdue,
        State.halfCycle_marks hup rfl (.inr ⟨rfl, rfl⟩) _ _⟩
end

section
/-! Entry into RUN: the pending plans are applied (R102, R152). -/

namespace Sys2Proof.Machine

/-! ### What the work of entering RUN leaves -/

/-- All but the pockets, the plans, the start slot, the write queue and the link is as it was, and no event
is taken back. -/
structure RunFrame (s t : State) : Prop where
  time : t.time = s.time
  pins : t.pins = s.pins
  cfg : t.cfg = s.cfg
  lm : t.lm = s.lm
  ss : t.ss = s.ss
  bd : t.bd = s.bd
  ic : t.ic = s.ic
  journal : t.journal = s.journal
  rings : t.jc.rings = s.jc.rings
  engine : t.jc.engine = s.jc.engine
  scan : t.jc.scan = s.jc.scan
  events : ∀ e ∈ s.ml.events, e ∈ t.ml.events

theorem RunFrame.refl (s : State) : RunFrame s s :=
  ⟨rfl, rfl, rfl, rfl, rfl, rfl, rfl, rfl, rfl, rfl, rfl, fun _ h => h⟩

theorem RunFrame.trans {a b c : State} (h : RunFrame a b) (k : RunFrame b c) : RunFrame a c where
  time := k.time.trans h.time
  pins := k.pins.trans h.pins
  cfg := k.cfg.trans h.cfg
  lm := k.lm.trans h.lm
  ss := k.ss.trans h.ss
  bd := k.bd.trans h.bd
  ic := k.ic.trans h.ic
  journal := k.journal.trans h.journal
  rings := k.rings.trans h.rings
  engine := k.engine.trans h.engine
  scan := k.scan.trans h.scan
  events e he := k.events e (h.events e he)

theorem ActsOn.runFrame {p : PocketId} {s t : State} (h : ActsOn p s t) (hq : KeepsQueues s t) :
    RunFrame s t :=
  ⟨h.time, h.pins, h.cfg, h.lm, h.ss, h.bd, h.ic, h.journal, h.rings, h.engine, h.scan, hq.events⟩

theorem RunFrame.inRun {s t : State} (h : RunFrame s t) : t.inRun = s.inRun := by
  unfold State.inRun
  rw [h.ss]

theorem RunFrame.sense {s t : State} (h : RunFrame s t) (p : PocketId) : t.sense p = s.sense p :=
  congrArg (·.get p) h.ic

theorem RunFrame.arbitrate {s t : State} (h : RunFrame s t) : RunFrame s t.arbitrate := by
  obtain ⟨q, hq⟩ := t.arbitrate_acts
  exact h.trans (hq.runFrame (KeepsQueues.refl t).arbitrate)

/-! ### Journal requests of the other pocket (R118) -/

theorem mem_enqueue_of_other {w : WriteRequest} {q : PocketId} (hw : w.ofPocket q = false)
    (queue : List WriteRequest) (kind : RecordKind) (now : Nat) :
    w ∈ enqueue queue q kind now ↔ w ∈ queue := by
  unfold enqueue
  split
  · rw [List.mem_map]
    constructor
    · rintro ⟨x, hx, rfl⟩
      by_cases hq : x.ofPocket q = true
      · rw [if_pos hq, WriteRequest.ofPocket_upgrade hq] at hw
        exact Bool.noConfusion (hq.symm.trans hw)
      · rwa [if_neg hq]
    · intro h
      exact ⟨w, h, if_neg (by rw [hw]; decide)⟩
  · have hne : w ≠ ⟨.checkpoint q kind, now⟩ := by
      rintro rfl
      simp [WriteRequest.ofPocket] at hw
    simp [hne]

theorem mem_enqueue_of_none {queue : List WriteRequest} {p : PocketId}
    (h : ∀ w ∈ queue, w.ofPocket p = false) (kind : RecordKind) (now : Nat) :
    ⟨.checkpoint p kind, now⟩ ∈ enqueue queue p kind now := by
  have hnone : queue.any (·.ofPocket p) = false := by
    rw [List.any_eq_false]
    intro w hw
    rw [h w hw]
    decide
  unfold enqueue
  rw [hnone]
  simp

theorem WriteRequest.ofPocket_other {w : WriteRequest} {p : PocketId} (h : w.ofPocket p.other = true) :
    w.ofPocket p = false := by
  obtain ⟨kind, hwhat⟩ := WriteRequest.what_of_ofPocket h
  unfold WriteRequest.ofPocket
  rw [hwhat]
  cases p <;> rfl

/-! ### A plan applied on entry into RUN leaves the other pocket (R152) -/

/-- From s to t pocket p was worked on, and nothing of the other pocket's was touched. -/
structure SparesOther (p : PocketId) (s t : State) : Prop extends RunFrame s t where
  pocket : t.pocket p.other = s.pocket p.other
  plan : t.rp.get p.other = s.rp.get p.other
  queued : ∀ w : WriteRequest, w.ofPocket p.other = true → (w ∈ t.jc.queue ↔ w ∈ s.jc.queue)
  starts : s.ssa.Without p.other → t.ssa.Without p.other

theorem SparesOther.refl (p : PocketId) (s : State) : SparesOther p s s :=
  { RunFrame.refl s with pocket := rfl, plan := rfl, queued := fun _ _ => Iff.rfl, starts := id }

theorem Arbiter.Without.arrive {a : Arbiter} {p : PocketId} (h : a.Without p) {r : StartRequest}
    (hr : r.pocket ≠ p) : (a.arrive r).Without p := by
  unfold Arbiter.arrive
  split
  · exact h
  · refine ⟨fun x hx => ?_, h.granted⟩
    rcases List.mem_append.mp hx with hx | hx
    · exact h.queued x hx
    · rw [List.mem_singleton.mp hx]
      exact hr

theorem PocketId.ne_other (p : PocketId) : p ≠ p.other := by
  cases p <;> decide

theorem State.queue_enterPlan (s : State) (p : PocketId) (pl : PlanRecord) (kind : RecordKind) :
    (s.enterPlan p pl kind).jc.queue = enqueue s.jc.queue p kind s.time := by
  rw [State.enterPlan_eq, State.queue_checkStartWait]
  split <;> rfl

theorem State.without_enterPlan {s : State} {p : PocketId} (h : s.ssa.Without p.other) (pl : PlanRecord)
    (kind : RecordKind) : (s.enterPlan p pl kind).ssa.Without p.other := by
  rw [State.enterPlan_eq]
  generalize hv : State.postRequest _ p kind = v
  have hwithout : v.ssa.Without p.other := by
    rw [← hv]
    split
    · exact h.leave p _ _
    · exact h.leave p _ _
  unfold State.checkStartWait
  split
  · exact (hwithout.leave p _ .spinup).arrive (PocketId.ne_other p)
  · exact hwithout

theorem State.applyPlan_spares (s : State) (p : PocketId) : SparesOther p s (s.applyPlan p) := by
  rcases s.applyPlan_cases p with hall | ⟨pl, hpl, hpending⟩
  · rw [State.applyPlan_of_applied hall]
    exact .refl p s
  · rw [State.applyPlan_of_pending hpl hpending]
    have hframe := ((s.applying p pl).enterPlan_acts p pl pl.request).runFrame
      ((s.applying p pl).enterPlan_queues p pl pl.request)
    obtain ⟨hrp, hother⟩ := (s.applying p pl).enterPlan_frame p pl pl.request
    refine
      { time := hframe.time, pins := hframe.pins, cfg := hframe.cfg, lm := hframe.lm, ss := hframe.ss
        bd := hframe.bd, ic := hframe.ic, journal := hframe.journal, rings := hframe.rings
        engine := hframe.engine, scan := hframe.scan, events := hframe.events
        pocket := hother.trans (by simp [State.applying]; rfl)
        plan := by rw [hrp]; simp [State.applying]
        queued := fun w hw => ?_
        starts := fun h => State.without_enterPlan (s := s.applying p pl) h pl pl.request }
    rw [State.queue_enterPlan]
    exact mem_enqueue_of_other (WriteRequest.ofPocket_other hw) _ _ _

/-- An entry into RUN, as either pocket sees it: the other pocket's plan before or after its own. -/
theorem State.enterRun_split (s : State) (p : PocketId) :
    ∃ v u, SparesOther p.other s.running v ∧ SparesOther p.other (v.applyPlan p) u
      ∧ s.enterRun = u.arbitrate := by
  obtain ⟨v, hv, hu⟩ := both_act (R := SparesOther) SparesOther.refl State.applyPlan_spares s.running p
  exact ⟨v, _, hv, hu, rfl⟩

theorem State.enterRun_frame (s : State) : RunFrame s.running s.enterRun := by
  have hboth := (s.running.applyPlan_spares .U).toRunFrame.trans
    ((s.running.applyPlan .U).applyPlan_spares .L).toRunFrame
  exact hboth.arbitrate

theorem SparesOther.self {p : PocketId} {s t : State} (h : SparesOther p.other s t) :
    t.pocket p = s.pocket p ∧ t.rp.get p = s.rp.get p
      ∧ (∀ w : WriteRequest, w.ofPocket p = true → (w ∈ t.jc.queue ↔ w ∈ s.jc.queue))
      ∧ (s.ssa.Without p → t.ssa.Without p) := by
  have hpocket := h.pocket
  have hplan := h.plan
  have hqueued := h.queued
  have hstarts := h.starts
  rw [PocketId.other_other] at hpocket hplan hqueued hstarts
  exact ⟨hpocket, hplan, hqueued, hstarts⟩

/-- A plan that stands is applied once RUN is entered. -/
theorem State.enterRun_applied {s : State} {p : PocketId} {pl : PlanRecord} (h : s.rp.get p = some pl) :
    s.enterRun.rp.get p = some { pl with applied := true } := by
  obtain ⟨v, u, hv, hu, hrun⟩ := s.enterRun_split p
  obtain ⟨-, hvplan, -, -⟩ := hv.self
  obtain ⟨-, huplan, -, -⟩ := hu.self
  obtain ⟨q, hq⟩ := u.arbitrate_acts
  have hpl : v.rp.get p = some pl := hvplan.trans h
  rw [hrun, hq.rp, huplan]
  cases happlied : pl.applied with
  | true =>
    rw [State.applyPlan_of_applied fun x hx => by rw [← Option.some.inj (hpl.symm.trans hx), happlied], hpl]
    rw [← happlied]
  | false =>
    rw [State.applyPlan_of_pending hpl happlied, (State.enterPlan_frame _ p pl pl.request).1]
    simp [State.applying]

/-! ### The pocket of a pending plan (R152, R153) -/

/-- The faults a plan restores (R152, step 1). -/
def Pocket.recoveredFaults (k : Pocket) : FaultSet :=
  match k.recovered with
  | .record _ _ f => f
  | .none | .unreadable => FaultSet.empty

theorem PlanRecord.request_eq (pl : PlanRecord) : pl.request
    = (if pl.dest = .startWait ∨ pl.dest = .acRest then .resume else .phase) := by
  unfold PlanRecord.request
  cases pl.dest <;> rfl

section
variable {s : State} {p : PocketId} {pl : PlanRecord} (hpl : s.rp.get p = some pl)
  (hpending : pl.applied = false)
include hpl hpending

/-- The state in which the pocket's pending plan is entered. -/
theorem State.enterRun_entry : ∃ a u, RunFrame s.running a
    ∧ a.pocket p = { s.pocket p with faults := (s.pocket p).recoveredFaults }
    ∧ (∀ w : WriteRequest, w.ofPocket p = true → (w ∈ a.jc.queue ↔ w ∈ s.jc.queue))
    ∧ SparesOther p.other (a.enterPlan p pl pl.request) u ∧ s.enterRun = u.arbitrate := by
  obtain ⟨v, u, hv, hu, hrun⟩ := s.enterRun_split p
  obtain ⟨hvpocket, hvplan, hvqueued, -⟩ := hv.self
  have hvpocket : v.pocket p = s.pocket p := hvpocket
  rw [State.applyPlan_of_pending (hvplan.trans hpl) hpending] at hu
  have hframe : RunFrame v (v.applying p pl) := { RunFrame.refl v with }
  refine ⟨v.applying p pl, u, hv.toRunFrame.trans hframe, ?_, hvqueued, hu, hrun⟩
  rw [← hvpocket]
  simp [State.applying]
  rfl

theorem State.enterRun_requests (hqueue : s.jc.queue = []) :
    ∃ w ∈ s.enterRun.jc.queue, w.what = .checkpoint p
      (if pl.dest = .startWait ∨ pl.dest = .acRest then .resume else .phase) := by
  obtain ⟨a, u, -, -, hqueued, hu, hrun⟩ := State.enterRun_entry hpl hpending
  obtain ⟨-, -, huqueued, -⟩ := hu.self
  have hnone : ∀ w ∈ a.jc.queue, w.ofPocket p = false := by
    intro w hw
    cases hown : w.ofPocket p with
    | false => rfl
    | true =>
      have hin := (hqueued w hown).mp hw
      rw [hqueue] at hin
      cases hin
  refine ⟨⟨.checkpoint p pl.request, a.time⟩, ?_, by rw [pl.request_eq]⟩
  rw [hrun, State.queue_arbitrate]
  refine (huqueued _ (by simp [WriteRequest.ofPocket])).mpr ?_
  rw [State.queue_enterPlan]
  exact mem_enqueue_of_none hnone _ _

/-- A plan that leads to START_WAIT (R10, R152). -/
theorem State.enterRun_waits (h : pl.dest = .startWait) :
    (s.enterRun.pocket p).phase
        = (if (s.sense p).door.level ∧ s.lm.line = .normal then .spinup else .startWait)
      ∧ (s.enterRun.pocket p).run = pl.run (s.pocket p).run s.bd.stamp
      ∧ (s.enterRun.pocket p).faults = (s.pocket p).recoveredFaults
      ∧ (s.enterRun.pocket p).frozen = false := by
  obtain ⟨a, u, ha, hself, -, hu, hrun⟩ := State.enterRun_entry hpl hpending
  obtain ⟨hkept, -, -, -⟩ := hu.self
  obtain ⟨hphase, hrecord, hfaults, hfrozen, -⟩ :=
    State.enterPlan_waits (p := p) pl.request (ha.inRun.trans rfl) h
  rw [ha.sense, ha.lm] at hphase
  rw [hself, ha.bd] at hrecord
  rw [hself] at hfaults
  rw [← hkept] at hphase hrecord hfaults hfrozen
  obtain ⟨krun, kfaults, kphase, -⟩ := arbitrate_keeps u p
  obtain ⟨hsame, hreleased⟩ := kphase (by rw [hphase]; split <;> decide)
  rw [hrun]
  exact ⟨hsame.trans hphase, krun.trans hrecord, kfaults.trans hfaults, hreleased.trans hfrozen⟩

/-- A plan that leads to AC_REST (R57, R152). -/
theorem State.enterRun_rests (h : pl.dest = .acRest) :
    (s.enterRun.pocket p).phase = .acRest
      ∧ (s.enterRun.pocket p).run
        = { pl.run (s.pocket p).run s.bd.stamp with target := .antiCrease }
      ∧ (s.enterRun.pocket p).faults = (s.pocket p).recoveredFaults
      ∧ (s.enterRun.pocket p).frozen = false
      ∧ (s.enterRun.pocket p).timers.rest
        = some (s.time + (pl.run (s.pocket p).run s.bd.stamp).rest * 1000000) := by
  obtain ⟨a, u, ha, hself, -, hu, hrun⟩ := State.enterRun_entry hpl hpending
  obtain ⟨hkept, -, -, hstarts⟩ := hu.self
  obtain ⟨hphase, hrecord, hfaults, hwithout, -, hfrozen, hrest⟩ :=
    State.enterPlan_rests (s := a) (p := p) pl.request h
  rw [hself, ha.bd] at hrecord
  rw [hself] at hfaults
  rw [hself, ha.bd, ha.time] at hrest
  rw [← hkept] at hphase hrecord hfaults hfrozen hrest
  rw [hrun, State.arbitrate_pocket_of_without (hstarts hwithout)]
  exact ⟨hphase, hrecord, hfaults, hfrozen, hrest⟩

/-- A plan that leads to another phase (R152). -/
theorem State.enterRun_enters (hwait : pl.dest ≠ .startWait) (hrest : pl.dest ≠ .acRest) :
    (s.enterRun.pocket p).phase = pl.dest
      ∧ (s.enterRun.pocket p).run = pl.run (s.pocket p).run s.bd.stamp
      ∧ (s.enterRun.pocket p).faults = (s.pocket p).recoveredFaults
      ∧ (s.enterRun.pocket p).frozen = ((s.pocket p).frozen && !pl.dest.running) := by
  obtain ⟨a, u, ha, hself, -, hu, hrun⟩ := State.enterRun_entry hpl hpending
  obtain ⟨hkept, -, -, -⟩ := hu.self
  obtain ⟨hphase, hrecord, hfaults, -, hfrozen⟩ :=
    State.enterPlan_enters (s := a) (p := p) pl.request hwait hrest
  rw [hself, ha.bd] at hrecord
  rw [hself] at hfaults hfrozen
  rw [← hkept] at hphase hrecord hfaults hfrozen
  obtain ⟨krun, kfaults, kphase, -⟩ := arbitrate_keeps u p
  obtain ⟨hsame, hreleased⟩ := kphase (by rw [hphase]; exact hrest)
  rw [hrun]
  exact ⟨hsame.trans hphase, krun.trans hrecord, kfaults.trans hfaults, hreleased.trans hfrozen⟩

/-- The faults a pocket's plan restores, wherever it leads. -/
theorem State.enterRun_faults : (s.enterRun.pocket p).faults = (s.pocket p).recoveredFaults := by
  by_cases hwait : pl.dest = .startWait
  · exact (State.enterRun_waits hpl hpending hwait).2.2.1
  · by_cases hrest : pl.dest = .acRest
    · exact (State.enterRun_rests hpl hpending hrest).2.2.1
    · exact (State.enterRun_enters hpl hpending hwait hrest).2.2.1

end

/-! ### The run record of a plan (R153) -/

/-- No plan changes the rest time. -/
theorem PlanRecord.rest_run (pl : PlanRecord) (r : RunRecord) (now : Stamp) : (pl.run r now).rest = r.rest := by
  unfold PlanRecord.run
  cases pl.kind <;> cases pl.dest <;> rfl

/-- A plan into a phase that carries its target, without a field of its own. -/
theorem PlanRecord.run_of_target {pl : PlanRecord} (r : RunRecord) (now : Stamp)
    (hkind : pl.kind ∈ [.holdHeat, .stayHeld, .stayPaused, .resumeAntiCrease])
    (hdest : pl.dest ∈ [.held, .paused, .acRest]) :
    pl.run r now = { r with target := pl.destTarget } := by
  simp only [List.mem_cons, List.not_mem_nil, or_false] at hkind hdest
  rcases hkind with hkind | hkind | hkind | hkind <;> rcases hdest with hdest | hdest | hdest <;>
    simp [PlanRecord.run, hkind, hdest]

/-- A plan that only ends the cycle leaves the run record. -/
theorem PlanRecord.run_of_closed {pl : PlanRecord} (r : RunRecord) (now : Stamp)
    (hkind : pl.kind ∈ [.skipToAntiCrease, .finish, .stayFault, .stayDone, .stayIdle])
    (hdest : pl.dest ∈ [.done, .faultHold, .idle]) : pl.run r now = r := by
  simp only [List.mem_cons, List.not_mem_nil, or_false] at hkind hdest
  rcases hkind with hkind | hkind | hkind | hkind | hkind <;> rcases hdest with hdest | hdest | hdest <;>
    simp [PlanRecord.run, hkind, hdest]

/-! ### The two ends of ARM (R102) -/

theorem exec_vhuReachesArm_of_armed {s : State} (dt : Nat) {v : Byte} (hpower : s.ss.power = .wake .arm)
    (h : s.cfg.armCode ≤ v.toNat) :
    exec (.vhuReachesArm dt v) s = .next ((s.advance dt).noteVhu v).enterRun :=
  congrArg Host.Outcome.next (if_pos ⟨hpower, h⟩)

/-- The state once STORE_WEAK was raised and posted (R102). -/
def State.weakened (s : State) (dt : Nat) : State :=
  ({ s.advance dt with ss := { s.ss with storeWeak := true } } : State).post .storeWeak none
    (half s.ss.vhu.toNat)

theorem exec_armTimerExpiry_of_weak {s : State} {dt τ : Nat} (hpower : s.ss.power = .wake .arm)
    (hτ : s.ss.armTimer = some τ) (hdue : τ ≤ s.time + dt) (h : s.ss.vhu.toNat < s.cfg.armCode) :
    exec (.armTimerExpiry dt) s = .next (s.weakened dt).enterRun :=
  congrArg Host.Outcome.next ((if_pos ⟨hpower, due_of_le hτ hdue⟩).trans (if_pos h))

end Sys2Proof.Machine

open Sys2Proof Sys2Proof.Machine

/-- Settles O30: both ends of ARM enter RUN, and each pending plan places its pocket. -/
theorem armEndsInRunWithPlansApplied : Obligations.ArmEndsInRunWithPlansApplied := by
  refine ⟨fun dt v s hpower => ?_, fun dt v p pl s hpower hpl hpending hqueue => ?_⟩
  · intro applied
    have happlied : ∀ a : State, a.rp = s.rp → a.cfg = s.cfg → a.bd = s.bd → a.ic = s.ic → a.lm = s.lm →
        a.journal = s.journal → a.jc.rings = s.jc.rings → a.pins = s.pins → applied a.enterRun := by
      intro a hrp hcfg hbd hic hlm hjournal hrings hpins
      have hframe := a.enterRun_frame
      exact ⟨by rw [hframe.ss]; rfl, by rw [hframe.ss]; rfl,
        fun p pl hpl => State.enterRun_applied (by rw [hrp]; exact hpl), hframe.cfg.trans hcfg,
        hframe.bd.trans hbd, hframe.ic.trans hic, hframe.lm.trans hlm, hframe.journal.trans hjournal,
        hframe.rings.trans hrings, hframe.pins.trans hpins⟩
    refine ⟨fun harm => ?_, fun τ hτ hdue hweak => ?_⟩
    · have hss := ((s.advance dt).noteVhu v).enterRun_frame.ss
      exact ⟨_, exec_vhuReachesArm_of_armed dt hpower harm, by rw [hss]; rfl, by rw [hss]; rfl,
        happlied _ rfl rfl rfl rfl rfl rfl rfl rfl⟩
    · have hss := (s.weakened dt).enterRun_frame.ss
      exact ⟨_, exec_armTimerExpiry_of_weak hpower hτ hdue hweak, by rw [hss]; rfl, by rw [hss]; rfl,
        happlied _ rfl rfl rfl rfl rfl rfl rfl rfl⟩
  · intro r placed
    have hplaced : ∀ a : State, a.rp = s.rp → a.bd = s.bd → a.ic = s.ic → a.lm = s.lm →
        a.psq = s.psq → a.jc.queue = s.jc.queue → placed a.enterRun := by
      intro a hrp hbd hic hlm hpsq hjc
      have hplan : a.rp.get p = some pl := by rw [hrp]; exact hpl
      have hself : a.pocket p = s.pocket p := congrArg (·.get p) hpsq
      have hsense : a.sense p = s.sense p := congrArg (·.get p) hic
      have hrequests := State.enterRun_requests hplan hpending (hjc.trans hqueue)
      have hfaults := State.enterRun_faults hplan hpending
      rw [hself] at hfaults
      have hwaits := State.enterRun_waits hplan hpending
      have hrests := State.enterRun_rests hplan hpending
      have henters := State.enterRun_enters hplan hpending
      rw [hself, hbd] at hwaits hrests henters
      rw [hsense, hlm] at hwaits
      refine ⟨?_, fun hkind hdest => ?_, fun hkind hdest => ?_, fun hkind hdest => ?_,
        fun hkind hdest => ?_, fun hkind hdest => ?_, fun hkind hdest => ?_, fun hdest => ?_,
        fun hdest => ?_, fun hkind hdest => ?_, hrequests⟩
      · rw [hfaults]
        unfold Pocket.recoveredFaults
        cases (s.pocket p).recovered <;> rfl
      · obtain ⟨-, hrun, -⟩ := hwaits hdest
        rw [hrun]
        simp [PlanRecord.run, hkind, hdest, r]
      · obtain ⟨-, hrun, -⟩ := hwaits hdest
        rw [hrun]
        simp [PlanRecord.run, hkind, hdest, r]
      · obtain ⟨hphase, hrun, -, hfrozen⟩ :=
          henters (by rw [hdest]; decide) (by rw [hdest]; decide)
        rw [hphase, hrun, hfrozen, hdest]
        refine ⟨PlanRecord.run_of_target _ _ ?_ (by rw [hdest]; decide), rfl, Bool.and_true _⟩
        rcases hkind with hkind | hkind <;> rw [hkind] <;> decide
      · obtain ⟨hphase, hrun, -, hfrozen⟩ :=
          henters (by rw [hdest]; decide) (by rw [hdest]; decide)
        rw [hphase, hrun, hfrozen, hdest]
        exact ⟨PlanRecord.run_of_target _ _ (by rw [hkind]; decide) (by rw [hdest]; decide), rfl,
          Bool.and_true _⟩
      · obtain ⟨-, hrun, -⟩ := hrests hdest
        rw [hrun]
        simp [PlanRecord.run, hkind, hdest, r, Backup.stamp]
      · obtain ⟨-, hrun, -⟩ := hrests hdest
        rw [hrun, PlanRecord.run_of_target _ _ (by rw [hkind]; decide) (by rw [hdest]; decide)]
      · obtain ⟨hphase, -, -, hfrozen⟩ := hwaits hdest
        exact ⟨hphase, hfrozen⟩
      · obtain ⟨hphase, -, -, hfrozen, hrest⟩ := hrests hdest
        rw [PlanRecord.rest_run] at hrest
        exact ⟨hphase, hfrozen, by rw [hrest, a.enterRun_frame.time]; rfl⟩
      · have hclosed : pl.dest ≠ .startWait ∧ pl.dest ≠ .acRest := by
          simp only [List.mem_cons, List.not_mem_nil, or_false] at hdest
          rcases hdest with hdest | hdest | hdest <;> rw [hdest] <;> decide
        obtain ⟨hphase, hrun, -⟩ := henters hclosed.1 hclosed.2
        exact ⟨hrun.trans (PlanRecord.run_of_closed _ _ hkind hdest), hphase⟩
    refine ⟨fun harm => ?_, fun τ hτ hdue hweak => ?_⟩
    · exact ⟨_, exec_vhuReachesArm_of_armed dt hpower harm, hplaced _ rfl rfl rfl rfl rfl rfl⟩
    · refine ⟨_, exec_armTimerExpiry_of_weak hpower hτ hdue hweak, hplaced _ rfl rfl rfl rfl rfl rfl,
        fun hmask hroom => ?_⟩
      refine (s.weakened dt).enterRun_frame.events _ ?_
      have hposted := State.events_post
        (s := { s.advance dt with ss := { s.ss with storeWeak := true } }) .storeWeak none
        (half s.ss.vhu.toNat) hmask hroom
      exact hposted ▸ List.mem_append_right _ List.mem_cons_self
end

section
/-! The load sequence and the end of the scan (R133 to R140). -/

namespace Sys2Proof.Machine

/-! ### The epoch chosen (R139) -/

theorem foldl_max_spec (e : Nat) (es : List Nat) :
    es.foldl max e ∈ e :: es ∧ ∀ x ∈ e :: es, x ≤ es.foldl max e := by
  induction es generalizing e with
  | nil => simp
  | cons y es ih =>
    obtain ⟨hmem, hle⟩ := ih (max e y)
    rw [List.foldl_cons]
    have hmax : max e y ≤ es.foldl max (max e y) := hle _ List.mem_cons_self
    refine ⟨?_, fun x hx => ?_⟩
    · rcases List.mem_cons.mp hmem with h | h
      · rcases max_choice e y with hm | hm <;> rw [h, hm] <;> simp
      · exact List.mem_cons_of_mem _ (List.mem_cons_of_mem _ h)
    · rcases List.mem_cons.mp hx with rfl | hx
      · omega
      · rcases List.mem_cons.mp hx with rfl | hx
        · omega
        · exact hle x (List.mem_cons_of_mem _ hx)

/-- The search goes up from its start over values of the list, and stops at one that is not in it unless
its bound is spent. -/
theorem leastAbsent_spec (xs : List Nat) (fuel n : Nat) :
    n ≤ leastAbsent xs fuel n ∧ (∀ e, n ≤ e → e < leastAbsent xs fuel n → e ∈ xs)
      ∧ (leastAbsent xs fuel n ∈ xs → leastAbsent xs fuel n = n + fuel) := by
  induction fuel generalizing n with
  | zero => exact ⟨le_refl n, fun e h h' => absurd h (by simp only [leastAbsent] at h'; omega), fun _ => rfl⟩
  | succ fuel ih =>
    unfold leastAbsent
    split
    · next hn =>
      obtain ⟨hle, hall, hspent⟩ := ih (n + 1)
      refine ⟨by omega, fun e h h' => ?_, fun h => by rw [hspent h]; omega⟩
      rcases Nat.eq_or_lt_of_le h with rfl | h
      · exact List.contains_iff_mem.mp hn
      · exact hall e h h'
    · next hn =>
      exact ⟨le_refl n, fun e h h' => absurd h (by omega),
        fun h => absurd (List.contains_iff_mem.mpr h) hn⟩

/-- With 1 among them, the values from 2 up over a list of its own length cannot all be in it. -/
theorem leastAbsent_absent {xs : List Nat} (h : 1 ∈ xs) : leastAbsent xs xs.length 2 ∉ xs := by
  intro hmem
  obtain ⟨hle, hall, hspent⟩ := leastAbsent_spec xs xs.length 2
  have htop := hspent hmem
  have hsub : Finset.Icc 1 (xs.length + 1) ⊆ xs.toFinset := by
    intro e he
    obtain ⟨hlow, hhigh⟩ := Finset.mem_Icc.mp he
    rw [List.mem_toFinset]
    rcases Nat.eq_or_lt_of_le hlow with rfl | hlow
    · exact h
    · exact hall e hlow (by omega)
  have hcard := (Finset.card_le_card hsub).trans xs.toFinset_card_le
  rw [Nat.card_Icc] at hcard
  omega

theorem chooseEpoch_of_largest {epochs : List Nat} {m : Nat} (hm : m ∈ epochs)
    (hmax : ∀ e ∈ epochs, e ≤ m) :
    chooseEpoch epochs = (if m < 65535 then m + 1
      else if 1 ∈ epochs then leastAbsent epochs epochs.length 2 else 1) := by
  cases epochs with
  | nil => cases hm
  | cons e es =>
    obtain ⟨hmem, hle⟩ := foldl_max_spec e es
    have hlargest : es.foldl max e = m := Nat.le_antisymm (hmax _ hmem) (hle m hm)
    simp only [chooseEpoch, hlargest, List.contains_iff_mem]

/-! ### Recovery of a pocket (R138) -/

/-- The pocket's ring gave a record that is neither IDLE nor DONE. -/
def ScanRing.givesActive (r : ScanRing) (p : PocketId) : Prop :=
  r.unreadable = false ∧ ∃ b, r.best = some b
    ∧ ∃ c, readRecord p b.bytes = .ok c ∧ c.phase ≠ .idle ∧ c.phase ≠ .done

section
variable {k : Pocket} {r : ScanRing} {p : PocketId}

theorem Pocket.fill_of_unreadable (h : r.unreadable = true) :
    k.fill r p = { k with recovered := .unreadable } :=
  if_pos h

theorem Pocket.fill_of_none (h : r.unreadable = false) (hbest : r.best = none) :
    k.fill r p = { k with recovered := .none } := by
  simp [Pocket.fill, h, ScanRing.record, hbest]

theorem Pocket.fill_of_record {b : BestSlot} {c : CheckpointRecord} (h : r.unreadable = false)
    (hbest : r.best = some b) (hread : readRecord p b.bytes = .ok c) :
    k.fill r p = { k with run := c.run, frozen := true, recovered := .record c.kind c.phase c.faults } := by
  simp [Pocket.fill, h, ScanRing.record, hbest, hread]

theorem Pocket.fill_of_error {b : BestSlot} {d : Defect} (h : r.unreadable = false)
    (hbest : r.best = some b) (hread : readRecord p b.bytes = .error d) :
    k.fill r p = { k with recovered := .none } := by
  simp [Pocket.fill, h, ScanRing.record, hbest, hread]

theorem Pocket.fill_keeps (k : Pocket) (r : ScanRing) (p : PocketId) :
    (k.fill r p).phase = k.phase ∧ (k.fill r p).faults = k.faults
      ∧ (k.fill r p).motorRun = k.motorRun := by
  unfold Pocket.fill
  split
  · exact ⟨rfl, rfl, rfl⟩
  · split <;> exact ⟨rfl, rfl, rfl⟩

theorem Pocket.fill_active_iff (k : Pocket) (r : ScanRing) (p : PocketId) :
    (k.fill r p).recovered.active = true ↔ r.givesActive p := by
  cases hunreadable : r.unreadable with
  | true =>
    rw [Pocket.fill_of_unreadable hunreadable]
    simp [Recovered.active, ScanRing.givesActive, hunreadable]
  | false =>
    cases hbest : r.best with
    | none =>
      rw [Pocket.fill_of_none hunreadable hbest]
      simp [Recovered.active, ScanRing.givesActive, hbest]
    | some b =>
      cases hread : readRecord p b.bytes with
      | error d =>
        rw [Pocket.fill_of_error hunreadable hbest hread]
        simp [Recovered.active, ScanRing.givesActive, hbest, hread]
      | ok c =>
        rw [Pocket.fill_of_record hunreadable hbest hread]
        simp [Recovered.active, ScanRing.givesActive, hunreadable, hbest, hread]

end

/-! ### The recovered record is kept by the entry into RUN (R152) -/

def KeepsRecovered (s t : State) : Prop := ∀ q, (t.pocket q).recovered = (s.pocket q).recovered

namespace KeepsRecovered

variable {a s : State} {p : PocketId}

theorem setPocket (h : KeepsRecovered a s) {k : Pocket} (hk : k.recovered = (s.pocket p).recovered) :
    KeepsRecovered a (s.setPocket p k) := by
  intro q
  rw [← h q]
  cases p <;> cases q
  case U.U | L.L => exact hk
  case U.L | L.U => rfl

theorem changePhase (h : KeepsRecovered a s) (d : Phase) : KeepsRecovered a (s.changePhase p d) :=
  h.setPocket (p := p) (k := (s.pocket p).move d s.time s.cfg.period) rfl

theorem postRequest (h : KeepsRecovered a s) (kind : RecordKind) :
    KeepsRecovered a (s.postRequest p kind) :=
  h.setPocket (p := p) (k := { s.pocket p with timers := _ }) rfl

theorem enterAcRest (h : KeepsRecovered a s) : KeepsRecovered a (s.enterAcRest p) :=
  (h.changePhase .acRest).setPocket rfl

theorem checkStartWait (h : KeepsRecovered a s) : KeepsRecovered a (s.checkStartWait p) := by
  unfold State.checkStartWait
  split
  · exact h.changePhase .spinup
  · exact h

theorem enterPlan (h : KeepsRecovered a s) (pl : PlanRecord) (kind : RecordKind) :
    KeepsRecovered a (s.enterPlan p pl kind) := by
  have hrun : KeepsRecovered a (s.setRun p (pl.run (s.pocket p).run s.bd.stamp)) := h.setPocket rfl
  rw [State.enterPlan_eq]
  refine (KeepsRecovered.postRequest ?_ kind).checkStartWait
  split
  · exact hrun.enterAcRest
  · exact hrun.changePhase _

theorem applyPlan (h : KeepsRecovered a s) : KeepsRecovered a (s.applyPlan p) := by
  rcases s.applyPlan_cases p with hall | ⟨pl, hpl, hpending⟩
  · rwa [State.applyPlan_of_applied hall]
  · rw [State.applyPlan_of_pending hpl hpending]
    exact KeepsRecovered.enterPlan (s := s.applying p pl)
      (h.setPocket (p := p) (k := { s.pocket p with faults := _ }) rfl) pl _

theorem takeGrant (h : KeepsRecovered a s) (r : StartRequest) : KeepsRecovered a (s.takeGrant r) := by
  unfold State.takeGrant
  dsimp only
  split
  · exact h.setPocket rfl
  · exact (h.changePhase .acBurst).setPocket rfl
  · split
    · exact h.setPocket rfl
    · exact h
  · exact h

theorem arbitrate (h : KeepsRecovered a s) : KeepsRecovered a s.arbitrate := by
  unfold State.arbitrate
  split
  · next r rest _ _ _ =>
    exact KeepsRecovered.takeGrant
      (s := { s with ssa := { slot := some ⟨r, s.time, s.holdEnd r⟩, queue := rest } }) h r
  · exact h

theorem enterRun (s : State) : KeepsRecovered s s.enterRun :=
  have hrunning : KeepsRecovered s s.running := fun _ => rfl
  hrunning.applyPlan.applyPlan.arbitrate

end KeepsRecovered

/-! ### The work at the end of a scan (R137 to R140) -/

/-- The end of the scan raises BACKUP_LOST: an epoch has to be chosen while an active record was recovered
(R139). -/
def State.losesBackup (s : State) (sc : Scan) : Prop :=
  s.bd.epoch = 0 ∧ ∃ p, (sc.rings.get p).givesActive p

/-- What the end of a scan leaves in s's place besides the pockets, the plans, the start slot, the write
queue and the power state. -/
structure ScanLeaves (s : State) (sc : Scan) (t : State) : Prop where
  cfg : t.cfg = s.cfg
  lm : t.lm = s.lm
  ic : t.ic = s.ic
  journal : t.journal = s.journal
  rings : t.jc.rings = ⟨sc.rings.u.ring, sc.rings.l.ring⟩
  engine : t.jc.engine = .free
  scan : t.jc.scan = none
  bd : t.bd = { s.bd with
    epoch := if s.bd.epoch = 0 then chooseEpoch sc.epochs else s.bd.epoch
    watch := ⟨s.bd.watch.u.disarm, s.bd.watch.l.disarm⟩ }
  storeWeak : t.ss.storeWeak = s.ss.storeWeak
  journalFault : t.ss.journalFault = s.ss.journalFault
  events : ∀ e ∈ s.ml.events, e ∈ t.ml.events
  kept : ¬ s.losesBackup sc → t.ss.backupLost = s.ss.backupLost
  lost : s.losesBackup sc → t.ss.backupLost = true
  told : s.losesBackup sc → s.cfg.classMask = 0 → s.ml.events.length < 16 →
    (⟨.backupLost, none, half s.bd.clock, half t.bd.epoch⟩ : EventEntry) ∈ t.ml.events

/-- Later work that frames all but what ScanLeaves does not speak of. -/
theorem ScanLeaves.frame {s u t : State} {sc : Scan} (h : ScanLeaves s sc u) (hf : RunFrame u t) :
    ScanLeaves s sc t where
  cfg := hf.cfg.trans h.cfg
  lm := hf.lm.trans h.lm
  ic := hf.ic.trans h.ic
  journal := hf.journal.trans h.journal
  rings := hf.rings.trans h.rings
  engine := hf.engine.trans h.engine
  scan := hf.scan.trans h.scan
  bd := hf.bd.trans h.bd
  storeWeak := by rw [hf.ss, h.storeWeak]
  journalFault := by rw [hf.ss, h.journalFault]
  events e he := hf.events e (h.events e he)
  kept hnone := by rw [hf.ss, h.kept hnone]
  lost hlost := by rw [hf.ss, h.lost hlost]
  told hlost hmask hroom := by
    rw [hf.bd]
    exact hf.events _ (h.told hlost hmask hroom)

/-- Steps 1 and 2: the rings and the pockets are filled, and the engine is free (R137, R138). -/
def State.filled (s : State) (sc : Scan) : State :=
  { s with
    jc := { s.jc with rings := ⟨sc.rings.u.ring, sc.rings.l.ring⟩, engine := .free, scan := none }
    psq := ⟨s.psq.u.fill sc.rings.u .U, s.psq.l.fill sc.rings.l .L⟩ }

theorem State.pocket_filled (s : State) (sc : Scan) (p : PocketId) :
    (s.filled sc).pocket p = (s.pocket p).fill (sc.rings.get p) p := by
  cases p <;> rfl

theorem State.active_filled_iff (s : State) (sc : Scan) :
    ((s.filled sc).psq.u.recovered.active || (s.filled sc).psq.l.recovered.active) = true
      ↔ ∃ p, (sc.rings.get p).givesActive p := by
  rw [Bool.or_eq_true]
  constructor
  · rintro (h | h)
    · exact ⟨.U, (Pocket.fill_active_iff s.psq.u sc.rings.u .U).mp h⟩
    · exact ⟨.L, (Pocket.fill_active_iff s.psq.l sc.rings.l .L).mp h⟩
  · rintro ⟨p, h⟩
    cases p with
    | U => exact .inl ((Pocket.fill_active_iff s.psq.u sc.rings.u .U).mpr h)
    | L => exact .inr ((Pocket.fill_active_iff s.psq.l sc.rings.l .L).mpr h)

theorem State.scanned_eq (s : State) (sc : Scan) : s.scanned sc =
    { (s.filled sc).settleEpoch sc.epochs with
      bd := { ((s.filled sc).settleEpoch sc.epochs).bd with
        watch := ⟨((s.filled sc).settleEpoch sc.epochs).bd.watch.u.disarm,
          ((s.filled sc).settleEpoch sc.epochs).bd.watch.l.disarm⟩ } } := rfl

theorem State.settleEpoch_of_lost {s : State} {epochs : List Nat} (hepoch : s.bd.epoch = 0)
    (h : (s.psq.u.recovered.active || s.psq.l.recovered.active) = true) :
    s.settleEpoch epochs = ({ s with
      bd := { s.bd with epoch := chooseEpoch epochs }
      ss := { s.ss with backupLost := true } } : State).post .backupLost none
        (half (chooseEpoch epochs)) := by
  unfold State.settleEpoch
  rw [if_pos hepoch]
  exact if_pos h

theorem State.settleEpoch_of_quiet {s : State} {epochs : List Nat} (hepoch : s.bd.epoch = 0)
    (h : ¬ (s.psq.u.recovered.active || s.psq.l.recovered.active) = true) :
    s.settleEpoch epochs = { s with bd := { s.bd with epoch := chooseEpoch epochs } } := by
  unfold State.settleEpoch
  rw [if_pos hepoch]
  exact if_neg h

theorem State.scanned_leaves (s : State) (sc : Scan) :
    ScanLeaves s sc (s.scanned sc) ∧ (s.scanned sc).psq = (s.filled sc).psq
      ∧ (s.scanned sc).ssa = s.ssa ∧ (s.scanned sc).jc.queue = s.jc.queue
      ∧ (s.scanned sc).time = s.time ∧ (s.scanned sc).ss.vhu = s.ss.vhu := by
  have hlost : s.losesBackup sc ↔ s.bd.epoch = 0
      ∧ ((s.filled sc).psq.u.recovered.active || (s.filled sc).psq.l.recovered.active) = true := by
    rw [State.active_filled_iff]
    rfl
  rw [State.scanned_eq]
  by_cases hepoch : s.bd.epoch = 0
  · by_cases hactive :
        ((s.filled sc).psq.u.recovered.active || (s.filled sc).psq.l.recovered.active) = true
    · rw [State.settleEpoch_of_lost (s := s.filled sc) hepoch hactive]
      refine ⟨⟨rfl, rfl, rfl, rfl, rfl, rfl, rfl, ?_, rfl, rfl, ((KeepsQueues.refl _).post _ _ _).events,
        fun h => absurd (hlost.mpr ⟨hepoch, hactive⟩) h,
        fun _ => rfl, fun _ hmask hroom => ?_⟩, rfl, rfl, rfl, rfl, rfl⟩
      · rw [if_pos hepoch]
        rfl
      · have hposted := State.events_post (s := { s.filled sc with
            bd := { s.bd with epoch := chooseEpoch sc.epochs }
            ss := { s.ss with backupLost := true } }) .backupLost none
          (half (chooseEpoch sc.epochs)) hmask hroom
        exact hposted ▸ List.mem_append_right _ List.mem_cons_self
    · rw [State.settleEpoch_of_quiet (s := s.filled sc) hepoch hactive]
      refine ⟨⟨rfl, rfl, rfl, rfl, rfl, rfl, rfl, ?_, rfl, rfl, fun _ => id, fun _ => rfl,
        fun h => absurd (hlost.mp h).2 hactive, fun h => absurd (hlost.mp h).2 hactive⟩,
        rfl, rfl, rfl, rfl, rfl⟩
      rw [if_pos hepoch]
      rfl
  · have hkeep : (s.filled sc).settleEpoch sc.epochs = s.filled sc := if_neg hepoch
    rw [hkeep]
    refine ⟨⟨rfl, rfl, rfl, rfl, rfl, rfl, rfl, ?_, rfl, rfl, fun _ => id, fun _ => rfl,
      fun h => absurd (hlost.mp h).1 hepoch, fun h => absurd (hlost.mp h).1 hepoch⟩,
      rfl, rfl, rfl, rfl, rfl⟩
    rw [if_neg hepoch]
    rfl

/-- Step 5: both plans are computed from the state that step 4 left. -/
def State.plannedAtScan (s : State) (sc : Scan) : State :=
  ((s.scanned sc).planAtScan .U).planAtScan .L

/-- A pocket's plan from a state that step 4 left (R148 to R151). -/
def State.planFrom (s : State) (p : PocketId) : PlanRecord :=
  scanPlan s.cfg s.bd (s.sense p) (s.pocket p).run (s.pocket p).recovered (s.bd.watch.get p).count

theorem State.planAtScan_frame (s : State) (p : PocketId) :
    RunFrame s (s.planAtScan p) ∧ (s.planAtScan p).psq = s.psq ∧ (s.planAtScan p).ssa = s.ssa
      ∧ (s.planAtScan p).jc.queue = s.jc.queue ∧ (s.planAtScan p).rp = s.rp.set p (some (s.planFrom p)) :=
  ⟨{ RunFrame.refl s with events := ((KeepsQueues.refl s).holdPlan _).events }, rfl, rfl, rfl, rfl⟩

theorem State.plannedAtScan_spec (s : State) (sc : Scan) :
    ScanLeaves s sc (s.plannedAtScan sc)
      ∧ (∀ p, (s.plannedAtScan sc).pocket p = (s.pocket p).fill (sc.rings.get p) p)
      ∧ (s.plannedAtScan sc).ssa = s.ssa ∧ (s.plannedAtScan sc).jc.queue = s.jc.queue
      ∧ (s.plannedAtScan sc).time = s.time ∧ (s.plannedAtScan sc).ss.vhu = s.ss.vhu
      ∧ ∀ p, (s.plannedAtScan sc).rp.get p = some ((s.plannedAtScan sc).planFrom p) := by
  obtain ⟨hleaves, hpsq, hssa, hqueue, htime, hvhu⟩ := s.scanned_leaves sc
  generalize hu : s.scanned sc = u at hleaves hpsq hssa hqueue htime hvhu
  have hplanned : s.plannedAtScan sc = (u.planAtScan .U).planAtScan .L := by rw [← hu]; rfl
  obtain ⟨hfU, hpsqU, hssaU, hqueueU, -⟩ := u.planAtScan_frame .U
  obtain ⟨hfL, hpsqL, hssaL, hqueueL, -⟩ := (u.planAtScan .U).planAtScan_frame .L
  have hframe := hfU.trans hfL
  rw [hplanned]
  refine ⟨hleaves.frame hframe, fun p => ?_, hssaL.trans (hssaU.trans hssa),
    hqueueL.trans (hqueueU.trans hqueue), hframe.time.trans htime, ?_, fun p => ?_⟩
  · rw [← State.pocket_filled]
    exact congrArg (·.get p) (hpsqL.trans (hpsqU.trans hpsq))
  · rw [hframe.ss, hvhu]
  · cases p <;> rfl

/-! ### Step 6 (R102, R140) -/

/-- ARM entered with its timer. -/
def State.arming (s : State) : State :=
  { s with ss := { s.ss with power := .wake .arm, armTimer := some (s.time + seconds 60) } }

theorem State.enterArm_of_weak {s : State} (h : s.ss.vhu.toNat < s.cfg.armCode) :
    s.enterArm = s.arming :=
  if_neg (Nat.not_le.mpr h)

theorem State.enterArm_of_armed {s : State} (h : s.cfg.armCode ≤ s.ss.vhu.toNat) :
    s.enterArm = s.arming.enterRun :=
  if_pos h

/-- A plan computed at a scan awaits its application, with the door count it was computed from. -/
theorem scanPlan_pending (c : WorkingCopy) (b : Backup) (k : Sensing) (run : RunRecord) (r : Recovered)
    (door : Nat) :
    (scanPlan c b k run r door).applied = false ∧ (scanPlan c b k run r door).doorCount = door := by
  have hcool : ∀ fig, (coolDecision c run fig door).applied = false
      ∧ (coolDecision c run fig door).doorCount = door := by
    intro fig
    unfold coolDecision
    split <;> exact ⟨rfl, rfl⟩
  have hcrease : ∀ fig, (antiCreaseDecision b run fig door).applied = false
      ∧ (antiCreaseDecision b run fig door).doorCount = door := by
    intro fig
    simp only [antiCreaseDecision]
    split
    · exact ⟨rfl, rfl⟩
    · split
      · exact ⟨rfl, rfl⟩
      · split <;> exact ⟨rfl, rfl⟩
  unfold scanPlan
  cases r with
  | none => exact ⟨rfl, rfl⟩
  | unreadable => exact ⟨rfl, rfl⟩
  | record kind phase faults =>
    cases phase with
    | heat =>
      dsimp only
      split <;> exact ⟨rfl, rfl⟩
    | cool => exact hcool _
    | antiCrease => exact hcrease _
    | idle | paused | held | fault | done => exact ⟨rfl, rfl⟩

/-! ### The commands of the load sequence (R133 to R135) -/

section
variable {s : State} {sc : Scan} {n : Nat} (hpower : s.ss.power = .wake .load) (hscan : s.jc.scan = some sc)
include hpower hscan

theorem exec_configurationReadComplete_of_load (dt : Nat)
    (hengine : s.jc.engine = .busy .configRead n .transfer) :
    exec (.configurationReadComplete dt) s = .next ((s.advance dt).configLoaded
      (loadStored s.storeCut (Memory.readBytes s.journal 0 512)).1
      (loadStored s.storeCut (Memory.readBytes s.journal 0 512)).2 sc) := by
  change execConfigurationReadComplete dt s = _
  unfold execConfigurationReadComplete
  simp only [State.advance, hpower, hscan, hengine]

theorem exec_slotReadComplete_of_load (dt : Nat) {p : PocketId} {slot : Fin 124}
    (hengine : s.jc.engine = .busy (.slotRead p slot) n .transfer) :
    exec (.slotReadComplete dt) s = .next ((s.advance dt).slotDone p slot
      (sc.take p slot (Memory.readBytes s.journal (slotAddress p slot) 64))) := by
  change execSlotReadComplete dt s = _
  unfold execSlotReadComplete
  simp only [State.advance, hpower, hscan, hengine]

end

theorem State.slotDone_of_more {s : State} {p : PocketId} {slot : Fin 124} (sc : Scan)
    (h : slot ≠ 123 ∨ p = .U) : s.slotDone p slot sc
      = { s with jc := { s.jc with
          engine := .busy (if slot = 123 then .slotRead .L 0 else .slotRead p (slot + 1)) 1 .transfer
          scan := some sc } } := by
  unfold State.slotDone
  split
  · next hlast =>
    have hU : p = .U := h.resolve_left (not_not_intro hlast)
    subst hU
    rfl
  · rfl

/-- A slot's bytes in the scan record, case by case (R135). -/
theorem Scan.take_of_error {p : PocketId} {bytes : List Byte} {d : Defect}
    (h : readRecord p bytes = .error d) (sc : Scan) (slot : Fin 124) : sc.take p slot bytes = sc := by
  unfold Scan.take
  rw [h]

theorem Scan.take_of_record {p : PocketId} {bytes : List Byte} {r : CheckpointRecord}
    (h : readRecord p bytes = .ok r) (sc : Scan) (slot : Fin 124) : sc.take p slot bytes =
      { rings := sc.rings.set p ((sc.rings.get p).offer slot r.seq bytes)
        epochs := if r.epoch ∈ sc.epochs then sc.epochs else r.epoch :: sc.epochs } := by
  unfold Scan.take
  rw [h]
  simp only [List.contains_iff_mem]

theorem ScanRing.offer_of_none {r : ScanRing} (h : r.best = none) (slot : Fin 124) (seq : Nat)
    (bytes : List Byte) : r.offer slot seq bytes = { r with best := some ⟨slot, seq, bytes⟩ } := by
  unfold ScanRing.offer
  rw [h]

theorem ScanRing.offer_of_some {r : ScanRing} {b : BestSlot} (h : r.best = some b) (slot : Fin 124)
    (seq : Nat) (bytes : List Byte) : r.offer slot seq bytes
      = (if seq < b.seq then r else { r with best := some ⟨slot, seq, bytes⟩ }) := by
  unfold ScanRing.offer
  rw [h]
  dsimp only
  by_cases hlt : seq < b.seq
  · rw [if_neg (Nat.not_le.mpr hlt), if_pos hlt]
  · rw [if_pos (Nat.not_lt.mp hlt), if_neg hlt]

/-- The stored block with the mark of a cut store (R127, R175, R176). -/
theorem loadStored_of_good {bs : List Byte} (h : byteAt bs 0 = 0xA7#8 ∧ byteAt bs 1 = 178#8
    ∧ (crc16 (bs.take 180)).toNat = u16At bs 180) :
    loadStored false bs = (correctCopy (blockFields bs), correctCopy (blockFields bs) != blockFields bs) := by
  obtain ⟨hmark, hlength, hcrc⟩ := h
  unfold loadStored loadBlock
  rw [hmark, hlength, hcrc]
  simp

theorem loadStored_of_bad {cut : Bool} {bs : List Byte} (h : ¬ ((byteAt bs 0 = 0xA7#8
    ∧ byteAt bs 1 = 178#8 ∧ (crc16 (bs.take 180)).toNat = u16At bs 180) ∧ cut = false)) :
    loadStored cut bs = (Config.defaults, byteAt bs 0 == 0xA7#8) := by
  unfold loadStored loadBlock
  by_cases hmark : byteAt bs 0 = 0xA7#8
  · cases cut with
    | true => simp [hmark]
    | false =>
      by_cases hlength : byteAt bs 1 = 178#8
      · have hcrc : (crc16 (bs.take 180)).toNat ≠ u16At bs 180 := fun hcrc =>
          h ⟨⟨hmark, hlength, hcrc⟩, rfl⟩
        simp [hmark, hlength, hcrc]
      · simp [hmark, hlength]
  · simp [hmark]

/-- The state after a configuration read, spelled out (R6, R98, R134). -/
theorem State.configLoaded_eq {s : State} (c : WorkingCopy) (defaulted : Bool) (sc : Scan)
    (h : s.ss.power ≠ .dark) : s.configLoaded c defaulted sc = { s with
      cfg := c
      ss := { s.ss with
        configDefaulted := s.ss.configDefaulted || defaulted
        atWake := s.ss.atWake && c.wakeCode ≤ s.ss.vhu.toNat
        atFloor := s.ss.atFloor || c.writeFloor ≤ s.ss.vhu.toNat
        atDark := s.ss.atDark || c.darkCode ≤ s.ss.vhu.toNat }
      psq := ⟨s.psq.u.withCopies (c.copies .U), s.psq.l.withCopies (c.copies .L)⟩
      jc := { s.jc with engine := .busy (.slotRead .U 0) 1 .transfer, scan := some sc } } := by
  simp only [State.configLoaded, State.recompare, State.noteVhu, State.wakeThreshold, if_neg h,
    State.readSlot]

/-- The first slot read on the bus (R132, R135). -/
theorem readTransfer_first : readTransfer (slotAddress .U 0) 64
    = [.start, .addressWrite, .send 2#8, .send 0#8, .repeatedStart, .addressRead]
      ++ List.replicate 63 (.receive true) ++ [.receive false, .stop] := by
  decide

/-! ### What the end of a scan leaves, ring by ring -/

theorem ScanLeaves.ring {s t : State} {sc : Scan} (h : ScanLeaves s sc t) (p : PocketId) :
    t.jc.rings.get p = (sc.rings.get p).ring := by
  rw [h.rings]
  cases p <;> rfl

theorem ScanLeaves.epoch {s t : State} {sc : Scan} (h : ScanLeaves s sc t) :
    t.bd.epoch = if s.bd.epoch = 0 then chooseEpoch sc.epochs else s.bd.epoch := by
  rw [h.bd]

theorem ScanLeaves.watch {s t : State} {sc : Scan} (h : ScanLeaves s sc t) (p : PocketId) :
    t.bd.watch.get p = { s.bd.watch.get p with armed := false } := by
  rw [h.bd]
  cases p <;> rfl

/-- The chosen epoch above a largest one that is spent is the least from 2 up that no record carries. -/
theorem chooseEpoch_of_spent {epochs : List Nat} {m : Nat} (hm : m ∈ epochs)
    (hmax : ∀ e ∈ epochs, e ≤ m) (hspent : 65535 ≤ m) (hone : 1 ∈ epochs) :
    2 ≤ chooseEpoch epochs ∧ chooseEpoch epochs ∉ epochs
      ∧ ∀ e < chooseEpoch epochs, 2 ≤ e → e ∈ epochs := by
  rw [chooseEpoch_of_largest hm hmax, if_neg (Nat.not_lt.mpr hspent), if_pos hone]
  obtain ⟨hle, hall, -⟩ := leastAbsent_spec epochs epochs.length 2
  exact ⟨hle, leastAbsent_absent hone, fun e hlt h => hall e h hlt⟩

end Sys2Proof.Machine
end

open Sys2Proof Sys2Proof.Machine

/-- Settles O52: the load sequence reads the configuration and every slot, and ends in ARM or in RUN. -/
theorem theLoadSequenceEndsInArm : Obligations.TheLoadSequenceEndsInArm := by
  refine ⟨fun dt n sc s hpower hscan => ⟨fun hengine => ?_, fun p slot hengine hmore => ?_⟩,
    fun dt n sc s hpower hscan hengine => ?_⟩
  · intro bs
    have hload : s.ss.power ≠ .dark := by rw [hpower]; decide
    have hexec : exec (.configurationReadComplete dt) s = .next ((s.advance dt).configLoaded
        (loadStored s.storeCut bs).1 (loadStored s.storeCut bs).2 sc) :=
      exec_configurationReadComplete_of_load hpower hscan dt hengine
    clear_value bs
    refine ⟨_, hexec, ?_⟩
    rw [State.configLoaded_eq (s := s.advance dt) _ _ _ hload]
    refine ⟨?_, fun p => by cases p <;> rfl, rfl,
      congrArg (JournalController.mk s.jc.rings s.jc.queue (.busy (.slotRead .U 0) 1 .transfer)) hscan.symm,
      (if_pos ?_).trans readTransfer_first, rfl⟩
    swap
    · change s.ss.power.working = true
      rw [hpower]
      rfl
    dsimp only
    split
    · next h => rw [h.2, loadStored_of_good h.1]; rfl
    · next h => rw [loadStored_of_bad h]; rfl
  · intro bs
    have hexec : exec (.slotReadComplete dt) s
        = .next ((s.advance dt).slotDone p slot (sc.take p slot bs)) :=
      exec_slotReadComplete_of_load hpower hscan dt hengine
    clear_value bs
    rw [hexec, State.slotDone_of_more _ hmore]
    refine congrArg Host.Outcome.next ?_
    cases hread : readRecord p bs with
    | error d =>
      rw [Scan.take_of_error hread]
      rfl
    | ok r =>
      rw [Scan.take_of_record hread]
      cases hbest : (sc.rings.get p).best with
      | none =>
        rw [ScanRing.offer_of_none hbest]
        rfl
      | some b =>
        rw [ScanRing.offer_of_some hbest]
        rfl
  · intro sc' lost scanned
    have hexec : exec (.slotReadComplete dt) s = .next (((s.advance dt).plannedAtScan sc').enterArm) :=
      exec_slotReadComplete_of_load hpower hscan dt hengine
    clear_value sc'
    obtain ⟨hleaves, hpocket, hssa, hqueue, htime, hvhu, hplan⟩ := (s.advance dt).plannedAtScan_spec sc'
    generalize hw : (s.advance dt).plannedAtScan sc' = w at hexec hleaves hpocket hssa hqueue htime hvhu hplan
    have hscanned : ∀ t, ScanLeaves (s.advance dt) sc' t → scanned t := by
      intro t h
      refine ⟨h.engine, h.scan, h.cfg, h.journal, h.ic, h.lm, fun p => ?_, h.watch, ?_, ?_, fun hepoch => ?_,
        fun hepoch hnone => ?_, fun hepoch m hm hmax => ⟨fun hlow => ?_, fun hspent hone => ?_,
          fun hspent hone => ?_⟩, fun hlost => ⟨h.lost hlost, h.told hlost⟩, h.kept⟩
      · rw [h.ring]
        unfold ScanRing.ring
        cases (sc'.rings.get p).best <;> rfl
      · rw [h.bd]; rfl
      · rw [h.bd]; rfl
      · exact h.epoch.trans (if_neg hepoch)
      · rw [h.epoch, hnone]
        exact if_pos hepoch
      · rw [h.epoch, chooseEpoch_of_largest hm hmax, if_pos hlow]
        exact if_pos hepoch
      · rw [h.epoch, chooseEpoch_of_largest hm hmax, if_neg (Nat.not_lt.mpr hspent), if_neg hone]
        exact if_pos hepoch
      · rw [h.epoch.trans (if_pos hepoch)]
        exact chooseEpoch_of_spent hm hmax hspent hone
    have hcode : w.ss.vhu.toNat = s.ss.vhu.toNat ∧ w.cfg.armCode = s.cfg.armCode := by
      rw [hvhu, hleaves.cfg]
      exact ⟨rfl, rfl⟩
    have harming : ScanLeaves (s.advance dt) sc' w.arming := { hleaves with }
    refine ⟨fun hweak => ?_, fun harmed => ?_⟩
    · rw [State.enterArm_of_weak (s := w) (by rw [hcode.1, hcode.2]; exact hweak)] at hexec
      refine ⟨_, hexec, hscanned _ harming, rfl, ?_, hqueue, hssa, fun p => ?_, fun p hgood b r hbest hread => ?_,
        fun p hbad => ?_, fun p hgood hnone => ?_, fun p => ?_⟩
      · change some (w.time + seconds 60) = _
        rw [htime]
        rfl
      · have hself : w.arming.pocket p = _ := hpocket p
        rw [hself]
        exact Pocket.fill_keeps _ _ _
      · have hself : w.arming.pocket p = _ := hpocket p
        rw [hself, Pocket.fill_of_record hgood hbest hread]
        exact ⟨rfl, rfl, rfl⟩
      · have hrecovered : (w.pocket p).recovered = .unreadable := by
          rw [hpocket, Pocket.fill_of_unreadable hbad]
        refine ⟨hrecovered, _, hplan p, ?_⟩
        unfold State.planFrom
        rw [hrecovered]
        exact ⟨rfl, rfl⟩
      · have hself : w.pocket p = _ := (hpocket p).trans (Pocket.fill_of_none hgood hnone)
        have hrecovered : (w.pocket p).recovered = .none := by rw [hself]
        refine ⟨by change (w.pocket p).run = _; rw [hself]; rfl, hrecovered, _, hplan p, ?_⟩
        unfold State.planFrom
        rw [hrecovered]
        exact ⟨rfl, rfl⟩
      · refine (hplan p).trans (congrArg some ?_)
        unfold State.planFrom
        rw [hleaves.cfg, hleaves.watch, show w.sense p = s.sense p from congrArg (·.get p) hleaves.ic]
        rfl
    · rw [State.enterArm_of_armed (by rw [hcode.1, hcode.2]; exact harmed)] at hexec
      have hframe := w.arming.enterRun_frame
      refine ⟨_, hexec, hscanned _ ?_, by rw [hframe.ss]; rfl, by rw [hframe.ss]; rfl,
        by rw [hframe.ss]; exact hleaves.storeWeak, fun p => ?_, fun p => ?_⟩
      · exact ScanLeaves.frame (u := w.arming.running) { hleaves with } hframe
      · have hpending := scanPlan_pending w.cfg w.bd (w.sense p) (w.pocket p).run (w.pocket p).recovered
          (w.bd.watch.get p).count
        rw [State.enterRun_faults (s := w.arming) (hplan p) hpending.1, KeepsRecovered.enterRun w.arming p]
        unfold Pocket.recoveredFaults
        cases (w.arming.pocket p).recovered <;> rfl
      · have hpending := scanPlan_pending w.cfg w.bd (w.sense p) (w.pocket p).run (w.pocket p).recovered
          (w.bd.watch.get p).count
        refine ⟨_, State.enterRun_applied (s := w.arming) (hplan p), rfl, hpending.2.trans ?_⟩
        rw [hleaves.watch]
        rfl

section
/-! Attempts that fail: the retries, the recovery, and the third failure (R113, R121, R123 to R127). -/

namespace Sys2Proof.Machine

/-! ### What an attempt has sent (R113) -/

/-- The state at the end of an attempt that left some acknowledged bytes in the journal memory. -/
def State.sent (s : State) (dt acked : Nat) : State := (s.advance dt).storeAcked acked

/-- The state is another at a later instant, with what an attempt has sent in the journal memory. -/
def SentFrom (s : State) (now : Nat) (u : State) : Prop :=
  u = { s with time := now, journal := u.journal, storeCut := u.storeCut }

theorem sentFrom_sent (s : State) (dt acked : Nat) : SentFrom s (s.time + dt) (s.sent dt acked) :=
  (s.advance dt).storeAcked_frame acked

theorem sentFrom_advance (s : State) (dt : Nat) : SentFrom s (s.time + dt) (s.advance dt) := rfl

theorem State.sent_leaves (s : State) (dt acked : Nat) :
    (s.sent dt acked).ss = s.ss ∧ (s.sent dt acked).ml = s.ml ∧ (s.sent dt acked).jc = s.jc := by
  rw [sentFrom_sent s dt acked]
  exact ⟨rfl, rfl, rfl⟩

theorem State.onBus_of_working {s : State} (hw : s.ss.power.working = true) : s.onBus = s.jc.engine.onBus :=
  if_pos hw

section
variable {s : State} {dt acked n : Nat}

theorem State.sent_checkpoint_reads (hs : s.journalSafe = true) {p : PocketId} {slot : Fin 124} {seq : Nat}
    {image : List Byte} (h : s.jc.engine = .busy (.checkpoint p slot seq image) n .transfer)
    (hcut : acked < image.length) :
    (s.sent dt acked).storeCut = s.storeCut ∧ ∀ a, Memory.read (s.sent dt acked).journal a =
      if slotAddress p slot ≤ a ∧ a < slotAddress p slot + acked then
        image.getD (a - slotAddress p slot) 0#8
      else Memory.read s.journal a :=
  State.storeAcked_checkpoint_reads (s := s.advance dt) hs h hcut

theorem State.sent_store_reads (hs : s.journalSafe = true) {block : List Byte}
    (h : s.jc.engine = .busy (.store block) n .transfer) (hcut : acked < block.length) :
    (s.sent dt acked).storeCut = (s.storeCut || decide (0 < acked))
      ∧ ∀ a, Memory.read (s.sent dt acked).journal a =
        if a < acked then block.getD a 0#8 else Memory.read s.journal a :=
  State.storeAcked_store_reads (s := s.advance dt) hs h hcut

theorem State.sent_of_quiet {job : Job} {ph : EnginePhase} (h : s.jc.engine = .busy job n ph)
    (hout : job.bytesOut = none) : s.sent dt acked = s.advance dt :=
  State.storeAcked_read acked h hout

end

/-! ### The commands (R123, R124) -/

section
variable {s : State} {dt acked n : Nat} {job : Job} (hw : s.ss.power.working = true)
include hw

theorem State.onNoAck_of_transfer (h : s.jc.engine = .busy job n .transfer) : s.onNoAck = [.stop] := by
  simp [State.onNoAck, hw, h, Engine.onNoAck]

theorem exec_attemptNoAck_of_early (h : s.jc.engine = .busy job n .transfer) (hn : n < 3) :
    exec (.attemptNoAck dt acked) s
      = .next ((s.sent dt acked).retry job n .noAck (.retryWait (s.time + dt + 1000))) := by
  have htime : ((s.advance dt).storeAcked acked).time = s.time + dt := by
    rw [(s.advance dt).storeAcked_frame acked]
    rfl
  change execAttemptNoAck dt acked s = _
  unfold execAttemptNoAck
  simp only [State.advance, hw, h] at htime ⊢
  rw [if_pos hn, htime]
  rfl

theorem exec_attemptNoAck_of_third (h : s.jc.engine = .busy job 3 .transfer) :
    exec (.attemptNoAck dt acked) s = .next ((s.sent dt acked).spent job .noAck) := by
  change execAttemptNoAck dt acked s = _
  unfold execAttemptNoAck
  simp only [State.advance, hw, h]
  rfl

theorem exec_retryWaitExpiry_of_due {τ : Nat} (h : s.jc.engine = .busy job n (.retryWait τ))
    (hdue : τ ≤ s.time + dt) : exec (.retryWaitExpiry dt) s = .next { s with
      time := s.time + dt, jc := { s.jc with engine := .busy job n .transfer } } := by
  change execRetryWaitExpiry dt s = _
  unfold execRetryWaitExpiry
  simp only [State.advance, hw, h]
  exact congrArg Host.Outcome.next (if_pos hdue)

theorem exec_busTimeout_of_flight (h : s.jc.engine = .busy job n .transfer) :
    exec (.busTimeout dt acked) s = .next { s.sent dt acked with
      jc := { s.jc with engine := .busy job n .recovery } } := by
  have hjc : ((s.advance dt).storeAcked acked).jc = s.jc := by
    rw [(s.advance dt).storeAcked_frame acked]
    rfl
  change execBusTimeout dt acked s = _
  unfold execBusTimeout
  simp only [State.advance, hw, h] at hjc ⊢
  rw [hjc]
  rfl

theorem exec_recoveryEnd_of_early (h : s.jc.engine = .busy job n .recovery) (hn : n < 3) :
    exec (.recoveryEnd dt) s = .next ((s.advance dt).retry job n .timeout .transfer) := by
  change execRecoveryEnd dt s = _
  unfold execRecoveryEnd
  simp only [State.advance, hw, h, if_pos hn]

theorem exec_recoveryEnd_of_third (h : s.jc.engine = .busy job 3 .recovery) :
    exec (.recoveryEnd dt) s = .next ((s.advance dt).spent job .timeout) := by
  change execRecoveryEnd dt s = _
  unfold execRecoveryEnd
  simp only [State.advance, hw, h]
  rfl

end

/-! ### A retry (R123) -/

/-- From s to t the next attempt of a job was counted and told. -/
structure Retried (s : State) (job : Job) (n : Nat) (cause : JournalCause) (ph : EnginePhase) (t : State) :
    Prop where
  jc : t.jc = { s.jc with engine := .busy job (n + 1) ph }
  ss : t.ss = s.ss
  cfg : t.cfg = s.cfg
  psq : t.psq = s.psq
  bd : t.bd = s.bd
  rp : t.rp = s.rp
  ssa : t.ssa = s.ssa
  line : keepsLine s t
  events : s.cfg.classMask = 0 → s.ml.events.length < 16 → t.ml.events = s.ml.events
    ++ [⟨.journalRetry, job.writes, half s.bd.clock, pairArg (byteNat (n + 1)) cause.code⟩]

theorem SentFrom.retry {s u : State} {now : Nat} (hu : SentFrom s now u) (job : Job) (n : Nat)
    (cause : JournalCause) (ph : EnginePhase) : Retried s job n cause ph (u.retry job n cause ph) := by
  have hline := State.keepsLine_post { u with jc := { u.jc with engine := .busy job (n + 1) ph } }
    .journalRetry job.writes (pairArg (byteNat (n + 1)) cause.code)
  have hevents := State.events_post (s := { u with jc := { u.jc with engine := .busy job (n + 1) ph } })
    .journalRetry job.writes (pairArg (byteNat (n + 1)) cause.code)
  unfold SentFrom at hu
  generalize u.journal = J, u.storeCut = C at hu
  subst hu
  exact ⟨rfl, rfl, rfl, rfl, rfl, rfl, rfl, hline, hevents⟩

/-! ### The third failure (R125, R126) -/

/-- The pocket of the event of a journal fault (R126; log 36). -/
def JournalPlace.pocket : JournalPlace → Option PocketId
  | .ring p => some p
  | .configBlock | .serviceRead => none

/-- The fault is set and told. -/
theorem State.setJournalFault_eq (s : State) (cause : JournalCause) (place : JournalPlace) :
    s.setJournalFault cause place true
      = ({ s with ss := { s.ss with journalFault := some (cause, place) } } : State).post .journalFault
          place.pocket (pairArg cause.code place.code) := by
  cases place <;> rfl

/-- The state in which a job's third failure is told: the engine is free, and the link as its request left
it. -/
def State.failed (s : State) (l : Link) (cause : JournalCause) (place : JournalPlace) : State :=
  ({ s with
    jc := { s.jc with engine := .free }, ml := l
    ss := { s.ss with journalFault := some (cause, place) } } : State).post .journalFault place.pocket
      (pairArg cause.code place.code)

theorem State.spent_checkpoint (s : State) (p : PocketId) (slot : Fin 124) (seq : Nat) (image : List Byte)
    (cause : JournalCause) : s.spent (.checkpoint p slot seq image) cause
      = (s.failed s.ml cause (.ring p)).finishHoldUp := rfl

theorem State.spent_store (s : State) (block : List Byte) (cause : JournalCause) :
    s.spent (.store block) cause
      = (s.failed (s.ml.endBusRequest ⟨.storeFailed, []⟩) cause .configBlock).finishHoldUp := rfl

theorem State.spent_read (s : State) (p : PocketId) (slot : Fin 124) (cause : JournalCause) :
    s.spent (.read p slot) cause
      = (s.failed (s.ml.endBusRequest ⟨.storeFailed, []⟩) cause .serviceRead).finishHoldUp := rfl

/-- From s to t a job's third failure was told, with the link as its request left it. -/
structure Failed (s : State) (l : Link) (cause : JournalCause) (place : JournalPlace) (t : State) :
    Prop where
  jc : t.jc = { s.jc with engine := .free }
  ss : t.ss = { s.ss with journalFault := some (cause, place) }
  cfg : t.cfg = s.cfg
  psq : t.psq = s.psq
  bd : t.bd = s.bd
  rp : t.rp = s.rp
  ssa : t.ssa = s.ssa
  line : keepsLine { s with ml := l } t
  events : s.cfg.classMask = 0 → l.events.length < 16 → t.ml.events = l.events
    ++ [⟨.journalFault, place.pocket, half s.bd.clock, pairArg cause.code place.code⟩]

theorem SentFrom.failed {s u : State} {now : Nat} (hu : SentFrom s now u) (l : Link)
    (cause : JournalCause) (place : JournalPlace) : Failed s l cause place (u.failed l cause place) := by
  obtain ⟨v, hv⟩ : ∃ v : State, v = { u with
      jc := { u.jc with engine := .free }, ml := l
      ss := { u.ss with journalFault := some (cause, place) } } := ⟨_, rfl⟩
  have hline := v.keepsLine_post .journalFault place.pocket (pairArg cause.code place.code)
  have hevents := State.events_post (s := v) .journalFault place.pocket (pairArg cause.code place.code)
  have hfailed : u.failed l cause place
      = v.post .journalFault place.pocket (pairArg cause.code place.code) := by rw [hv]; rfl
  rw [hfailed]
  unfold SentFrom at hu
  generalize u.journal = J, u.storeCut = C at hu
  subst hu hv
  exact ⟨rfl, rfl, rfl, rfl, rfl, rfl, rfl, hline, hevents⟩

/-! ### HOLD_UP after a failure (R105, R106) -/

theorem State.journal_finishHoldUp (s : State) :
    s.finishHoldUp.journal = s.journal ∧ s.finishHoldUp.storeCut = s.storeCut := by
  unfold State.finishHoldUp
  split
  · split
    · split
      · exact ⟨rfl, rfl⟩
      · exact ⟨rfl, rfl⟩
    · exact ⟨rfl, rfl⟩
  · exact ⟨rfl, rfl⟩

/-- What HOLD_UP comes to does not turn on the link it is found with. -/
theorem holdUpLeads_remail {u : State} (hup : u.ss.power = .holdUp) :
    holdUpLeads { u with ml := u.finishHoldUp.ml } u.finishHoldUp := by
  obtain ⟨hwork, hdark, hwait, hwake⟩ := holdUpLeads_finishHoldUp hup
  refine ⟨fun h => ?_, hdark, fun hqueue hfree hmark hvhu => ?_, hwake⟩
  · rw [hwork h]
  · rw [hwait hqueue hfree hmark hvhu]

/-- HOLD_UP after a third failure goes on or ends by what is left (R105, R106). -/
theorem State.failed_holdUpLeads {s u : State} {now : Nat}
    (hu : SentFrom s now u)
    (hup : s.ss.power = .holdUp) (l : Link) (cause : JournalCause) (place : JournalPlace) :
    holdUpLeads { s with
      time := now, journal := u.journal, storeCut := u.storeCut
      ml := (u.failed l cause place).finishHoldUp.ml
      ss := { s.ss with journalFault := some (cause, place) }
      jc := { s.jc with engine := .free } } (u.failed l cause place).finishHoldUp := by
  have hpower : (u.failed l cause place).ss.power = .holdUp := by rw [hu]; exact hup
  have hleads := holdUpLeads_remail hpower
  generalize (u.failed l cause place).finishHoldUp = t at hleads ⊢
  have hfailed : ({ u.failed l cause place with ml := t.ml } : State) = { s with
      time := now, journal := u.journal, storeCut := u.storeCut, ml := t.ml
      ss := { s.ss with journalFault := some (cause, place) }
      jc := { s.jc with engine := .free } } := by
    unfold SentFrom at hu
    generalize u.journal = J, u.storeCut = C at hu
    rw [hu]
    rfl
  rwa [hfailed] at hleads

theorem Config.defaults_classMask : Config.defaults.classMask = 0 := by
  decide

theorem Config.defaults_copies (p : PocketId) : Config.defaults.copies p = ⟨.gas, 30, 10, 3, 1200⟩ := by
  cases p <;> decide

/-! ### A read of the load sequence fails for good (R134, R136) -/

section
variable {s : State} {sc : Scan} (hpower : s.ss.power = .wake .load) (hscan : s.jc.scan = some sc)
include hpower hscan

theorem State.spent_configRead (cause : JournalCause) :
    s.spent .configRead cause = s.configReadFailed cause sc := by
  simp only [State.spent, hpower, hscan]

theorem State.spent_slotRead (p : PocketId) (slot : Fin 124) (cause : JournalCause) :
    s.spent (.slotRead p slot) cause = s.slotReadFailed p cause sc := by
  simp only [State.spent, hpower, hscan]

end

/-! ### The reply to a request whose job failed (R125, R162) -/

theorem Link.orphan_endBusRequest (l : Link) (r : Reply) : (l.endBusRequest r).orphan = false := by
  unfold Link.endBusRequest Link.reply
  split
  · rfl
  · next h => split <;> simpa using h

end Sys2Proof.Machine
end

open Sys2Proof Sys2Proof.Machine

/-- Settles O51: an attempt that fails is repeated twice, and the third failure is told. -/
theorem failedAttemptsAreRetriedTwice : Obligations.FailedAttemptsAreRetriedTwice := by
  refine ⟨fun dt acked n p slot seq image s hpower hsafe hcut => ?_,
    fun dt acked n job s hw hsafe hother hcut => ?_, fun dt acked sc s hpower hscan => ?_⟩
  · intro job place stored rest retried told leads
    have hw : s.ss.power.working = true := by rcases hpower with h | h <;> rw [h] <;> rfl
    have hplace : place = (JournalPlace.ring p).code := by cases p <;> rfl
    have hstored : ∀ {m}, s.jc.engine = .busy job m .transfer → (s.sent dt acked).storeCut = s.storeCut
        ∧ ∀ t : State, t.journal = (s.sent dt acked).journal → stored t := by
      intro m h
      obtain ⟨hcutmark, hreads⟩ := State.sent_checkpoint_reads (dt := dt) hsafe h hcut
      exact ⟨hcutmark, fun t ht a => ht ▸ hreads a⟩
    have hretry : ∀ {u : State} {cause ph}, SentFrom s (s.time + dt) u →
        rest (u.retry job n cause ph) ∧ retried (u.retry job n cause ph) cause.code
          ∧ (u.retry job n cause ph).jc.engine = .busy job (n + 1) ph := by
      intro u cause ph hu
      have h := hu.retry job n cause ph
      exact ⟨⟨h.psq, h.cfg, h.bd, h.rp, h.ssa, by rw [h.jc], by rw [h.jc], h.line⟩, h.events, by rw [h.jc]⟩
    have hthird : ∀ {u : State} {cause}, SentFrom s (s.time + dt) u → u.storeCut = s.storeCut →
        (u.spent job cause).journal = u.journal
          ∧ (s.ss.power = .run → rest (u.spent job cause) ∧ (u.spent job cause).jc.engine = .free
            ∧ told (u.spent job cause) cause.code
            ∧ (u.spent job cause).ss = { s.ss with journalFault := some (cause, .ring p) })
          ∧ (s.ss.power = .holdUp → leads (u.spent job cause) u.journal cause
            ∧ ((u.spent job cause).ss.power = .holdUp →
                rest (u.spent job cause) ∧ told (u.spent job cause) cause.code)) := by
      intro u cause hu hcutmark
      have h := hu.failed s.ml cause (.ring p)
      have hspent : u.spent job cause = (u.failed s.ml cause (.ring p)).finishHoldUp := by
        have hml : u.ml = s.ml := by rw [hu]
        exact hml ▸ u.spent_checkpoint p slot seq image cause
      have hrest : rest (u.failed s.ml cause (.ring p)) :=
        ⟨h.psq, h.cfg, h.bd, h.rp, h.ssa, by rw [h.jc], by rw [h.jc], h.line⟩
      have htold : told (u.failed s.ml cause (.ring p)) cause.code := by
        have hevents := h.events
        rwa [← hplace] at hevents
      rw [hspent]
      refine ⟨(State.journal_finishHoldUp _).1, fun hrun => ?_, fun hup => ⟨?_, fun hheld => ?_⟩⟩
      · rw [State.finishHoldUp_of_other (by rw [h.ss, hrun]; decide)]
        exact ⟨hrest, by rw [h.jc], htold, h.ss⟩
      · have hleads := State.failed_holdUpLeads hu hup s.ml cause (.ring p)
        rw [hcutmark] at hleads
        exact hleads
      · rw [State.finishHoldUp_of_held hheld]
        exact ⟨hrest, htold⟩
    obtain ⟨hss, -, -⟩ := s.sent_leaves dt acked
    have hworks : ∀ {t : State}, t.ss = (s.sent dt acked).ss → t.ss.power.working = true := by
      intro t h
      rw [h, hss]
      exact hw
    refine ⟨fun h hn => ⟨State.onNoAck_of_transfer hw h, _, exec_attemptNoAck_of_early hw h hn, ?_⟩,
      fun h => ⟨State.onNoAck_of_transfer hw h, _, exec_attemptNoAck_of_third hw h, ?_⟩,
      fun τ h hdue => exec_retryWaitExpiry_of_due hw h hdue,
      fun h => ⟨_, exec_busTimeout_of_flight hw h, ?_⟩,
      fun h hn => ⟨_, exec_recoveryEnd_of_early hw h hn, rfl, hretry (sentFrom_advance s dt)⟩,
      fun h => ⟨_, exec_recoveryEnd_of_third hw h, hthird (sentFrom_advance s dt) rfl⟩⟩
    · obtain ⟨hcutmark, hreads⟩ := hstored h
      obtain ⟨hrest, hretried, hengine⟩ := hretry (cause := .noAck) (ph := .retryWait (s.time + dt + 1000))
        (sentFrom_sent s dt acked)
      exact ⟨hreads _ rfl, hrest, hretried, hengine,
        (State.onBus_of_working (by exact hworks rfl)).trans (congrArg Engine.onBus hengine), hcutmark⟩
    · obtain ⟨hcutmark, hreads⟩ := hstored h
      obtain ⟨hjournal, hrun, hup⟩ := hthird (cause := .noAck) (sentFrom_sent s dt acked) hcutmark
      rw [← hjournal] at hup
      exact ⟨hreads _ hjournal, hrun, hup⟩
    · obtain ⟨-, hreads⟩ := hstored h
      refine ⟨hreads _ rfl, ?_, rfl, (State.onBus_of_working (by exact hworks rfl)).trans rfl⟩
      rw [sentFrom_sent s dt acked]
      exact ⟨rfl, rfl, rfl, rfl, rfl, rfl, rfl, rfl, rfl, rfl, rfl⟩
  · intro stored retried
    have hwrites : job.writes = none := by
      cases job with
      | checkpoint p slot seq image => exact absurd rfl (hother p slot seq image)
      | store _ | read _ _ | configRead | slotRead _ _ => rfl
    have hstored : ∀ {m}, s.jc.engine = .busy job m .transfer → ∀ {t : State},
        t.journal = (s.sent dt acked).journal → t.storeCut = (s.sent dt acked).storeCut → stored t := by
      intro m h t hjournal hcutmark
      have hquiet : job.bytesOut = none → stored t := by
        intro hout
        rw [State.sent_of_quiet h hout] at hjournal hcutmark
        refine ⟨fun block hjob => ?_, fun _ => ⟨hjournal, hcutmark⟩⟩
        rw [hjob] at hout
        cases hout
      cases job with
      | checkpoint p slot seq image => exact absurd rfl (hother p slot seq image)
      | store block =>
        obtain ⟨hmark, hreads⟩ := State.sent_store_reads (dt := dt) hsafe h (hcut block rfl)
        refine ⟨fun b hb => ?_, fun hnone => absurd rfl (hnone block)⟩
        cases hb
        exact ⟨hcutmark.trans hmark, fun a => by rw [hjournal]; exact hreads a⟩
      | read _ _ | configRead | slotRead _ _ => exact hquiet rfl
    have hretry : ∀ {u : State} {cause ph}, SentFrom s (s.time + dt) u →
        retried (u.retry job n cause ph) cause.code ph := by
      intro u cause ph hu
      have h := hu.retry job n cause ph
      have hevents := h.events
      rw [hwrites] at hevents
      exact ⟨h.jc, h.ss, h.cfg, h.psq, h.line, hevents⟩
    obtain ⟨hss, hml, hjc⟩ := s.sent_leaves dt acked
    refine ⟨fun hn h => ⟨State.onNoAck_of_transfer hw h, _, exec_attemptNoAck_of_early hw h hn,
        hstored h rfl rfl, hretry (sentFrom_sent s dt acked), ?_⟩,
      fun h => ⟨_, exec_busTimeout_of_flight hw h, hstored h rfl rfl, rfl, hss, hml⟩,
      fun hn h => ⟨_, exec_recoveryEnd_of_early hw h hn, rfl, rfl, hretry (sentFrom_advance s dt)⟩,
      ?_⟩
    · have hsent := (sentFrom_sent s dt acked).retry job n .noAck (.retryWait (s.time + dt + 1000))
      exact (State.onBus_of_working (by rw [hsent.ss]; exact hw)).trans (by rw [hsent.jc]; rfl)
    · intro place hplace spent hpower
      have hcode : place.pocket = none ∧ place.code = if place = .configBlock then 2#8 else 3#8 := by
        rcases hplace with ⟨-, rfl⟩ | ⟨-, rfl⟩ <;> exact ⟨rfl, rfl⟩
      have hthird : ∀ {u : State} {cause}, SentFrom s (s.time + dt) u →
          (u.spent job cause).journal = u.journal ∧ (u.spent job cause).storeCut = u.storeCut
            ∧ spent (u.spent job cause) cause cause.code := by
        intro u cause hu
        have h := hu.failed (s.ml.endBusRequest ⟨.storeFailed, []⟩) cause place
        have hleads := fun hup => State.failed_holdUpLeads hu hup
          (s.ml.endBusRequest ⟨.storeFailed, []⟩) cause place
        have hspent : u.spent job cause
            = (u.failed (s.ml.endBusRequest ⟨.storeFailed, []⟩) cause place).finishHoldUp := by
          have hml : u.ml = s.ml := by rw [hu]
          rcases hplace with ⟨⟨block, rfl⟩, rfl⟩ | ⟨⟨p, i, rfl⟩, rfl⟩
          · exact hml ▸ u.spent_store block cause
          · exact hml ▸ u.spent_read p i cause
        rw [hspent]
        obtain ⟨hjournal, hcutmark⟩ :=
          (u.failed (s.ml.endBusRequest ⟨.storeFailed, []⟩) cause place).journal_finishHoldUp
        refine ⟨hjournal, hcutmark, ?_⟩
        have hfjournal : (u.failed (s.ml.endBusRequest ⟨.storeFailed, []⟩) cause place).journal = u.journal
          ∧ (u.failed (s.ml.endBusRequest ⟨.storeFailed, []⟩) cause place).storeCut = u.storeCut := ⟨rfl, rfl⟩
        rw [← hfjournal.1, ← hfjournal.2, ← hjournal, ← hcutmark] at hleads
        generalize u.failed (s.ml.endBusRequest ⟨.storeFailed, []⟩) cause place = f at h hleads ⊢
        obtain ⟨-, htx, horphan, -⟩ := h.line
        have hevents := h.events
        rw [Link.events_endBusRequest, hcode.1, hcode.2] at hevents
        have hlost : s.ml.orphan = true → f.ml.tx = s.ml.tx := fun hlost =>
          htx.trans (by rw [Link.endBusRequest_of_orphan _ hlost])
        have hreplied : s.ml.orphan = false → ∀ o, s.ml.outstanding = some o →
            f.ml.tx = s.ml.tx ++ [⟨false, replyFrame o.kind o.tag ⟨.storeFailed, []⟩⟩] :=
          fun hnone o hasked => htx.trans (by rw [Link.endBusRequest_of_asked _ hnone hasked])
        have hcleared := horphan.trans (Link.orphan_endBusRequest _ _)
        refine ⟨fun hrun => ?_, fun hup => ⟨hleads hup, fun hheld => ?_⟩⟩
        · rw [State.finishHoldUp_of_other (by rw [h.ss, hrun]; decide)]
          exact ⟨h.jc, h.ss, h.psq, h.cfg, h.bd, hcleared, hlost, hreplied, hevents⟩
        · rw [State.finishHoldUp_of_held hheld]
          exact ⟨h.psq, h.cfg, h.bd, hcleared, hlost, hreplied, hevents⟩
      refine ⟨fun h => ⟨State.onNoAck_of_transfer hw h, _, exec_attemptNoAck_of_third hw h, ?_⟩,
        fun h => ⟨_, exec_recoveryEnd_of_third hw h, hthird (sentFrom_advance s dt)⟩⟩
      obtain ⟨hjournal, hcutmark, hspent⟩ := hthird (cause := .noAck) (sentFrom_sent s dt acked)
      exact ⟨hstored h hjournal hcutmark, hspent⟩
  · intro faulted unread ringU ringL
    have hw : s.ss.power.working = true := by rw [hpower]; rfl
    have hlive : s.ss.power ≠ .dark := by rw [hpower]; decide
    have hunread : ∀ cause : JournalCause, cause = .noAck ∨ cause = .timeout →
        unread ((s.advance dt).spent .configRead cause) cause := by
      intro cause hcause
      rw [State.spent_configRead (s := s.advance dt) hpower hscan, State.configReadFailed,
        State.configLoaded_eq (s := s.advance dt) _ _ _ hlive, State.setJournalFault_eq]
      refine ⟨⟨rfl, rfl, rfl⟩, rfl, Bool.or_true _, fun p => ?_,
        congrArg (JournalController.mk s.jc.rings s.jc.queue (.busy (.slotRead .U 0) 1 .transfer)) hscan.symm,
        fun hroom => ?_⟩
      · rw [← Config.defaults_copies p]
        cases p <;> rfl
      · rcases hcause with rfl | rfl <;>
          exact State.events_post _ _ _ (by exact Config.defaults_classMask) hroom
    have hringU : ∀ (slot : Fin 124) (cause : JournalCause), cause = .noAck ∨ cause = .timeout →
        ringU ((s.advance dt).spent (.slotRead .U slot) cause) cause := by
      intro slot cause hcause
      rw [State.spent_slotRead (s := s.advance dt) hpower hscan, State.slotReadFailed,
        State.setJournalFault_eq]
      refine ⟨⟨rfl, rfl, rfl⟩, rfl, rfl, rfl, fun hmask hroom => ?_⟩
      have hevents := State.events_post (s := { s.advance dt with ss := { s.ss with
        journalFault := some (cause, .ring .U) } }) .journalFault (some .U) (pairArg cause.code 0#8) hmask hroom
      rcases hcause with rfl | rfl <;> exact hevents
    have hringL : ∀ (slot : Fin 124) (cause : JournalCause), cause = .noAck ∨ cause = .timeout →
        s.ss.vhu.toNat < s.cfg.armCode →
        ringL ((s.advance dt).spent (.slotRead .L slot) cause) cause := by
      intro slot cause hcause hweak
      obtain ⟨v, hv⟩ : ∃ v : State, v = { s.advance dt with
        ss := { s.ss with journalFault := some (cause, .ring .L) } } := ⟨_, rfl⟩
      obtain ⟨f, hf⟩ : ∃ f, f = v.post .journalFault (some .L) (pairArg cause.code 1#8) := ⟨_, rfl⟩
      obtain ⟨sc', hsc⟩ : ∃ sc' : Scan, sc' = { sc with rings := sc.rings.set .L ⟨true, none⟩ } := ⟨_, rfl⟩
      have hunreadable : (sc'.rings.get .L).unreadable = true := by rw [hsc]; rfl
      have hspent : (s.advance dt).spent (.slotRead .L slot) cause = (f.plannedAtScan sc').enterArm := by
        rw [State.spent_slotRead (s := s.advance dt) hpower hscan, State.slotReadFailed,
          State.setJournalFault_eq, hf, hv, hsc]
        rfl
      obtain ⟨hleaves, hpocket, -, hqueue, -, hvhu, hplan⟩ := f.plannedAtScan_spec sc'
      have hcode : (f.plannedAtScan sc').ss.vhu.toNat < (f.plannedAtScan sc').cfg.armCode := by
        rw [hvhu, hleaves.cfg, hf, hv]
        exact hweak
      rw [hspent, State.enterArm_of_weak hcode]
      generalize f.plannedAtScan sc' = w at hleaves hpocket hqueue hplan
      have hfield : f.journal = s.journal ∧ f.jc.queue = s.jc.queue ∧ f.cfg = s.cfg
          ∧ f.ss.journalFault = some (cause, .ring .L) := by
        rw [hf, hv]
        exact ⟨rfl, rfl, rfl, rfl⟩
      obtain ⟨hfjournal, hfqueue, hfcfg, hffault⟩ := hfield
      refine ⟨⟨hleaves.journalFault.trans hffault, hleaves.journal.trans hfjournal, hqueue.trans hfqueue⟩,
        hleaves.cfg.trans hfcfg, rfl, hleaves.engine, hleaves.scan, ?_, ⟨_, hplan .L, ?_⟩, fun hmask hroom => ?_⟩
      · refine (hleaves.ring .L).trans ?_
        exact if_pos hunreadable
      · have hrecovered : (w.pocket .L).recovered = .unreadable := by
          rw [hpocket, Pocket.fill_of_unreadable hunreadable]
        unfold State.planFrom
        rw [hrecovered]
        exact ⟨rfl, rfl⟩
      · refine hleaves.events _ ?_
        have hevents := State.events_post (s := v) .journalFault (some .L) (pairArg cause.code 1#8)
          (by rw [hv]; exact hmask) (by rw [hv]; exact hroom)
        rw [hf, hevents, hv]
        rcases hcause with rfl | rfl <;> exact List.mem_append_right _ List.mem_cons_self
    have hnoAck : ∀ {job}, job.bytesOut = none → s.jc.engine = .busy job 3 .transfer →
        exec (.attemptNoAck dt acked) s = .next ((s.advance dt).spent job .noAck) := by
      intro job hout h
      rw [exec_attemptNoAck_of_third hw h, State.sent_of_quiet h hout]
    exact ⟨fun h => ⟨_, hnoAck rfl h, hunread .noAck (.inl rfl)⟩,
      fun h => ⟨_, exec_recoveryEnd_of_third hw h, hunread .timeout (.inr rfl)⟩,
      fun slot h => ⟨_, hnoAck rfl h, hringU slot .noAck (.inl rfl)⟩,
      fun slot h => ⟨_, exec_recoveryEnd_of_third hw h, hringU slot .timeout (.inr rfl)⟩,
      fun slot h hweak => ⟨_, hnoAck rfl h, hringL slot .noAck (.inl rfl) hweak⟩,
      fun slot h hweak => ⟨_, exec_recoveryEnd_of_third hw h, hringL slot .timeout (.inr rfl) hweak⟩⟩

section
/-! Entry into HOLD_UP at a loss of the line or of VHU (R22, R103 to R105, R128, R142). -/

namespace Sys2Proof.Machine

/-! ### The write queue at a loss (R128) -/

/-- The LOSS request of a pocket joins the queue where the pocket is in a running phase. -/
def enqueueLoss (queue : List WriteRequest) (p : PocketId) (running : Bool) (now : Nat) :
    List WriteRequest :=
  if running then enqueue queue p .loss now else queue

theorem JournalController.holdUp_queue (j : JournalController) (u l : Bool) (now : Nat) :
    (j.holdUp u l now).queue
      = enqueueLoss (enqueueLoss (j.queue.filter (!·.ofLink)) .U u now) .L l now := rfl

theorem WriteKind.upgrade_loss (w : WriteKind) (p : PocketId) :
    w.upgrade (.checkpoint p .loss) = .checkpoint p .loss := by
  refine if_pos ?_
  change 1 ≤ w.priority
  unfold WriteKind.priority
  split <;> decide

theorem mem_enqueue_loss (queue : List WriteRequest) (p : PocketId) (now : Nat) :
    ∃ w ∈ enqueue queue p .loss now, w.what = .checkpoint p .loss := by
  unfold enqueue
  split
  · next hany =>
    obtain ⟨w, hw, hown⟩ := List.any_eq_true.mp hany
    refine ⟨_, List.mem_map_of_mem hw, ?_⟩
    rw [if_pos hown]
    exact w.what.upgrade_loss p
  · exact ⟨_, List.mem_append_right _ List.mem_cons_self, rfl⟩

theorem filter_enqueue_of_other {p q : PocketId} (h : p ≠ q) (queue : List WriteRequest) (kind : RecordKind)
    (now : Nat) : (enqueue queue p kind now).filter (·.ofPocket q) = queue.filter (·.ofPocket q) := by
  have hapart : ∀ w : WriteRequest, w.ofPocket q = true → ¬ w.ofPocket p = true := by
    intro w hw
    obtain ⟨k, hk⟩ := WriteRequest.what_of_ofPocket hw
    simp [WriteRequest.ofPocket, hk, Ne.symm h]
  unfold enqueue
  split
  · rw [List.filter_map]
    have hkept : queue.filter ((·.ofPocket q) ∘ fun w => if w.ofPocket p = true then
        { w with what := w.what.upgrade (.checkpoint p kind) } else w) = queue.filter (·.ofPocket q) := by
      refine List.filter_congr fun w _ => ?_
      by_cases hw : w.ofPocket p = true
      · simp only [Function.comp, if_pos hw, WriteRequest.ofPocket_upgrade hw]
      · simp only [Function.comp, if_neg hw]
    rw [hkept]
    exact (List.map_congr_left fun w hw => if_neg (hapart w (List.mem_filter.mp hw).2)).trans
      (List.map_id _)
  · rw [List.filter_append]
    simp [WriteRequest.ofPocket, h]

theorem enqueue_ne_nil (queue : List WriteRequest) (p : PocketId) (kind : RecordKind) (now : Nat) :
    enqueue queue p kind now ≠ [] := by
  unfold enqueue
  split
  · next hany =>
    cases queue with
    | nil => cases hany
    | cons w ws => exact nofun
  · simp

theorem enqueueLoss_eq_nil_iff (queue : List WriteRequest) (p : PocketId) (running : Bool) (now : Nat) :
    enqueueLoss queue p running now = [] ↔ running = false ∧ queue = [] := by
  cases running with
  | false => simp [enqueueLoss]
  | true => simp [enqueueLoss, enqueue_ne_nil]

theorem filter_enqueueLoss_of_other {p q : PocketId} (h : p ≠ q) (queue : List WriteRequest)
    (running : Bool) (now : Nat) :
    (enqueueLoss queue p running now).filter (·.ofPocket q) = queue.filter (·.ofPocket q) := by
  unfold enqueueLoss
  split
  · exact filter_enqueue_of_other h queue .loss now
  · rfl

theorem filter_unlinked (queue : List WriteRequest) (p : PocketId) :
    (queue.filter (!·.ofLink)).filter (·.ofPocket p) = queue.filter (·.ofPocket p) := by
  rw [List.filter_filter]
  refine List.filter_congr fun w _ => ?_
  unfold WriteRequest.ofLink WriteRequest.ofPocket
  cases w.what with
  | checkpoint q kind => simp
  | store | read _ _ => rfl

/-! ### The Journal Controller and the pockets at a loss -/

/-- What a controller holds at a loss, as a pocket sees it. -/
theorem JournalController.holdUp_pocket (j : JournalController) (run : Pair Bool) (now : Nat) (p : PocketId) :
    (run.get p = true → ∃ w ∈ (j.holdUp run.u run.l now).queue, w.what = .checkpoint p .loss)
      ∧ (run.get p = false → (j.holdUp run.u run.l now).queue.filter (·.ofPocket p)
          = j.queue.filter (·.ofPocket p)) := by
  rw [JournalController.holdUp_queue]
  cases p with
  | U =>
    refine ⟨fun h => ?_, fun h => ?_⟩
    · have hrun : run.u = true := h
      obtain ⟨w, hw, hwhat⟩ := mem_enqueue_loss (j.queue.filter (!·.ofLink)) .U now
      refine ⟨w, ?_, hwhat⟩
      rw [hrun]
      unfold enqueueLoss
      split
      · exact (mem_enqueue_of_other (by simp [WriteRequest.ofPocket, hwhat]) _ _ _).mpr hw
      · exact hw
    · have hrun : run.u = false := h
      rw [filter_enqueueLoss_of_other (by decide), hrun]
      exact filter_unlinked j.queue .U
  | L =>
    refine ⟨fun h => ?_, fun h => ?_⟩
    · have hrun : run.l = true := h
      rw [hrun]
      exact mem_enqueue_loss _ .L now
    · have hrun : run.l = false := h
      rw [hrun]
      exact (filter_enqueueLoss_of_other (p := .U) (by decide) _ _ _).trans (filter_unlinked j.queue .L)

theorem JournalController.holdUp_unlinked (j : JournalController) (u l : Bool) (now : Nat) :
    ∀ w ∈ (j.holdUp u l now).queue, w.ofLink = false := by
  intro w hw
  have hnone := List.countP_eq_zero.mp (j.queue_holdUp u l now).2 w hw
  simpa using hnone

theorem JournalController.holdUp_empty_iff (j : JournalController) (u l : Bool) (now : Nat) :
    (j.holdUp u l now).queue = [] ↔ u = false ∧ l = false ∧ ∀ w ∈ j.queue, w.ofLink = true := by
  rw [JournalController.holdUp_queue, enqueueLoss_eq_nil_iff, enqueueLoss_eq_nil_iff, List.filter_eq_nil_iff]
  have hlink : (∀ w ∈ j.queue, ¬ (!w.ofLink) = true) ↔ ∀ w ∈ j.queue, w.ofLink = true := by
    simp
  rw [hlink]
  exact ⟨fun ⟨hl, hu, h⟩ => ⟨hu, hl, h⟩, fun ⟨hu, hl, h⟩ => ⟨hl, hu, h⟩⟩

section
variable (k : Pocket) (theta : Option Int) (now : Stamp)

theorem Pocket.holdUp_frozen (h : k.phase.running = true) : (k.holdUp theta now).frozen = true := by
  simp [Pocket.holdUp, h]

/-- The pair is not taken at rest, without a valid temperature or with the sensor's fault (R22). -/
theorem Pocket.holdUp_kept {k : Pocket} {theta : Option Int}
    (h : k.phase.running = false ∨ k.faults.sensor = true ∨ theta = none) :
    (k.holdUp theta now).run = k.run := by
  unfold Pocket.holdUp
  dsimp only
  rcases h with h | h | h
  · simp [h]
  · simp [h]
  · rw [h]
    split <;> rfl

theorem Pocket.holdUp_taken {k : Pocket} (th : Int) (hrun : k.phase.running = true)
    (hsensor : k.faults.sensor = false) :
    (k.holdUp (some th) now).run = { k.run with thetaRef := th, tref := now } := by
  simp [Pocket.holdUp, hrun, hsensor]

end

/-! ### The state at a loss -/

/-- The state is another at the instant of a loss: the pockets, the pins' conditioner, the Backup Domain,
the Journal Controller, the plans and the line side of the link are as they were. -/
structure AtLoss (s a : State) : Prop where
  psq : a.psq = s.psq
  ic : a.ic = s.ic
  bd : a.bd = s.bd
  jc : a.jc = s.jc
  cfg : a.cfg = s.cfg
  rp : a.rp = s.rp
  journal : a.journal = s.journal
  storeCut : a.storeCut = s.storeCut
  line : keepsLine s a

theorem State.pocket_heldUp (s : State) (p : PocketId) :
    s.heldUp.pocket p = (s.pocket p).holdUp (s.sense p).theta s.bd.stamp := by
  cases p <;> rfl

theorem State.jc_heldUp (s : State) : s.heldUp.jc = s.jc.holdUp s.psq.u.phase.running s.psq.l.phase.running
    s.time := rfl

/-- A transfer of the load sequence is held by the engine. -/
def Engine.inLoad : Engine → Bool
  | .free => false
  | .busy job _ _ => job.ofLoad

theorem Engine.afterLoss_eq (e : Engine) : e.afterLoss = if e.inLoad then .free else e := by
  cases e <;> rfl

theorem Engine.afterLoss_eq_free_iff (e : Engine) : e.afterLoss = .free ↔ e = .free ∨ e.inLoad = true := by
  rw [Engine.afterLoss_eq]
  cases h : e.inLoad <;> simp

/-- The door watches at a loss. -/
theorem Backup.armWatches_eq (b : Backup) : b.armWatches = { b with watch :=
    ⟨{ b.watch.u with armed := true, count := 0 }, { b.watch.l with armed := true, count := 0 }⟩ } := rfl

section
variable {s a : State} (h : AtLoss s a)
include h

theorem AtLoss.pocket (p : PocketId) :
    a.heldUp.pocket p = (s.pocket p).holdUp (s.sense p).theta s.bd.stamp := by
  rw [State.pocket_heldUp, h.bd, show a.pocket p = s.pocket p from congrArg (·.get p) h.psq,
    show a.sense p = s.sense p from congrArg (·.get p) h.ic]

/-- The phases in which the two pockets are found. -/
theorem AtLoss.jc_heldUp : a.heldUp.jc
    = s.jc.holdUp s.psq.u.phase.running s.psq.l.phase.running a.time := by
  rw [State.jc_heldUp, h.jc, h.psq]

theorem AtLoss.requests (p : PocketId) :
    ((s.pocket p).phase.running = true → ∃ w ∈ a.heldUp.jc.queue, w.what = .checkpoint p .loss)
      ∧ ((s.pocket p).phase.running = false → a.heldUp.jc.queue.filter (·.ofPocket p)
          = s.jc.queue.filter (·.ofPocket p)) := by
  have hrun : (⟨s.psq.u.phase.running, s.psq.l.phase.running⟩ : Pair Bool).get p
      = (s.pocket p).phase.running := by cases p <;> rfl
  rw [h.jc_heldUp, ← hrun]
  exact s.jc.holdUp_pocket ⟨s.psq.u.phase.running, s.psq.l.phase.running⟩ a.time p

/-- The queued service requests are answered, or the orphan's is dropped (R128, R162). -/
theorem AtLoss.reply :
    ((∀ w ∈ s.jc.queue, w.ofLink = false) →
        a.heldUp.ml.tx = s.ml.tx ∧ a.heldUp.ml.orphan = s.ml.orphan)
      ∧ ((∃ w ∈ s.jc.queue, w.ofLink = true) → s.ml.orphan = true →
          a.heldUp.ml.tx = s.ml.tx ∧ a.heldUp.ml.orphan = false)
      ∧ ((∃ w ∈ s.jc.queue, w.ofLink = true) → s.ml.orphan = false →
          ∀ o, s.ml.outstanding = some o →
            a.heldUp.ml.tx = s.ml.tx ++ [⟨false, replyFrame o.kind o.tag ⟨.aborted, []⟩⟩]) := by
  obtain ⟨-, htx, horphan, hasked⟩ := h.line
  have hqueue : a.jc.queue.any (·.ofLink) = s.jc.queue.any (·.ofLink) := by rw [h.jc]
  have hlinked : (∃ w ∈ s.jc.queue, w.ofLink = true) →
      a.heldUp.ml = a.ml.endBusRequest ⟨.aborted, []⟩ := fun hany =>
    if_pos (by rw [hqueue]; exact List.any_eq_true.mpr hany)
  refine ⟨fun hnone => ?_, fun hany hlost => ?_, fun hany hkept o ho => ?_⟩
  · have hml : a.heldUp.ml = a.ml := by
      refine if_neg ?_
      rw [hqueue, List.any_eq_true]
      rintro ⟨w, hw, hlink⟩
      exact Bool.noConfusion ((hnone w hw).symm.trans hlink)
    rw [hml]
    exact ⟨htx, horphan⟩
  · rw [hlinked hany, Link.endBusRequest_of_orphan _ (horphan.trans hlost)]
    exact ⟨htx, rfl⟩
  · rw [ho] at hasked
    obtain ⟨o', ho', hsame⟩ := Option.map_eq_some_iff.mp hasked
    obtain ⟨hkind, htag⟩ := Prod.mk.inj hsame
    rw [hlinked hany, Link.endBusRequest_of_asked _ (horphan.trans hkept) ho', hkind, htag]
    exact congrArg (· ++ _) htx

/-- HOLD_UP is over at once when no pocket runs, nothing but service requests is queued, and the engine is
free but for the load sequence (R105). -/
theorem AtLoss.over_iff : (a.heldUp.jc.queue = [] ∧ a.heldUp.jc.engine = .free)
    ↔ (∀ p, (s.pocket p).phase.running = false)
      ∧ (∀ w ∈ s.jc.queue, w.ofLink = true) ∧ (s.jc.engine = .free ∨ s.jc.engine.inLoad = true) := by
  have hengine : a.heldUp.jc.engine = s.jc.engine.afterLoss := by rw [h.jc_heldUp]; rfl
  rw [hengine, Engine.afterLoss_eq_free_iff, h.jc_heldUp, JournalController.holdUp_empty_iff]
  constructor
  · rintro ⟨⟨hu, hl, hqueue⟩, hfree⟩
    exact ⟨fun p => by cases p <;> assumption, hqueue, hfree⟩
  · rintro ⟨hidle, hqueue, hfree⟩
    exact ⟨⟨hidle .U, hidle .L, hqueue⟩, hfree⟩

end

theorem State.enterHoldUp_of_work {s : State}
    (h : ¬ (s.heldUp.jc.queue = [] ∧ s.heldUp.jc.engine = .free)) : s.enterHoldUp = s.heldUp :=
  (State.enterHoldUp_eq s).trans (State.finishHoldUp_of_work (not_and_or.mp h))

theorem State.enterHoldUp_of_over {s : State}
    (h : s.heldUp.jc.queue = [] ∧ s.heldUp.jc.engine = .free) : s.enterHoldUp = s.heldUp.enterDark :=
  (State.enterHoldUp_eq s).trans (State.finishHoldUp_of_unmarked rfl h.1 h.2 rfl)

/-! ### The losses (R91, R94, R103) -/

/-- A MISSING half-cycle past the ride-through count loses the line (R91). -/
theorem LineMonitor.classify_lost {m : LineMonitor} {c : WorkingCopy} (interval : Nat)
    (hline : m.line = .rideThrough ∨ m.line = .lowLine) (h : c.nRt < min 255 (m.missingCount + 1)) :
    (m.classify c .missing interval).line = .lost := by
  rcases hline with hline | hline <;>
    simp [LineMonitor.classify, LineMonitor.next, LineMonitor.count, hline, h]

theorem State.lineChanged_of_lost {s : State} (hline : s.lm.line = .lost)
    (hpower : s.ss.power = .run ∨ s.ss.power = .wake .load ∨ s.ss.power = .wake .arm) :
    s.lineChanged = s.enterHoldUp := by
  rcases hpower with hpower | hpower | hpower <;> simp only [State.lineChanged, hline, hpower]

/-- HOLD_UP entered by a MISSING half-cycle stays as it was entered. -/
theorem State.enterHoldUp_settled (s : State) :
    s.enterHoldUp.arbitrate.returnMarkBy .missing = s.enterHoldUp := by
  by_cases hover : s.heldUp.jc.queue = [] ∧ s.heldUp.jc.engine = .free
  · rw [State.enterHoldUp_of_over hover, State.arbitrate_of_not_inRun rfl]
    exact if_neg nofun
  · rw [State.enterHoldUp_of_work hover, State.arbitrate_of_not_inRun rfl]
    exact (if_pos rfl).trans (State.finishHoldUp_of_work (s := s.heldUp) (not_and_or.mp hover))

theorem State.halfCycle_of_lost {s : State} (interval : Nat) (peak : Byte)
    (hpower : s.ss.power = .run ∨ s.ss.power = .wake .load ∨ s.ss.power = .wake .arm)
    (hline : s.lm.line = .rideThrough ∨ s.lm.line = .lowLine)
    (h : s.cfg.nRt < min 255 (s.lm.missingCount + 1)) :
    s.halfCycle .missing interval peak = (s.relined .missing interval peak).enterHoldUp
      ∧ (s.relined .missing interval peak).lm.line = .lost
      ∧ AtLoss s (s.relined .missing interval peak) := by
  have hlost := LineMonitor.classify_lost interval hline h
  obtain ⟨l, hl⟩ := s.relined_eq .missing interval peak
  have hkeeps : keepsLine s (s.relined .missing interval peak) :=
    ({ s with lm := s.lm.classify s.cfg .missing interval } : State).keepsLine_postLine s.lm.line peak
  have hmoved : (s.lm.classify s.cfg .missing interval).line ≠ s.lm.line := by
    rw [hlost]
    rcases hline with hline | hline <;> rw [hline] <;> decide
  have hhalf : s.halfCycle .missing interval peak
      = (s.relined .missing interval peak).lineChanged.arbitrate.returnMarkBy .missing :=
    congrArg (State.returnMarkBy · .missing) (if_neg hmoved)
  have hrelined : (s.relined .missing interval peak).lm.line = .lost := by
    rw [hl]
    exact hlost
  refine ⟨?_, hrelined, ?_⟩
  · rw [hhalf, State.lineChanged_of_lost hrelined (by rw [hl]; exact hpower), State.enterHoldUp_settled]
  · rw [hl] at hkeeps ⊢
    exact ⟨rfl, rfl, rfl, rfl, rfl, rfl, rfl, rfl, hkeeps⟩

/-- The state once a VHU sample was compared with the write floor. -/
def State.sampledFloor (s : State) (v : Byte) : State :=
  { s.noteVhu v with ss := { (s.noteVhu v).ss with atFloor := s.cfg.writeFloor ≤ v.toNat } }

theorem exec_vhuBelowWriteFloor_of_fall {s : State} {dt : Nat} {v : Byte} (hrun : s.ss.power = .run)
    (hfloor : s.ss.atFloor = true) (h : v.toNat < s.cfg.writeFloor) :
    exec (.vhuBelowWriteFloor dt v) s = .next ((s.advance dt).sampledFloor v).enterHoldUp := by
  have hfell : (s.ss.atFloor && decide (v.toNat < s.cfg.writeFloor)) = true := by simp [hfloor, h]
  exact congrArg Host.Outcome.next (if_pos ⟨hfell, beq_iff_eq.mpr hrun⟩)

/-- While HOLD_UP goes on, its entry has left the Line Monitor. -/
theorem State.lm_enterHoldUp {s : State} (hup : s.enterHoldUp.ss.power = .holdUp) :
    s.enterHoldUp.lm = s.lm := by
  by_cases hover : s.heldUp.jc.queue = [] ∧ s.heldUp.jc.engine = .free
  · rw [State.enterHoldUp_of_over hover] at hup
    cases hup
  · rw [State.enterHoldUp_of_work hover]
    rfl

theorem State.vhu_enterHoldUp (s : State) : s.enterHoldUp.ss.vhu = s.ss.vhu := by
  by_cases hover : s.heldUp.jc.queue = [] ∧ s.heldUp.jc.engine = .free
  · rw [State.enterHoldUp_of_over hover]
    rfl
  · rw [State.enterHoldUp_of_work hover]
    rfl

end Sys2Proof.Machine

open Sys2Proof Sys2Proof.Machine

/-- Settles O27: each loss enters HOLD_UP, which ends at once with nothing left to do. -/
theorem lossEntersHoldUp : Obligations.LossEntersHoldUp := by
  intro dt v s inLoad watched held entered
  have hload : inLoad = s.jc.engine.inLoad := by
    unfold inLoad
    rcases s.jc.engine with _ | ⟨job, n, ph⟩
    · rfl
    · cases job <;> rfl
  clear_value inLoad
  have hentered : ∀ a : State, s.ss.power.working = true → AtLoss s a → entered a.enterHoldUp := by
    intro a hw h
    refine ⟨?_, ?_⟩
    · rw [State.onLoss_of_working hw]
      rcases s.jc.engine with _ | ⟨job, n, ph⟩
      · rfl
      · cases job <;> cases ph <;> rfl
    · intro idle spare
      have hover := h.over_iff
      rw [← hload] at hover
      refine ⟨fun hwork => ?_, fun hidle hspare => ?_⟩
      · have hnot : ¬ (a.heldUp.jc.queue = [] ∧ a.heldUp.jc.engine = .free) := fun hends =>
          hwork.elim (fun hn => hn (hover.mp hends).1) (fun hn => hn (hover.mp hends).2)
        rw [State.enterHoldUp_of_work hnot]
        have hunlinked : ∀ w ∈ a.heldUp.jc.queue, w.ofLink = false := by
          rw [h.jc_heldUp]
          exact s.jc.holdUp_unlinked _ _ _
        refine ⟨rfl, rfl, rfl, rfl, h.cfg, h.rp, h.ic,
          ⟨(congrArg Backup.armWatches h.bd).trans s.bd.armWatches_eq, h.journal, h.storeCut⟩,
          by rw [h.jc_heldUp]; rfl, by rw [h.jc_heldUp]; rfl, ?_, fun p => ?_, hunlinked, h.reply⟩
        · rw [h.jc_heldUp, hload]
          exact s.jc.engine.afterLoss_eq
        · obtain ⟨hrequest, hkept⟩ := h.requests p
          rw [h.pocket]
          exact ⟨rfl, rfl, rfl, rfl, rfl, Pocket.holdUp_frozen _ _ _, Pocket.holdUp_kept _,
            fun hrun hsensor th hth => by rw [hth]; exact Pocket.holdUp_taken _ th hrun hsensor,
            hrequest, hkept⟩
      · rw [State.enterHoldUp_of_over (hover.mpr ⟨hidle, hspare⟩)]
        refine ⟨rfl, ⟨(congrArg Backup.armWatches h.bd).trans s.bd.armWatches_eq, h.journal, h.storeCut⟩,
          rfl, rfl, rfl, fun p => ?_⟩
        cases p <;> exact ⟨rfl, rfl⟩
  refine ⟨fun hpower hline hcount => ?_, fun hrun hfloor hbelow => ?_⟩
  · have hw : s.ss.power.working = true := by
      rcases hpower with hpower | hpower | hpower <;> rw [hpower] <;> rfl
    have hlost : ∀ (now : Nat) (m : LineMonitor) (interval : Nat) (peak : Byte), m.line = s.lm.line →
        m.missingCount = s.lm.missingCount →
        entered (({ s with time := now, lm := m } : State).halfCycle .missing interval peak)
          ∧ ((({ s with time := now, lm := m } : State).halfCycle .missing interval peak).ss.power
              = .holdUp →
            (({ s with time := now, lm := m } : State).halfCycle .missing interval peak).lm.line = .lost) := by
      intro now m interval peak hm hmissing
      obtain ⟨hhalf, hrelined, h⟩ := State.halfCycle_of_lost (s := { s with time := now, lm := m })
        interval peak hpower (by rw [← hm] at hline; exact hline) (by rw [← hmissing] at hcount; exact hcount)
      rw [hhalf]
      exact ⟨hentered _ hw { h with }, fun hup => by rw [State.lm_enterHoldUp hup, hrelined]⟩
    refine ⟨fun hdue => ⟨_, exec_silenceTimerExpiry_of_due hw hdue, hlost _ _ _ _ rfl rfl⟩,
      fun last hlast hmissed hlong => ⟨_, exec_zeroCrossing_of_accepted hw hlast (by omega) hmissed
        (classOf_of_long hlong), hlost _ _ _ _ rfl rfl⟩⟩
  · refine ⟨_, exec_vhuBelowWriteFloor_of_fall hrun hfloor hbelow, ?_, hentered _ (by rw [hrun]; rfl) ?_,
      fun hup => State.lm_enterHoldUp hup⟩
    · exact State.vhu_enterHoldUp _
    · exact ⟨rfl, rfl, rfl, rfl, rfl, rfl, rfl, rfl, rfl, rfl, rfl, rfl⟩
end

section
/-! CONFIG_WRITE: the range of each field, the value taken, and the order kept (R98, R173, R174). -/

namespace Sys2Proof.Machine

/-! ### The value a request carries (12.2) -/

/-- The temperature codes among the fields, the ones carried signed (11.1). -/
def signedField (g f : Nat) : Bool :=
  g = 1 ∧ 22 ≤ f ∨ (g = 2 ∨ g = 3) ∧ f = 14 ∨ g = 4 ∧ f = 0

/-- The number that the 16 bits of a field mean. -/
def askedValue (g f : Nat) (v : Half) : Int := if signedField g f then v.toInt else v.toNat

theorem askedValue_of_bytes (g f : Byte) (v : Half) :
    (if g = 1#8 ∧ 22 ≤ f.toNat ∨ (g = 2#8 ∨ g = 3#8) ∧ f = 14#8 ∨ g = 4#8 ∧ f = 0#8 then v.toInt
      else (v.toNat : Int)) = askedValue g.toNat f.toNat v := by
  simp only [askedValue, signedField, decide_eq_true_eq, BitVec.toNat_eq]
  rfl

/-- Whether a range's field is carried signed. -/
def FieldRange.signed : FieldRange → Bool
  | .temperature _ _ => true
  | .number _ _ | .choice _ | .member _ | .classes => false

theorem FieldRange.decode_eq (r : FieldRange) (v : Half) :
    r.decode v = if r.signed then v.toInt else v.toNat := by
  cases r <;> rfl

theorem signed_of_fieldRange {g f : Nat} {r : FieldRange} (h : fieldRange g f = some r) :
    r.signed = signedField g f := by
  have hpart : ∀ i : Fin 31, (partRanges[i.val]?).map FieldRange.signed = some (signedField 1 i) := by decide
  have hinst : ∀ g ∈ [2, 3], ∀ i : Fin 18, (instRanges[i.val]?).map FieldRange.signed
      = some (signedField g i) := by decide
  have hplan : ∀ i : Fin 22, (planRanges[i.val]?).map FieldRange.signed = some (signedField 4 i) := by decide
  have hknown : f < fieldCount g := by
    refine Nat.lt_of_not_le fun hle => ?_
    rw [(fieldRange_eq_none_iff g f).mpr hle] at h
    cases h
  have hfield : ∀ (rs : List FieldRange) (b : Bool), rs[f]? = some r →
      (rs[f]?).map FieldRange.signed = some b → r.signed = b := by
    intro rs b hr hs
    rw [hr] at hs
    exact Option.some.inj hs
  match g, h, hknown with
  | 1, h, hknown => exact hfield partRanges _ h (hpart ⟨f, hknown⟩)
  | 2, h, hknown => exact hfield instRanges _ h (hinst 2 (by decide) ⟨f, hknown⟩)
  | 3, h, hknown => exact hfield instRanges _ h (hinst 3 (by decide) ⟨f, hknown⟩)
  | 4, h, hknown => exact hfield planRanges _ h (hplan ⟨f, hknown⟩)
  | 0, h, _ => cases h
  | _ + 5, h, _ => cases h

theorem decode_of_fieldRange {g f : Nat} {r : FieldRange} (h : fieldRange g f = some r) (v : Half) :
    r.decode v = askedValue g f v := by
  rw [FieldRange.decode_eq, signed_of_fieldRange h]
  rfl

/-! ### The value taken (R173) -/

/-- The value a write asks a field to hold, brought into the field's range; none is BAD_ARG. -/
def takenValue (g f : Nat) (v : Half) : Option Int :=
  (fieldRange g f).bind fun r => r.accept (askedValue g f v)

/-- The smallest choice not below a value, or the largest. -/
theorem clampChoice_eq {cs : List Int} (h : cs ≠ []) (n : Int) :
    clampChoice cs n = (cs.find? (fun c => decide (n ≤ c))).getD (cs.getLastD 0) := by
  induction cs with
  | nil => exact absurd rfl h
  | cons c cs ih =>
    cases cs with
    | nil => cases hc : decide (n ≤ c) <;> simp [clampChoice, hc]
    | cons d ds =>
      have hrest := ih (List.cons_ne_nil d ds)
      by_cases hc : n ≤ c
      · simp [clampChoice, hc]
      · rw [clampChoice.eq_3 n c (d :: ds) nofun, if_neg hc, hrest,
          List.find?_cons_of_neg (a := c) (by simpa using hc)]
        rfl

section
variable {g f : Nat} (v : Half)

theorem takenValue_of_range {r : FieldRange} (h : fieldRange g f = some r) :
    takenValue g f v = r.accept (askedValue g f v) := by
  rw [takenValue, h]
  rfl

theorem takenValue_of_none (h : fieldRange g f = none) : takenValue g f v = none := by
  rw [takenValue, h]
  rfl

theorem askedValue_of_unsigned {r : FieldRange} (h : fieldRange g f = some r) (hr : r.signed = false) :
    askedValue g f v = v.toNat := by
  rw [← decode_of_fieldRange h, FieldRange.decode_eq, hr]
  rfl

theorem takenValue_of_number {lo hi : Int} (h : fieldRange g f = some (.number lo hi)) :
    takenValue g f v = some (max lo (min hi v.toNat)) := by
  rw [takenValue_of_range v h, askedValue_of_unsigned v h rfl]
  rfl

theorem takenValue_of_temperature {lo hi : Int} (h : fieldRange g f = some (.temperature lo hi)) :
    takenValue g f v = some (max lo (min hi (askedValue g f v))) :=
  takenValue_of_range v h

theorem takenValue_of_choice {cs : List Int} (h : fieldRange g f = some (.choice cs)) (hcs : cs ≠ []) :
    takenValue g f v
      = some ((cs.find? (fun c => decide ((v.toNat : Int) ≤ c))).getD (cs.getLastD 0)) := by
  rw [takenValue_of_range v h, askedValue_of_unsigned v h rfl, ← clampChoice_eq hcs]
  rfl

theorem takenValue_of_member {k : Int} (h : fieldRange g f = some (.member k)) :
    takenValue g f v = if (v.toNat : Int) < k then some (v.toNat : Int) else none := by
  rw [takenValue_of_range v h, askedValue_of_unsigned v h rfl]
  simp [FieldRange.accept, FieldRange.ok]

theorem takenValue_of_classes (h : fieldRange g f = some .classes) :
    takenValue g f v = if (v.toNat : Int) < 128 then some (v.toNat : Int) else none := by
  rw [takenValue_of_range v h, askedValue_of_unsigned v h rfl]
  simp [FieldRange.accept, FieldRange.ok]

end

/-! ### The runs of equal ranges (11.1) -/

theorem fieldRange_breakCodes {f : Nat} (h : 13 ≤ f) (h' : f ≤ 21) :
    fieldRange 1 f = some (.number 0 1023) := by
  interval_cases f <;> rfl

theorem fieldRange_breakTemps {f : Nat} (h : 22 ≤ f) (h' : f ≤ 30) :
    fieldRange 1 f = some (.temperature (-40) 400) := by
  interval_cases f <;> rfl

theorem fieldRange_decay {f : Nat} (h : 6 ≤ f) (h' : f ≤ 21) : fieldRange 4 f = some (.number 0 256) := by
  interval_cases f <;> rfl

theorem write_eq (c : WorkingCopy) (g f : Nat) (v : Half) : c.write g f v
    = (takenValue g f v).map fun x => ((c.setField g f x).settle g f,
        x != askedValue g f v || (c.setField g f x).settle g f != c.setField g f x) := by
  unfold WorkingCopy.write takenValue
  cases h : fieldRange g f with
  | none => rfl
  | some r =>
    simp only [decode_of_fieldRange h, Option.bind_some]
    cases r.accept (askedValue g f v) <;> rfl

/-! ### The command (R98, R173) -/

theorem exec_configWrite_of_bad {s : State} (dt : Nat) (tag g f : Byte) (v : Half) (hs : s.serving)
    (h : takenValue g.toNat f.toNat v = none) :
    exec (.configWrite dt tag g f v) s = .next (s.answered dt 0x0F#8 tag ⟨.badArg, []⟩) := by
  have hserved := request_served s dt tag (.configWrite g f v) hs.listening
  refine congrArg _ (hserved.trans ?_)
  have hrun := hs.inRun_asked dt (Request.configWrite g f v).kind tag
  have hwrite : (s.asked dt (Request.configWrite g f v).kind tag).cfg.write g.toNat f.toNat v = none := by
    rw [write_eq, h]
    rfl
  simp only [State.serve, State.serveConfigWrite, hrun, hwrite]
  rfl

theorem exec_configWrite_of_taken {s : State} (dt : Nat) (tag g f : Byte) (v : Half) (hs : s.serving)
    {x : Int} (h : takenValue g.toNat f.toNat v = some x) :
    exec (.configWrite dt tag g f v) s = .next
      { s.answered dt 0x0F#8 tag
          ⟨if x = askedValue g.toNat f.toNat v
              ∧ (s.cfg.setField g.toNat f.toNat x).settle g.toNat f.toNat
                = s.cfg.setField g.toNat f.toNat x then .ok else .clamped,
            le16Int (((s.cfg.setField g.toNat f.toNat x).settle g.toNat f.toNat).field g.toNat f.toNat)⟩ with
        cfg := (s.cfg.setField g.toNat f.toNat x).settle g.toNat f.toNat
        ss := { s.ss with
          atWake := s.ss.atWake
            && ((s.cfg.setField g.toNat f.toNat x).settle g.toNat f.toNat).wakeCode ≤ s.ss.vhu.toNat
          atFloor := s.ss.atFloor
            || ((s.cfg.setField g.toNat f.toNat x).settle g.toNat f.toNat).writeFloor ≤ s.ss.vhu.toNat
          atDark := s.ss.atDark
            || ((s.cfg.setField g.toNat f.toNat x).settle g.toNat f.toNat).darkCode ≤ s.ss.vhu.toNat } } := by
  have hserved := request_served s dt tag (.configWrite g f v) hs.listening
  refine congrArg _ (hserved.trans ?_)
  have hrun : (s.asked dt 0x0F#8 tag).inRun = true := hs.inRun_asked dt 0x0F#8 tag
  have hwrite : (s.asked dt 0x0F#8 tag).cfg.write g.toNat f.toNat v
      = some ((s.cfg.setField g.toNat f.toNat x).settle g.toNat f.toNat,
          x != askedValue g.toNat f.toNat v
            || (s.cfg.setField g.toNat f.toNat x).settle g.toNat f.toNat
              != s.cfg.setField g.toNat f.toNat x) := by
    rw [write_eq, h]
    rfl
  generalize (s.cfg.setField g.toNat f.toNat x).settle g.toNat f.toNat = c at hwrite ⊢
  have hpower : s.ss.power ≠ .dark := by rw [hs.1]; decide
  have hcompared : ({ s.asked dt 0x0F#8 tag with cfg := c } : State).recompare
      = { s.asked dt 0x0F#8 tag with
          cfg := c
          ss := { s.ss with
            atWake := s.ss.atWake && c.wakeCode ≤ s.ss.vhu.toNat
            atFloor := s.ss.atFloor || c.writeFloor ≤ s.ss.vhu.toNat
            atDark := s.ss.atDark || c.darkCode ≤ s.ss.vhu.toNat } } := by
    have hthreshold : ({ s.asked dt 0x0F#8 tag with cfg := c } : State).wakeThreshold = c.wakeCode :=
      if_neg hpower
    rw [State.recompare, State.noteVhu, hthreshold]
    rfl
  have hstatus : (if (x != askedValue g.toNat f.toNat v || c != s.cfg.setField g.toNat f.toNat x) = true
        then Status.clamped else .ok)
      = if x = askedValue g.toNat f.toNat v ∧ c = s.cfg.setField g.toNat f.toNat x then .ok
        else .clamped := by
    by_cases hx : x = askedValue g.toNat f.toNat v
    · by_cases hc : c = s.cfg.setField g.toNat f.toNat x <;> simp [hx, hc]
    · simp [hx]
  have hserve : (s.asked dt 0x0F#8 tag).serve (.configWrite g f v)
      = (({ s.asked dt 0x0F#8 tag with cfg := c } : State).recompare,
          some (.done (x != askedValue g.toNat f.toNat v || c != s.cfg.setField g.toNat f.toNat x)
            (le16Int (c.field g.toNat f.toNat)))) := by
    simp only [State.serve, State.serveConfigWrite, hrun, hwrite]
    rfl
  refine (congrArg Served.settle hserve).trans ?_
  rw [hcompared, ← hstatus]
  rfl

/-! ### The order kept, entry by entry (R98, R174) -/

theorem lowerAfter_getD (x : Int) (xs : List Int) {i : Nat} (h : i < xs.length) :
    (x :: lowerAfter x xs).getD (i + 1) 0
      = min ((x :: xs).getD (i + 1) 0) ((x :: lowerAfter x xs).getD i 0) := by
  induction xs generalizing x i with
  | nil => cases h
  | cons y ys ih =>
    have hlow : (if y > x then x else y) = min y x := by omega
    cases i with
    | zero => simpa [lowerAfter] using hlow
    | succ i =>
      have hrest := ih (x := if y > x then x else y) (i := i) (by simpa using h)
      simpa [lowerAfter] using hrest

theorem raiseAfter_getD (x : Int) (xs : List Int) {i : Nat} (h : i < xs.length) :
    (x :: raiseAfter x xs).getD (i + 1) 0
      = if (x :: xs).getD (i + 1) 0 ≤ (x :: raiseAfter x xs).getD i 0
        then min 1023 ((x :: raiseAfter x xs).getD i 0 + 1) else (x :: xs).getD (i + 1) 0 := by
  induction xs generalizing x i with
  | nil => cases h
  | cons y ys ih =>
    cases i with
    | zero => simp [raiseAfter]
    | succ i =>
      have hrest := ih (x := if y ≤ x then min 1023 (x + 1) else y) (i := i) (by simpa using h)
      simpa [raiseAfter] using hrest

theorem downwardPass_getD (xs : List Int) {i : Nat} (h : i + 1 < xs.length) :
    (downwardPass xs).getD i 0 = if (downwardPass xs).getD (i + 1) 0 ≤ xs.getD i 0
      then (downwardPass xs).getD (i + 1) 0 - 1 else xs.getD i 0 := by
  induction xs generalizing i with
  | nil => cases h
  | cons x xs ih =>
    unfold downwardPass
    cases hd : downwardPass xs with
    | nil =>
      have hlength := length_downwardPass xs
      rw [hd] at hlength
      simp only [List.length_nil, List.length_cons] at hlength h
      omega
    | cons y ys =>
      cases i with
      | zero => simp
      | succ i =>
        have hrest := ih (i := i) (by simpa using h)
        rw [hd] at hrest
        simpa using hrest

/-- The last entry of a downward pass is as it was. -/
theorem downwardPass_getD_last (xs : List Int) {i : Nat} (h : i + 1 = xs.length) :
    (downwardPass xs).getD i 0 = xs.getD i 0 := by
  induction xs generalizing i with
  | nil => cases h
  | cons x xs ih =>
    unfold downwardPass
    cases i with
    | zero =>
      have hnil : xs = [] := List.eq_nil_of_length_eq_zero (by simpa using h.symm)
      rw [hnil]
      rfl
    | succ i =>
      have hrest := ih (i := i) (by simpa using h)
      cases hd : downwardPass xs with
      | nil =>
        rw [hd] at hrest
        simpa using hrest
      | cons y ys =>
        rw [hd] at hrest
        simpa using hrest

/-- The entries in front of a table and the table behind them. -/
theorem getD_splice (front mid : List Int) (tail : List Int) (i : Nat) :
    (i < front.length → (front ++ mid ++ tail).getD i 0 = front.getD i 0)
      ∧ (i < mid.length → (front ++ mid ++ tail).getD (front.length + i) 0 = mid.getD i 0) := by
  simp only [List.getD_eq_getElem?_getD]
  refine ⟨fun h => ?_, fun h => ?_⟩
  · rw [List.append_assoc, List.getElem?_append_left h]
  · rw [List.getElem?_append_left (by simpa using h), List.getElem?_append_right (by omega)]
    simp

theorem getD_take (xs : List Int) {n i : Nat} (h : i < n) : (xs.take n).getD i 0 = xs.getD i 0 := by
  simp only [List.getD_eq_getElem?_getD, List.getElem?_take_of_lt h]

theorem getD_drop (xs : List Int) (n i : Nat) : (xs.drop n).getD i 0 = xs.getD (n + i) 0 := by
  simp only [List.getD_eq_getElem?_getD, List.getElem?_drop]

theorem exists_cons_of_length {xs : List Int} {n : Nat} (h : xs.length = n + 1) :
    ∃ y ys, xs = y :: ys ∧ ys.length = n := by
  cases xs with
  | nil => cases h
  | cons y ys => exact ⟨y, ys, rfl, by simpa using h⟩

/-- The decay table is lowered from its second entry on (R174). -/
theorem withDecay_entries {c : WorkingCopy} (h : c.plan.length = 22) :
    (∀ i < 7, c.withDecay.plan.getD i 0 = c.plan.getD i 0)
      ∧ ∀ i < 15, c.withDecay.plan.getD (7 + i) 0
        = min (c.plan.getD (7 + i) 0) (c.withDecay.plan.getD (6 + i) 0) := by
  obtain ⟨y, ys, hdrop, hlength⟩ := exists_cons_of_length (xs := c.plan.drop 6) (n := 15) (by simp [h])
  have hfront : (c.plan.take 6).length = 6 := by simp [h]
  have hplan : c.withDecay.plan = c.plan.take 6 ++ (y :: lowerAfter y ys) ++ [] := by
    simp [WorkingCopy.withDecay, hdrop, normaliseDecay]
  have hold : ∀ i, c.plan.getD (6 + i) 0 = (y :: ys).getD i 0 := fun i => by
    rw [← hdrop, getD_drop]
  have hbefore : ∀ i < 6, c.withDecay.plan.getD i 0 = c.plan.getD i 0 := fun i hi => by
    rw [hplan, (getD_splice _ _ _ i).1 (by omega), getD_take _ hi]
  have hnew : ∀ i < 16, c.withDecay.plan.getD (6 + i) 0 = (y :: lowerAfter y ys).getD i 0 := fun i hi => by
    have hin := (getD_splice (c.plan.take 6) (y :: lowerAfter y ys) [] i).2 (by simp; omega)
    rw [hplan, ← hin, hfront]
  refine ⟨fun i hi => ?_, fun i hi => ?_⟩
  · rcases Nat.lt_or_eq_of_le (Nat.le_of_lt_succ hi) with hi | rfl
    · exact hbefore i hi
    · exact (hnew 0 (by decide)).trans (hold 0).symm
  · rw [show 7 + i = 6 + (i + 1) by omega, hnew _ (by omega), hnew _ (by omega), hold]
    exact lowerAfter_getD y ys (by omega)

/-- The upward pass over the breakpoint codes, entry by entry (R174). -/
theorem upwardPass_entries {xs : List Int} {n : Nat} (h : xs.length = n + 1) :
    (upwardPass xs).getD 0 0 = xs.getD 0 0
      ∧ ∀ i < n, (upwardPass xs).getD (i + 1) 0 = if xs.getD (i + 1) 0 ≤ (upwardPass xs).getD i 0
          then min 1023 ((upwardPass xs).getD i 0 + 1) else xs.getD (i + 1) 0 := by
  obtain ⟨y, ys, rfl, hlength⟩ := exists_cons_of_length h
  exact ⟨rfl, fun i hi => raiseAfter_getD y ys (by omega)⟩

/-- The breakpoint codes are raised, then lowered (R174). -/
theorem withCodes_entries {c : WorkingCopy} (h : c.part.length = 31) :
    (∀ i < 31, i < 13 ∨ 22 ≤ i → c.withCodes.part.getD i 0 = c.part.getD i 0)
      ∧ ∀ i < 9, c.withCodes.part.getD (13 + i) 0 = (normaliseCodes c.breakCodes).getD i 0 := by
  have hfront : (c.part.take 13).length = 13 := by simp [h]
  have hmid : (normaliseCodes c.breakCodes).length = 9 := by simp [WorkingCopy.breakCodes, h]
  have hpart : c.withCodes.part = c.part.take 13 ++ normaliseCodes c.breakCodes ++ c.part.drop 22 := rfl
  refine ⟨fun i hi hout => ?_, fun i hi => ?_⟩
  · rcases hout with hlow | hhigh
    · rw [hpart, (getD_splice _ _ _ i).1 (by omega), getD_take _ hlow]
    · have hbehind := (getD_splice (c.part.take 13 ++ normaliseCodes c.breakCodes) (c.part.drop 22) []
        (i - 22)).2 (by simp [h]; omega)
      rw [List.append_nil, List.length_append, hfront, hmid, getD_drop] at hbehind
      rw [show 13 + 9 + (i - 22) = i by omega] at hbehind
      exact hbehind
  · rw [hpart, ← (getD_splice (c.part.take 13) (normaliseCodes c.breakCodes) (c.part.drop 22) i).2 (by omega),
      hfront]

theorem breakCodes_getD (c : WorkingCopy) {i : Nat} (h : i < 9) :
    c.breakCodes.getD i 0 = c.part.getD (13 + i) 0 := by
  rw [WorkingCopy.breakCodes, getD_take _ h, getD_drop]

/-- The thresholds are put in order, and dark is kept (R98). -/
theorem withThresholds_entries {c : WorkingCopy} (h : c.part.length = 31) :
    (∀ i < 31, i < 5 ∨ 8 ≤ i → c.withThresholds.part.getD i 0 = c.part.getD i 0)
      ∧ c.withThresholds.part.getD 7 0 = max (c.part.getD 7 0) (c.part.getD 8 0 + 1)
      ∧ c.withThresholds.part.getD 5 0 = max (c.part.getD 5 0) (c.withThresholds.part.getD 7 0)
      ∧ c.withThresholds.part.getD 6 0 = max (c.part.getD 6 0) (c.withThresholds.part.getD 5 0) := by
  refine ⟨fun i hi hout => ?_, ?_, ?_, ?_⟩
  · have hne : ¬ 7 = i ∧ ¬ 5 = i ∧ ¬ 6 = i := by omega
    simp [WorkingCopy.withThresholds, List.getD_eq_getElem?_getD, hne]
  all_goals
    simp [WorkingCopy.withThresholds, WorkingCopy.partField, List.getD_eq_getElem?_getD, h]

end Sys2Proof.Machine

open Sys2Proof Sys2Proof.Machine

/-- Settles O9: the field's range decides the value taken, and the settled copy is in order. -/
theorem configWriteWritesOneField : Obligations.ConfigWriteWritesOneField := by
  refine ⟨fun dt tag g f v s hs => ?_, fun c g f hc => ?_⟩
  · intro n clamp choose member asked taken
    have hasked : asked = askedValue g.toNat f.toNat v := askedValue_of_bytes g f v
    have htaken : taken = takenValue g.toNat f.toNat v := by
      clear_value asked
      unfold taken
      generalize g.toNat = group, f.toNat = field at hasked ⊢
      have htemperature : ∀ {lo hi}, fieldRange group field = some (.temperature lo hi) →
          clamp lo hi asked = takenValue group field v := fun h => by
        rw [takenValue_of_temperature v h, ← hasked]
      have hunknown : fieldCount group ≤ field → none = takenValue group field v := fun h =>
        (takenValue_of_none v ((fieldRange_eq_none_iff group field).mpr h)).symm
      have hnumber : ∀ {lo hi}, fieldRange group field = some (.number lo hi) →
          clamp lo hi n = takenValue group field v := fun h => (takenValue_of_number v h).symm
      have hchoice : ∀ {cs}, fieldRange group field = some (.choice cs) → cs ≠ [] →
          choose cs = takenValue group field v := fun h hcs => (takenValue_of_choice v h hcs).symm
      have hmember : ∀ {k}, fieldRange group field = some (.member k) →
          member k = takenValue group field v := fun h => (takenValue_of_member v h).symm
      clear hasked
      match group with
      | 1 =>
        match field with
        | 0 => exact hchoice rfl nofun
        | 1 | 2 | 3 | 4 | 5 | 6 | 7 | 8 | 9 | 11 | 12 => exact hnumber rfl
        | 10 => exact (takenValue_of_classes v rfl).symm
        | k + 13 =>
          change (if k + 13 ≤ 21 then _ else if k + 13 ≤ 30 then _ else none) = _
          split
          · exact hnumber (fieldRange_breakCodes (by omega) (by omega))
          · split
            · exact htemperature (fieldRange_breakTemps (by omega) (by omega))
            · exact hunknown (by change 31 ≤ _; omega)
      | 2 | 3 =>
        match field with
        | 0 | 15 | 17 => exact hmember rfl
        | 1 | 2 | 3 | 4 | 5 | 6 | 7 | 13 | 16 => exact hnumber rfl
        | 8 | 9 | 10 | 11 | 12 => exact hchoice rfl nofun
        | 14 => exact htemperature rfl
        | k + 18 => exact hunknown (by change 18 ≤ _; omega)
      | 4 =>
        match field with
        | 0 => exact htemperature rfl
        | 1 | 2 | 3 | 4 | 5 => exact hnumber rfl
        | k + 6 =>
          change (if k + 6 ≤ 21 then _ else none) = _
          split
          · exact hnumber (fieldRange_decay (by omega) (by omega))
          · exact hunknown (by change 22 ≤ _; omega)
      | 0 => exact hunknown (Nat.zero_le _)
      | _ + 5 => exact hunknown (Nat.zero_le _)
    clear_value taken asked
    refine ⟨fun hnone => exec_configWrite_of_bad dt tag g f v hs (htaken.symm.trans hnone),
      fun x hx => ?_⟩
    rw [hasked]
    exact exec_configWrite_of_taken dt tag g f v hs (htaken.symm.trans hx)
  · obtain ⟨hpart, -, -, hplan⟩ := (shaped_iff c).mp hc
    intro w up
    refine ⟨fun hg hf => ?_, fun hg hf => ?_, fun hg hlow hhigh => ?_, fun hdecay hcodes hthresholds => ?_⟩
    · have hw : w = c.withDecay := if_pos ⟨hg, hf⟩
      obtain ⟨hkept, hlowered⟩ := withDecay_entries hplan
      obtain ⟨-, -, -, hlength⟩ := (shaped_iff _).mp (shaped_withDecay hc)
      rw [hw]
      exact ⟨rfl, hlength, hkept, hlowered⟩
    · have hw : w = c.withCodes := (if_neg (by omega)).trans (if_pos ⟨hg, hf⟩)
      obtain ⟨hkept, hcodes⟩ := withCodes_entries hpart
      obtain ⟨hlength, -, -, -⟩ := (shaped_iff _).mp (shaped_withCodes hc)
      have hbreak : c.breakCodes.length = 9 := by simp [WorkingCopy.breakCodes, hpart]
      obtain ⟨hfirst, hraised⟩ := upwardPass_entries (n := 8) hbreak
      rw [hw]
      refine ⟨rfl, hlength, hkept, hfirst.trans (breakCodes_getD c (by decide)), fun i hi => ?_, ?_,
        fun i hi => ?_⟩
      · rw [show 14 + i = 13 + (i + 1) by omega, ← breakCodes_getD c (by omega)]
        exact hraised i hi
      · exact (hcodes 8 (by decide)).trans (downwardPass_getD_last _ (by simp [hbreak]))
      · rw [show 14 + i = 13 + (i + 1) by omega, hcodes i (by omega), hcodes (i + 1) (by omega)]
        exact downwardPass_getD _ (by simp [hbreak]; omega)
    · have hw : w = c.withThresholds :=
        (if_neg (by omega)).trans ((if_neg (by omega)).trans (if_pos ⟨hg, hlow, hhigh⟩))
      obtain ⟨hlength, -, -, -⟩ := (shaped_iff _).mp (shaped_withThresholds hc)
      rw [hw]
      exact ⟨rfl, hlength, withThresholds_entries hpart⟩
    · exact (if_neg hdecay).trans ((if_neg hcodes).trans (if_neg hthresholds))
end
